-- ==== Sys2Proof/Word.lean ====
section
/-! DEFINITION. The word types of the vent line: a byte, and the 16-bit word of tags and CRCs. -/

namespace Sys2Proof

/-- One byte of a frame. -/
abbrev Byte := BitVec 8

/-- The 16-bit words of a frame: the sequence tag and the CRC (Table 9.4). -/
abbrev Word16 := BitVec 16

end Sys2Proof
end

