-- ==== Sys2Proof/Config.lean ====
section
/-! DEFINITION. The free values: what the spec leaves open although the step goes on. Each is an opaque constant applied
to the model's counter `freeCount`, so a claim about it holds for every value. -/

namespace Sys2Proof

/-- FREE VALUE (logs 5 and 6): which of two events of one step is taken first, where the spec gives both orders
(R19 and R157 for LINE_OK, R74 for STATION RESET). -/
opaque Config.freeOrder : Nat → Bool

/-- FREE VALUE (log 7): the queue rank of a share holder whose re-target carries the queue rank none (R49, R76). -/
opaque Config.freeRank : Nat → Fin 6

end Sys2Proof
end

