-- ==== Sys2Proof/Syntax.lean ====
section
/-! DEFINITION. The commands of the MV620: one constructor of `Instr` per row of spec/opcode_table.json. -/

namespace Sys2Proof

/-- The six channels CH0 to CH5 (00_scope, Table 0.1 note 1). -/
inductive Chan where
  | ch0 | ch1 | ch2 | ch3 | ch4 | ch5
  deriving DecidableEq, Repr

/-- The four local inputs IN1 to IN4 (Table 8.1). -/
inductive InputNo where
  | in1 | in2 | in3 | in4
  deriving DecidableEq, Repr

/-- The two ports of the station (R143): the U-port faces the line head, the D-port the next station. -/
inductive Port where
  | uPort | dPort
  deriving DecidableEq, Repr

/-- The six claim classes (Table 0.2), from rank 1 to rank 6. -/
inductive ClaimClass where
  | smoke | service | fallback | manual | comfort | airing
  deriving DecidableEq, Repr

/-- A frame of the vent line (Table 9.4). The payload length byte and the CRC follow from the other fields. -/
structure Frame where
  kind    : Byte
  station : Byte
  tag     : Word16
  payload : List Byte
  deriving DecidableEq, Repr

/-- The commands. A frame command carries the header's station byte, the sequence tag and the payload as received;
a sampling command carries what is read at the pin (log 12). -/
inductive Instr where
  | powerOnReset
  | portUp (p : Port)
  | portDown (p : Port)
  | frameDiscarded (p : Port) (bytes : List Byte) (byteError : Bool)
  | upstreamFrameAccepted (f : Frame)
  | demand (station : Byte) (tag : Word16) (payload : List Byte)
  | release (station : Byte) (tag : Word16) (payload : List Byte)
  | weather (station : Byte) (tag : Word16) (payload : List Byte)
  | beacon (station : Byte) (tag : Word16) (payload : List Byte)
  | unknownKindFrame (f : Frame)
  | enumerate (station : Byte) (tag : Word16) (payload : List Byte)
  | groupWrite (station : Byte) (tag : Word16) (payload : List Byte)
  | profileWrite (station : Byte) (tag : Word16) (payload : List Byte)
  | inputWrite (station : Byte) (tag : Word16) (payload : List Byte)
  | settingsWrite (station : Byte) (tag : Word16) (payload : List Byte)
  | tableRead (station : Byte) (tag : Word16) (payload : List Byte)
  | statusRead (station : Byte) (tag : Word16) (payload : List Byte)
  | clearFault (station : Byte) (tag : Word16) (payload : List Byte)
  | clearSupply (station : Byte) (tag : Word16)
  | stationReset (station : Byte) (tag : Word16) (payload : List Byte)
  | dPortTransmitStart (ready : Bool)
  | dPortFrameSent
  | uPortTransmitChoice (ready : Bool)
  | uPortFrameSent
  | lineWatchdogExpiry
  | claimExpiry (ch : Chan) (cls : ClaimClass)
  | releaseTimerExpiry
  | settleTimerExpiry
  | rainReleaseTimerExpiry
  | staleTimeExpiry
  | airingDwellExpiry (ch : Chan)
  | debounceTimerExpiry (n : InputNo)
  | pulse (ch : Chan) (highMicros : Nat)
  | pulsePeriodTimeout (ch : Chan)
  | stallTimerExpiry (ch : Chan)
  | blankingTimerExpiry (ch : Chan)
  | filterTimerExpiry (ch : Chan)
  | shortFilterExpiry (ch : Chan)
  | timedDurationReached (ch : Chan)
  | brakeSettleExpiry (ch : Chan)
  | reverseDwellExpiry (ch : Chan)
  | restTimerExpiry (ch : Chan)
  | rampStep (ch : Chan)
  | staggerTimerExpiry
  | firstSupplyMeasurement (v1 v2 v3 v4 : Nat)
  | supplyMeasurement (v : Nat)
  | holdOffExpiry
  | thermalMeasurement (celsius : Int)
  | currentSample (ch : Chan) (value : Nat)
  | pwmPeriod
  | inputSample (high1 high2 high3 high4 : Bool)
  | frameFirstByte (p : Port)
  deriving DecidableEq, Repr

end Sys2Proof
end

