-- ==== Sys2Proof/WellFormed.lean ====
section
/-! DEFINITION. Which commands can be spelled: what the line and the pins can deliver. -/

namespace Sys2Proof

/-- The codes of the ten downstream kinds (Table 9.5). -/
def downstreamKinds : List Byte := [0x01, 0x02, 0x03, 0x04, 0x05, 0x10, 0x11, 0x12, 0x13, 0x14]

/-- A frame's payload holds 0 to 48 bytes (Table 9.4). -/
def payloadFits (payload : List Byte) : Bool := payload.length ≤ 48

/-- The table select of a TABLE WRITE names the table `code` (R159); a TABLE WRITE with no payload names none and is
spelled as a GROUP_WRITE (log 17). -/
def selectsTable (code : Nat) (payload : List Byte) : Bool :=
  match payload with
  | [] => code == 0
  | sel :: _ => sel.toNat / 64 == code

/-- The commands the line and the pins can deliver. -/
def Instr.wf : Instr → Bool
  | .powerOnReset => true
  | .portUp _ => true
  | .portDown _ => true
  | .frameDiscarded _ _ _ => true
  | .upstreamFrameAccepted f => payloadFits f.payload
  | .demand _ _ p => payloadFits p
  | .release _ _ p => payloadFits p
  | .weather _ _ p => payloadFits p
  | .beacon _ _ p => payloadFits p
  | .unknownKindFrame f => payloadFits f.payload && !downstreamKinds.contains f.kind
  | .enumerate _ _ p => payloadFits p
  | .groupWrite _ _ p => payloadFits p && selectsTable 0 p
  | .profileWrite _ _ p => payloadFits p && selectsTable 1 p
  | .inputWrite _ _ p => payloadFits p && selectsTable 2 p
  | .settingsWrite _ _ p => payloadFits p && selectsTable 3 p
  | .tableRead _ _ p => payloadFits p
  | .statusRead _ _ p => payloadFits p
  | .clearFault _ _ p => payloadFits p && p != [0x80]
  | .clearSupply _ _ => true
  | .stationReset _ _ p => payloadFits p
  | .dPortTransmitStart _ => true
  | .dPortFrameSent => true
  | .uPortTransmitChoice _ => true
  | .uPortFrameSent => true
  | .lineWatchdogExpiry => true
  | .claimExpiry _ _ => true
  | .releaseTimerExpiry => true
  | .settleTimerExpiry => true
  | .rainReleaseTimerExpiry => true
  | .staleTimeExpiry => true
  | .airingDwellExpiry _ => true
  | .debounceTimerExpiry _ => true
  | .pulse _ _ => true
  | .pulsePeriodTimeout _ => true
  | .stallTimerExpiry _ => true
  | .blankingTimerExpiry _ => true
  | .filterTimerExpiry _ => true
  | .shortFilterExpiry _ => true
  | .timedDurationReached _ => true
  | .brakeSettleExpiry _ => true
  | .reverseDwellExpiry _ => true
  | .restTimerExpiry _ => true
  | .rampStep _ => true
  | .staggerTimerExpiry => true
  | .firstSupplyMeasurement a b c d => a ≤ 400 && b ≤ 400 && c ≤ 400 && d ≤ 400
  | .supplyMeasurement v => v ≤ 400
  | .holdOffExpiry => true
  | .thermalMeasurement t => -55 ≤ t && t ≤ 200
  | .currentSample _ v => v ≤ 255
  | .pwmPeriod => true
  | .inputSample _ _ _ _ => true
  | .frameFirstByte _ => true

end Sys2Proof
end

