-- ==== Sys2Proof/Decode.lean ====
section
/-! DEFINITION. Byte order, the CRC, the frame checker of R145, and the reading of a received frame as a command. -/

namespace Sys2Proof

/-! ### Byte order: multi-byte fields are sent most significant byte first (9.7) -/

def byteOf (n : Nat) : Byte := BitVec.ofNat 8 n

/-- Two bytes, the most significant first. -/
def be16 (n : Nat) : List Byte := [byteOf (n / 256), byteOf n]

/-- The number of two bytes, the most significant first. -/
def ofBe16 (hi lo : Byte) : Nat := hi.toNat * 256 + lo.toNat

/-- Byte `i` of a payload; 0 past its end. -/
def byteAt (l : List Byte) (i : Nat) : Byte := l.getD i 0

/-- The two-byte field whose first byte is byte `i` of a payload. -/
def wordAt (l : List Byte) (i : Nat) : Nat := ofBe16 (byteAt l i) (byteAt l (i + 1))

/-- A flag as the lowest bit of a number. -/
def bitOf (b : Bool) : Nat := if b then 1 else 0

/-! ### The CRC of R145: generator x^16 + x^12 + x^5 + 1, initial value FFFFh, most significant bit first, not inverted -/

def crcBit (c : Word16) : Word16 := if c.msb then (c <<< 1) ^^^ 0x1021 else c <<< 1

def crcByte (c : Word16) (b : Byte) : Word16 :=
  crcBit (crcBit (crcBit (crcBit (crcBit (crcBit (crcBit (crcBit (c ^^^ (b.setWidth 16 <<< 8)))))))))

def crc16 (bytes : List Byte) : Word16 := bytes.foldl crcByte 0xFFFF

/-! ### Frames on the wire (Table 9.4) -/

/-- Every byte of a frame from the kind through the last payload byte. -/
def Frame.body (f : Frame) : List Byte :=
  f.kind :: byteOf f.payload.length :: f.station :: (be16 f.tag.toNat ++ f.payload)

/-- A frame as it stands on the wire: its body and its CRC, the high byte first. -/
def Frame.wire (f : Frame) : List Byte := f.body ++ be16 (crc16 f.body).toNat

/-- The checker of R145: what a received frame must satisfy to be accepted. -/
def frameChecks (bytes : List Byte) (byteError : Bool) : Bool :=
  !byteError && 7 ≤ bytes.length && (byteAt bytes 1).toNat ≤ 48
    && bytes.length == 7 + (byteAt bytes 1).toNat
    && (crc16 (bytes.take (bytes.length - 2))).toNat == wordAt bytes (bytes.length - 2)

/-- The frame of an accepted run of bytes. -/
def frameOf (bytes : List Byte) : Frame :=
  { kind := byteAt bytes 0, station := byteAt bytes 2, tag := BitVec.ofNat 16 (wordAt bytes 3),
    payload := (bytes.drop 5).take (bytes.length - 7) }

/-- The TABLE WRITE command of the table that the table select names (R159). -/
def tableWriteCommand (f : Frame) : Instr :=
  match (byteAt f.payload 0).toNat / 64 with
  | 0 => .groupWrite f.station f.tag f.payload
  | 1 => .profileWrite f.station f.tag f.payload
  | 2 => .inputWrite f.station f.tag f.payload
  | _ => .settingsWrite f.station f.tag f.payload

/-- The command that a frame accepted on the U-port is, by its kind (Table 9.5, R145). -/
def downstreamCommand (f : Frame) : Instr :=
  match f.kind.toNat with
  | 0x01 => .demand f.station f.tag f.payload
  | 0x02 => .release f.station f.tag f.payload
  | 0x03 => .weather f.station f.tag f.payload
  | 0x04 => .beacon f.station f.tag f.payload
  | 0x05 => .enumerate f.station f.tag f.payload
  | 0x10 => tableWriteCommand f
  | 0x11 => .tableRead f.station f.tag f.payload
  | 0x12 => .statusRead f.station f.tag f.payload
  | 0x13 => if f.payload = [0x80] then .clearSupply f.station f.tag else .clearFault f.station f.tag f.payload
  | 0x14 => .stationReset f.station f.tag f.payload
  | _ => .unknownKindFrame f

/-- The command that the bytes received on a port are: the port decides the direction, whatever the kind (R145). -/
def receivedCommand (p : Port) (bytes : List Byte) (byteError : Bool) : Instr :=
  if frameChecks bytes byteError then
    match p with
    | .uPort => downstreamCommand (frameOf bytes)
    | .dPort => .upstreamFrameAccepted (frameOf bytes)
  else .frameDiscarded p bytes byteError

/-- The frame that a frame command carries, with its kind's code (Table 9.5), and the port it is received on. -/
def Instr.frame : Instr → Option (Port × Frame)
  | .demand st tag p => some (.uPort, ⟨0x01, st, tag, p⟩)
  | .release st tag p => some (.uPort, ⟨0x02, st, tag, p⟩)
  | .weather st tag p => some (.uPort, ⟨0x03, st, tag, p⟩)
  | .beacon st tag p => some (.uPort, ⟨0x04, st, tag, p⟩)
  | .enumerate st tag p => some (.uPort, ⟨0x05, st, tag, p⟩)
  | .groupWrite st tag p => some (.uPort, ⟨0x10, st, tag, p⟩)
  | .profileWrite st tag p => some (.uPort, ⟨0x10, st, tag, p⟩)
  | .inputWrite st tag p => some (.uPort, ⟨0x10, st, tag, p⟩)
  | .settingsWrite st tag p => some (.uPort, ⟨0x10, st, tag, p⟩)
  | .tableRead st tag p => some (.uPort, ⟨0x11, st, tag, p⟩)
  | .statusRead st tag p => some (.uPort, ⟨0x12, st, tag, p⟩)
  | .clearFault st tag p => some (.uPort, ⟨0x13, st, tag, p⟩)
  | .clearSupply st tag => some (.uPort, ⟨0x13, st, tag, [0x80]⟩)
  | .stationReset st tag p => some (.uPort, ⟨0x14, st, tag, p⟩)
  | .unknownKindFrame f => some (.uPort, f)
  | .upstreamFrameAccepted f => some (.dPort, f)
  | .powerOnReset | .portUp _ | .portDown _ | .frameDiscarded _ _ _ | .dPortTransmitStart _ | .dPortFrameSent
  | .uPortTransmitChoice _ | .uPortFrameSent | .lineWatchdogExpiry | .claimExpiry _ _ | .releaseTimerExpiry
  | .settleTimerExpiry | .rainReleaseTimerExpiry | .staleTimeExpiry | .airingDwellExpiry _ | .debounceTimerExpiry _
  | .pulse _ _ | .pulsePeriodTimeout _ | .stallTimerExpiry _ | .blankingTimerExpiry _ | .filterTimerExpiry _
  | .shortFilterExpiry _ | .timedDurationReached _ | .brakeSettleExpiry _ | .reverseDwellExpiry _ | .restTimerExpiry _
  | .rampStep _ | .staggerTimerExpiry | .firstSupplyMeasurement _ _ _ _ | .supplyMeasurement _ | .holdOffExpiry
  | .thermalMeasurement _ | .currentSample _ _ | .pwmPeriod | .inputSample _ _ _ _ | .frameFirstByte _ => none

/-- The command that a word of the opcode table spells: none, since no row of the table is given bits (log 20). -/
def decodeTableWord (nbits w : Nat) : Option Instr :=
  let _ := (nbits, w)
  none

end Sys2Proof
end

