-- ==== Sys2Proof/Machine/State.lean ====
section
/-! DEFINITION. The state of the MV620: every register, table, queue, timer and mark the spec gives it, as plain data.

A timer is an `Option Nat`: `none` when stopped, `some r` when running with `r` ms remaining; `some 0` is a timer that has
run out and whose expiry has not been taken yet (log 2). -/

namespace Sys2Proof.Machine

/-! ### Families of six channels, six classes and four inputs -/

/-- One value for each of CH0 to CH5. -/
structure PerChan (α : Type) where
  ch0 : α
  ch1 : α
  ch2 : α
  ch3 : α
  ch4 : α
  ch5 : α
  deriving DecidableEq, Repr

/-- One value for each of IN1 to IN4. -/
structure PerInput (α : Type) where
  in1 : α
  in2 : α
  in3 : α
  in4 : α
  deriving DecidableEq, Repr

/-! ### Claims (Chapter 1) -/

/-- Who placed a claim (R4): a frame or FALLBACK (LINE), or local input n. -/
inductive Origin where
  | line
  | input (n : InputNo)
  deriving DecidableEq, Repr

/-- The demand of a claim (Table 1.2). `stay none` is unreferenced-stay. -/
inductive Demand where
  | level (permille : Nat)
  | stay (position : Option Nat)
  deriving DecidableEq, Repr

/-- A claim record (Table 1.2); its class is the slot it stands in. -/
structure Claim where
  origin : Origin
  group  : Option Nat
  demand : Demand
  expiry : Option Nat
  tag    : Nat
  deriving DecidableEq, Repr

/-- The six ranked slots of a channel (R3), in rank order. -/
structure ClaimSlots where
  smoke    : Option Claim := none
  service  : Option Claim := none
  fallback : Option Claim := none
  manual   : Option Claim := none
  comfort  : Option Claim := none
  airing   : Option Claim := none
  deriving DecidableEq, Repr

/-- An admitted-class set (Table 1.1); FALLBACK is in none. -/
structure ClassSet where
  smoke   : Bool := false
  service : Bool := false
  manual  : Bool := false
  comfort : Bool := false
  airing  : Bool := false
  deriving DecidableEq, Repr

/-- A group-table entry (Table 1.1); group number 0 is an empty entry. -/
structure GroupEntry where
  number   : Nat := 0
  members  : PerChan Bool := ⟨false, false, false, false, false, false⟩
  admitted : ClassSet := {}
  deriving DecidableEq, Repr

/-- The phase of an airing cycle (R124). -/
inductive AiringPhase where
  | openPhase | closedPhase
  deriving DecidableEq, Repr

/-- The airing record (Table 7.1). A cycle count of `none` is ENDLESS; dwells are in s, the dwell timer in ms. -/
structure AiringRecord where
  openLevel   : Nat
  openDwell   : Nat
  closedDwell : Nat
  remaining   : Option Nat
  atCreation  : Option Nat
  phase       : AiringPhase
  dwell       : Nat
  deriving DecidableEq, Repr

/-! ### Tables loaded by the line head (Chapter 10) -/

/-- The profile record (Table 10.2), timeouts in the units of Table 9.10 (log 12). -/
structure Profile where
  enable          : Bool := false
  brakeMode       : Bool := false
  windDependent   : Bool := false
  failMoveTo      : Bool := false
  retryLimit      : Nat := 0
  travel          : Nat := 0
  fullTravelTime  : Nat := 0
  deadband        : Nat := 0
  approachDist    : Nat := 0
  startLevel      : Nat := 0
  runLevel        : Nat := 0
  approachLevel   : Nat := 0
  rampRate        : Nat := 0
  weight          : Nat := 0
  stallUnits      : Nat := 0
  settleUnits     : Nat := 0
  startLimit      : Nat := 0
  runLimit        : Nat := 0
  endLimit        : Nat := 0
  shortLimit      : Nat := 0
  blanking        : Nat := 0
  filter          : Nat := 0
  endZone         : Nat := 0
  backoffDist     : Nat := 0
  reverseUnits    : Nat := 0
  driftLimit      : Nat := 0
  initOpen        : Nat := 0
  initClose       : Nat := 0
  windward        : BitVec 16 := 0
  smokeWindward   : Nat := 0
  windCeiling     : Nat := 0
  rainPosition    : Nat := 0
  stormPosition   : Nat := 0
  unknownCeiling  : Nat := 0
  moveToLevel     : Nat := 0
  deriving DecidableEq, Repr

/-- The functions of a local input (Table 8.1). -/
inductive InputFunction where
  | unused | fireContact | manualOpen | manualClose | rainContact | serviceSwitch
  deriving DecidableEq, Repr

/-- An entry of the input table with the state kept beside it (Table 8.1); the debounce is in steps of 10 ms.
`pinHigh` is the pin's level at its last sample (log 29). -/
structure InputEntry where
  function   : InputFunction := .unused
  activeHigh : Bool := false
  debounce   : Nat := 5
  group      : Nat := 0
  level      : Nat := 1000
  hold       : Nat := 300
  active     : Bool := false
  timer      : Option Nat := none
  pinHigh    : Bool := false
  deriving DecidableEq, Repr

/-- The three PWM base frequencies (Table 6.2). -/
inductive BaseFreq where
  | khz16 | khz20 | khz25
  deriving DecidableEq, Repr

/-- The settings record (Table 10.3) with its values after power-on reset. -/
structure Settings where
  defaultHold   : Nat := 900
  w1            : Nat := 80
  w2            : Nat := 150
  hysteresis    : Nat := 15
  releaseDelay  : Nat := 300
  staleTime     : Nat := 120
  settleTime    : Nat := 20
  rainDelay     : Nat := 600
  normalBudget  : Nat := 12
  lowBudget     : Nat := 4
  stagger       : Nat := 300
  cutVolt       : Nat := 180
  lowVolt       : Nat := 210
  overVolt      : Nat := 300
  holdOff       : Nat := 2000
  watchdog      : Nat := 10
  reportMask    : BitVec 13 := 0x1FFF
  latched       : Bool := false
  freq          : BaseFreq := .khz20
  faultHigh     : Bool := false
  faultChannel  : Bool := true
  faultSupply   : Bool := true
  faultThermal  : Bool := true
  faultLine     : Bool := true
  deriving DecidableEq, Repr

/-! ### Weather unit (Chapter 2) -/

inductive WindState where
  | calm | windy | storm | unknown
  deriving DecidableEq, Repr

/-- The weather record and the states derived from it (Table 2.1). `rainWet` is the rain state; `w1InForce` and `hystInForce` are
the limit W1 and the hysteresis of the last WEATHER frame, which R25 keeps until the next one (log 31). -/
structure Weather where
  windSpeed    : Nat := 0
  lineWet      : Bool := false
  age          : Option Nat := none
  staleAt      : Nat := 0
  wind         : WindState := .unknown
  releaseTimer : Option Nat := none
  lastSpeed    : Nat := 0
  settled      : Option Nat := none
  candidate    : Option Nat := none
  settleTimer  : Option Nat := none
  rainWet      : Bool := false
  rainTimer    : Option Nat := none
  w1InForce    : Nat := 80
  hystInForce  : Nat := 15
  deriving DecidableEq, Repr

/-! ### Target selector and channel motion (Chapters 2 and 3) -/

/-- The forms of a target (R42): pulses, a level in per mille, or none. -/
inductive Target where
  | pulses (p : Nat)
  | level (permille : Nat)
  | none
  deriving DecidableEq, Repr

/-- What the selector holds for a channel (Table 2.4), and what the motion engine holds as its target in hand. -/
structure Selection where
  winRank   : Option Nat := none
  target    : Target := .none
  queueRank : Option Nat := none
  deriving DecidableEq, Repr

/-- The motion states (Table 3.1). -/
inductive MotionState where
  | disabled | idle | waiting | moving | braking | dwell | backoff | faulted
  deriving DecidableEq, Repr

inductive FaultCode where
  | short | stalled | obstructed | travel
  deriving DecidableEq, Repr

inductive MoveKind where
  | positioned | reference | timed
  deriving DecidableEq, Repr

inductive Dir where
  | opening | closing
  deriving DecidableEq, Repr

inductive BrakingReason where
  | arrive | stop | obstruct | endReached
  deriving DecidableEq, Repr

inductive HaltCause where
  | shed | preempt | supply | thermal
  deriving DecidableEq, Repr

/-- A stop point (R54): a position, or END for a close to 0. -/
inductive StopPoint where
  | atPosition (position : Int)
  | atEnd
  deriving DecidableEq, Repr

/-- The motion record (Table 3.2), with the minimum-move mark, the timed duration, the drive time of the last timed move
and the coast count that R54, R59 and R60 speak of (log 11), and with the mark that a STATION RESET has stopped the move, for
the ARRIVED of R170 and R175 (log 41). `moveTimer` counts the ms since admission. -/
structure Motion where
  state        : MotionState := .disabled
  fault        : Option FaultCode := none
  referenced   : Bool := false
  moveKind     : Option MoveKind := none
  dir          : Option Dir := none
  reason       : Option BrakingReason := none
  haltCause    : Option HaltCause := none
  hand         : Selection := {}
  stop         : Option StopPoint := none
  minimum      : Bool := false
  retry        : Nat := 0
  eOpen        : Nat := 0
  eClose       : Nat := 0
  timedEst     : Nat := 0
  moveTimer    : Option Nat := none
  duration     : Nat := 0
  driveTime    : Nat := 0
  settleTimer  : Option Nat := none
  dwellTimer   : Option Nat := none
  backoffCount : Nat := 0
  restTimer    : Option Nat := none
  afterBackoff : Bool := false
  timedLimit   : Bool := false
  byReset      : Bool := false
  coast        : Nat := 0
  deriving DecidableEq, Repr

/-- Travel sensing (Table 5.1). `lastPulse` is the moment of the last pulse in 0.1 ms of the time base. -/
structure Travel where
  position  : Int := 0
  runCount  : Nat := 0
  drift     : Nat := 0
  period    : Nat := 0
  lastPulse : Option Nat := none
  stall     : Option Nat := none
  deriving DecidableEq, Repr

/-- Current supervision (Table 5.3); the active limit is computed at each sample (R103). `sample` is the latest sample; the last
sampled current is read through `State.lastSampled`, as it is 0 until the first PWM period has run (R102). -/
structure Current where
  sample     : Nat := 0
  startPhase : Bool := false
  blanking   : Option Nat := none
  filter     : Option Nat := none
  short      : Option Nat := none
  deriving DecidableEq, Repr

/-- Which of the profile's levels is the phase level (Table 6.1). -/
inductive PhaseLevel where
  | start | run | approach
  deriving DecidableEq, Repr

/-- What stands on the two legs of a channel (R115 to R117). -/
inductive LegStage where
  /-- OFF. -/
  | off
  /-- Drive commanded, both legs inactive for this many further period starts (R116). -/
  | startWait (periods : Nat)
  /-- Driven with this on-count in the present period (R113). -/
  | drive (onCount : Nat)
  /-- Drive removed in the present count: the leg keeps its window until the next count boundary, and then goes to BRAKE
  through one inactive count, or to OFF (R116, R117). -/
  | cutting (onCount : Nat) (thenBrake : Bool)
  /-- The one inactive count before BRAKE (R117). -/
  | gap
  /-- BRAKE. -/
  | brake
  /-- BRAKE until the next count boundary, then OFF (log 13). -/
  | releasing
  deriving DecidableEq, Repr

/-- The drive generator of a channel (Table 6.1). -/
structure Drive where
  level   : Nat := 0
  phase   : Option PhaseLevel := none
  ramp    : Option Nat := none
  runMark : Bool := false
  legs    : LegStage := .off
  deriving DecidableEq, Repr

/-- Everything the station holds for one channel. -/
structure Channel where
  profile  : Profile := {}
  slots    : ClaimSlots := {}
  airing   : Option AiringRecord := none
  selected : Selection := {}
  motion   : Motion := {}
  travel   : Travel := {}
  current  : Current := {}
  drive    : Drive := {}
  deriving DecidableEq, Repr

/-! ### Admission unit and monitors (Chapter 4) -/

/-- An entry of the start queue or a share holder (Table 4.1): `time` is the entry time or the admission time in ms. -/
structure QueueEntry where
  chan   : Chan
  rank   : Nat
  time   : Nat
  weight : Nat
  deriving DecidableEq, Repr

/-- The admission unit (Table 4.1). `stagger = none` is an expired timer. -/
structure Admission where
  queue   : List QueueEntry := []
  holders : List QueueEntry := []
  stagger : Option Nat := none
  budget  : Nat := 0
  deriving DecidableEq, Repr

inductive SupplyState where
  | normal | low | cut | overVolt
  deriving DecidableEq, Repr

/-- The supply monitor (R86): the four most recent samples, newest first, and the thresholds of the last measurement, which R91
keeps until the next one (log 31). -/
structure Supply where
  samples  : List Nat := []
  measured : Nat := 0
  formed   : Bool := false
  state    : SupplyState := .cut
  latch    : Bool := false
  holdOff  : Option Nat := none
  cutInForce  : Nat := 180
  lowInForce  : Nat := 210
  overInForce : Nat := 300
  deriving DecidableEq, Repr

inductive ThermalState where
  | normal | warn | shut
  deriving DecidableEq, Repr

/-- The thermal monitor (R92). -/
structure Thermal where
  state       : ThermalState := .normal
  temperature : Int := 0
  formed      : Bool := false
  deriving DecidableEq, Repr

/-! ### Line interface (Chapter 9) -/

/-- A frame in the downstream queue; `acted` marks a DEMAND, RELEASE or ENUMERATE that was acted on (R153). -/
structure DownFrame where
  frame : Frame
  acted : Bool
  deriving DecidableEq, Repr

/-- A frame in reception (R144): begun under an active ready, or against the handshake. -/
inductive Reception where
  | underReady | againstHandshake
  deriving DecidableEq, Repr

/-- Where the frame in the U-port transmitter comes from (R155). -/
inductive TxSource where
  | reply | forwarded | report
  deriving DecidableEq, Repr

structure TxFrame where
  source : TxSource
  frame  : Frame
  deriving DecidableEq, Repr

/-- The line interface and frame processor (Table 9.1). -/
structure Line where
  uUp          : Bool := false
  dUp          : Bool := false
  downQueue    : List DownFrame := []
  upQueue      : List Frame := []
  reply        : Option Frame := none
  forwardedRun : Nat := 0
  reportNumber : Nat := 0
  lost         : Bool := false
  watchdog     : Nat := 10000
  lineError    : Bool := false
  station      : Nat := 0
  uRx          : Option Reception := none
  dRx          : Option Reception := none
  dSending     : Bool := false
  uTx          : Option TxFrame := none
  uCut         : Option TxFrame := none
  deriving DecidableEq, Repr

/-! ### Reports (Chapter 11) -/

inductive ReportKind where
  | arrived | halted | fault | cleared | referenced | drift | airingDone | input | weather | supply | thermal | line
  | freshStart
  deriving DecidableEq, Repr

/-- The four detail bytes of a report record (Table 11.2). -/
structure Detail where
  b5 : Byte := 0
  b6 : Byte := 0
  b7 : Byte := 0
  b8 : Byte := 0
  deriving DecidableEq, Repr

/-- A report record (11.1). -/
structure Report where
  kind     : ReportKind
  chan     : Option Chan := none
  position : Option Nat := none
  rank     : Option Nat := none
  detail   : Detail := {}
  deriving DecidableEq, Repr

/-- The report queue, oldest first, and the lost flag (R173). -/
structure Reports where
  records : List Report := []
  lost    : Bool := false
  deriving DecidableEq, Repr

/-! ### Time -/

/-- The time base and the PWM period (0.5, R111, R112): `now` in ms since power-on reset ended, `sub` the part of the
present ms in units of 12.5 ns (80,000 to the ms), `count` and `k` of the running period, the base frequency in force, and
whether the first PWM period after power-on reset has run (R102). -/
structure Clock where
  now      : Nat := 0
  sub      : Nat := 0
  count    : Nat := 0
  k        : Nat := 0
  freq     : BaseFreq := .khz20
  firstRun : Bool := false
  deriving DecidableEq, Repr

/-! ### The state -/

/-- The whole station. `pending` is the queue of waiting commands, front first; `freeCount` counts the free values taken;
both are the model's own, the rest is the spec's. -/
structure State where
  pending   : List Instr
  chans     : PerChan Channel
  groups    : List GroupEntry
  inputs    : PerInput InputEntry
  settings  : Settings
  freshStart : Bool
  weather   : Weather
  supply    : Supply
  thermal   : Thermal
  admission : Admission
  line      : Line
  reports   : Reports
  clock     : Clock
  freeCount : Nat
  deriving DecidableEq, Repr

/-- The reasons for a fault: there are none, since every command of the table has an effect and none stops the part. -/
inductive Fault where
  deriving DecidableEq, Repr

/-- The reasons for a refusal. -/
inductive Refusal where
  /-- Raised by `exec` for a command that has no meaning yet; no arm uses it. Safe: the run stops. -/
  | notModelled (mnemonic : String)
  deriving DecidableEq, Repr

/-- The station right after power-on reset (R21, R46, R94, R110, R123, R140, R142, R171, R175 and the After reset columns;
log 11 for the values no table gives). -/
def State.reset : State where
  pending := []
  chans := ⟨{}, {}, {}, {}, {}, {}⟩
  groups := List.replicate 64 {}
  inputs := ⟨{}, {}, {}, {}⟩
  settings := {}
  freshStart := true
  weather := {}
  supply := {}
  thermal := {}
  admission := {}
  line := {}
  reports := { records := [{ kind := .freshStart }], lost := false }
  clock := {}
  freeCount := 0

end Sys2Proof.Machine
end

