-- ==== Sys2Proof/Machine/Operands.lean ====
section
/-! DEFINITION. The operands of the frames: the payload fields of Tables 9.6 and 9.7, the table records of Tables 9.9 to 9.12
with their ranges, and the codes of Tables 9.8 and 9.13. -/

namespace Sys2Proof.Machine

/-! ### Channels, inputs and classes by number -/

def allChans : List Chan := [.ch0, .ch1, .ch2, .ch3, .ch4, .ch5]

def allInputs : List InputNo := [.in1, .in2, .in3, .in4]

def allClasses : List ClaimClass := [.smoke, .service, .fallback, .manual, .comfort, .airing]

def chanIndex : Chan → Nat
  | .ch0 => 0 | .ch1 => 1 | .ch2 => 2 | .ch3 => 3 | .ch4 => 4 | .ch5 => 5

def chanOfIndex (n : Nat) : Option Chan := allChans[n]?

def inputIndex : InputNo → Nat
  | .in1 => 1 | .in2 => 2 | .in3 => 3 | .in4 => 4

def inputOfIndex : Nat → Option InputNo
  | 0 => none
  | n + 1 => allInputs[n]?

/-- The rank of a class (Table 0.2), which is also its code in a DEMAND or RELEASE (Table 9.6). -/
def classRank : ClaimClass → Nat
  | .smoke => 1 | .service => 2 | .fallback => 3 | .manual => 4 | .comfort => 5 | .airing => 6

/-- The class a code names, if any (Table 9.6, R8). -/
def classOfCode : Nat → Option ClaimClass
  | 1 => some .smoke | 2 => some .service | 3 => some .fallback
  | 4 => some .manual | 5 => some .comfort | 6 => some .airing
  | _ => none

/-- Membership in an admitted-class set; FALLBACK is in none (Table 1.1 note 1). -/
def ClassSet.admits (c : ClassSet) : ClaimClass → Bool
  | .smoke => c.smoke | .service => c.service | .fallback => false
  | .manual => c.manual | .comfort => c.comfort | .airing => c.airing

/-! ### The fields of a DEMAND or RELEASE (Table 9.6) -/

def frameClass (payload : List Byte) : Option ClaimClass := classOfCode (byteAt payload 0).toNat

def frameGroup (payload : List Byte) : Nat := wordAt payload 1

/-- The demand field of a DEMAND, 0..65535. -/
def frameDemand (payload : List Byte) : Nat := wordAt payload 3

/-- The hold field of a DEMAND, in s. -/
def frameHold (payload : List Byte) : Nat := wordAt payload 5

/-- The payload length a DEMAND must carry: 16 bytes when its class code is AIRING and 10 otherwise (R147). -/
def demandLengthFits (payload : List Byte) : Bool :=
  if (byteAt payload 0).toNat = 6 then payload.length == 16 else payload.length == 10

/-- A count byte raised by a station's count, saturated at 255 (R147). -/
def raiseCount (b : Byte) (n : Nat) : Byte := byteOf (min 255 (b.toNat + n))

/-- The payload with the counts and hop count at bytes `at0`, `at0 + 1`, `at0 + 2` raised (R147). -/
def raiseCounts (payload : List Byte) (at0 accepted withheld : Nat) : List Byte :=
  let p1 := payload.set at0 (raiseCount (byteAt payload at0) accepted)
  let p2 := p1.set (at0 + 1) (raiseCount (byteAt payload (at0 + 1)) withheld)
  p2.set (at0 + 2) (raiseCount (byteAt payload (at0 + 2)) 1)

/-- A level demand of a frame: 1001 and above give 1000 (R5). -/
def clampLevel (d : Nat) : Nat := min d 1000

/-- An airing dwell in s, clamped to 10..7200 (R124). -/
def clampDwell (d : Nat) : Nat := max 10 (min d 7200)

/-- The airing part of an AIRING DEMAND as the record it creates (R124, R125). -/
def airingOf (payload : List Byte) : AiringRecord :=
  let openDwell := clampDwell (wordAt payload 10)
  let closedDwell := clampDwell (wordAt payload 12)
  let cycles := (byteAt payload 14).toNat
  let count := if cycles = 0 then none else some cycles
  let phase := if (byteAt payload 15).toNat = 1 then AiringPhase.closedPhase else AiringPhase.openPhase
  { openLevel := clampLevel (frameDemand payload), openDwell, closedDwell,
    remaining := count, atCreation := count, phase,
    dwell := 1000 * (match phase with | .openPhase => openDwell | .closedPhase => closedDwell) }

/-- The demand an airing record asks for in its phase (R125, R127, R128). -/
def AiringRecord.level (a : AiringRecord) : Nat :=
  match a.phase with
  | .openPhase => a.openLevel
  | .closedPhase => 0

/-! ### The group record (Table 9.9, R160) -/

def membersOf (b : Byte) : PerChan Bool :=
  ⟨b.getLsbD 0, b.getLsbD 1, b.getLsbD 2, b.getLsbD 3, b.getLsbD 4, b.getLsbD 5⟩

def membersByte (m : PerChan Bool) : Byte :=
  byteOf (bitOf m.ch0 + 2 * bitOf m.ch1 + 4 * bitOf m.ch2 + 8 * bitOf m.ch3 + 16 * bitOf m.ch4 + 32 * bitOf m.ch5)

def membersEmpty (m : PerChan Bool) : Bool := !(m.ch0 || m.ch1 || m.ch2 || m.ch3 || m.ch4 || m.ch5)

def classSetOf (b : Byte) : ClassSet :=
  { smoke := b.getLsbD 0, service := b.getLsbD 1, manual := b.getLsbD 2, comfort := b.getLsbD 3, airing := b.getLsbD 4 }

def classSetByte (c : ClassSet) : Byte :=
  byteOf (bitOf c.smoke + 2 * bitOf c.service + 4 * bitOf c.manual + 8 * bitOf c.comfort + 16 * bitOf c.airing)

def groupOf (r : List Byte) : GroupEntry :=
  { number := wordAt r 0, members := membersOf (byteAt r 2), admitted := classSetOf (byteAt r 3) }

def groupBytes (g : GroupEntry) : List Byte := be16 g.number ++ [membersByte g.members, classSetByte g.admitted]

/-! ### The profile record (Tables 9.10 and 10.2, R161) -/

def profileOf (r : List Byte) : Profile :=
  let b0 := byteAt r 0
  let b (i : Nat) : Nat := (byteAt r i).toNat
  { enable := b0.getLsbD 0, brakeMode := b0.getLsbD 1, windDependent := b0.getLsbD 2, failMoveTo := b0.getLsbD 3,
    retryLimit := b0.toNat / 16 % 4,
    travel := wordAt r 1, fullTravelTime := wordAt r 3, deadband := b 5, approachDist := wordAt r 6,
    startLevel := wordAt r 8, runLevel := wordAt r 10, approachLevel := wordAt r 12,
    rampRate := wordAt r 14, weight := b 16, stallUnits := b 17, settleUnits := b 18,
    startLimit := b 19, runLimit := b 20, endLimit := b 21, shortLimit := b 22, blanking := b 23, filter := b 24,
    endZone := wordAt r 25, backoffDist := wordAt r 27, reverseUnits := b 29, driftLimit := b 30,
    initOpen := b 31, initClose := b 32, windward := BitVec.ofNat 16 (wordAt r 33), smokeWindward := wordAt r 35,
    windCeiling := wordAt r 37, rainPosition := wordAt r 39, stormPosition := wordAt r 41,
    unknownCeiling := wordAt r 43, moveToLevel := wordAt r 45 }

def profileBytes (p : Profile) : List Byte :=
  [byteOf (bitOf p.enable + 2 * bitOf p.brakeMode + 4 * bitOf p.windDependent + 8 * bitOf p.failMoveTo + 16 * p.retryLimit)]
    ++ be16 p.travel ++ be16 p.fullTravelTime ++ [byteOf p.deadband] ++ be16 p.approachDist
    ++ be16 p.startLevel ++ be16 p.runLevel ++ be16 p.approachLevel ++ be16 p.rampRate
    ++ [byteOf p.weight, byteOf p.stallUnits, byteOf p.settleUnits, byteOf p.startLimit, byteOf p.runLimit,
        byteOf p.endLimit, byteOf p.shortLimit, byteOf p.blanking, byteOf p.filter]
    ++ be16 p.endZone ++ be16 p.backoffDist
    ++ [byteOf p.reverseUnits, byteOf p.driftLimit, byteOf p.initOpen, byteOf p.initClose]
    ++ be16 p.windward.toNat ++ be16 p.smokeWindward ++ be16 p.windCeiling ++ be16 p.rainPosition
    ++ be16 p.stormPosition ++ be16 p.unknownCeiling ++ be16 p.moveToLevel

def inRange (lo x hi : Nat) : Bool := lo ≤ x && x ≤ hi

/-- Every field of a profile in its range of Table 10.2, whatever the flags, and the end zone at most the record's travel
div 2 (R161). -/
def profileInRange (p : Profile) : Bool :=
  inRange 0 p.retryLimit 3 && inRange 100 p.travel 60000 && inRange 5 p.fullTravelTime 600 && inRange 0 p.deadband 255
    && inRange 0 p.approachDist 4000 && inRange 0 p.startLevel 51200 && inRange 0 p.runLevel 51200
    && inRange 0 p.approachLevel 51200 && inRange 1 p.rampRate 5120 && inRange 1 p.weight 15
    && inRange 5 p.stallUnits 200 && inRange 5 p.settleUnits 100
    && inRange 1 p.startLimit 255 && inRange 1 p.runLimit 255 && inRange 1 p.endLimit 255 && inRange 1 p.shortLimit 255
    && inRange 0 p.blanking 255 && inRange 1 p.filter 255 && inRange 0 p.endZone (p.travel / 2)
    && inRange 0 p.backoffDist 2000 && inRange 5 p.reverseUnits 250 && inRange 1 p.driftLimit 255
    && inRange 0 p.initOpen 255 && inRange 0 p.initClose 255 && inRange 0 p.smokeWindward 1000
    && inRange 0 p.windCeiling 1000 && inRange 0 p.rainPosition 1000 && inRange 0 p.stormPosition 1000
    && inRange 0 p.unknownCeiling 1000 && inRange 0 p.moveToLevel 1000

/-! ### The input record (Tables 9.11 and 8.1, R163) -/

def functionOfCode : Nat → Option InputFunction
  | 0 => some .unused | 1 => some .fireContact | 2 => some .manualOpen
  | 3 => some .manualClose | 4 => some .rainContact | 5 => some .serviceSwitch
  | _ => none

def functionCode : InputFunction → Nat
  | .unused => 0 | .fireContact => 1 | .manualOpen => 2
  | .manualClose => 3 | .rainContact => 4 | .serviceSwitch => 5

/-- The fields an INPUT write gives an entry, laid over the entry's own state; none for a function code of 6 or 7. -/
def inputOf (r : List Byte) (e : InputEntry) : Option InputEntry :=
  match functionOfCode ((byteAt r 0).toNat % 8) with
  | none => none
  | some f =>
    some { e with function := f, activeHigh := (byteAt r 0).getLsbD 7, debounce := (byteAt r 1).toNat,
                  group := wordAt r 2, level := wordAt r 4, hold := wordAt r 6 }

def inputInRange (e : InputEntry) : Bool :=
  inRange 1 e.debounce 255 && inRange 0 e.group 1023 && inRange 0 e.level 1000 && inRange 1 e.hold 3600

def inputBytes (e : InputEntry) : List Byte :=
  [byteOf (functionCode e.function + 128 * bitOf e.activeHigh), byteOf e.debounce]
    ++ be16 e.group ++ be16 e.level ++ be16 e.hold

/-! ### The settings record (Tables 9.12 and 10.3, R164) -/

def freqOfCode : Nat → Option BaseFreq
  | 0 => some .khz16 | 1 => some .khz20 | 2 => some .khz25
  | _ => none

def freqCode : BaseFreq → Nat
  | .khz16 => 0 | .khz20 => 1 | .khz25 => 2

/-- The settings record of 32 bytes; none for the frequency code 3. -/
def settingsOf (r : List Byte) : Option Settings :=
  let b (i : Nat) : Nat := (byteAt r i).toNat
  let bit (i j : Nat) : Bool := (byteAt r i).getLsbD j
  match freqOfCode (b 30 / 2 % 4) with
  | none => none
  | some freq =>
    some { defaultHold := wordAt r 0, w1 := wordAt r 2, w2 := wordAt r 4, hysteresis := b 6,
           releaseDelay := wordAt r 7, staleTime := wordAt r 9, settleTime := wordAt r 11, rainDelay := wordAt r 13,
           normalBudget := b 15, lowBudget := b 16, stagger := wordAt r 17,
           cutVolt := wordAt r 19, lowVolt := wordAt r 21, overVolt := wordAt r 23, holdOff := wordAt r 25,
           watchdog := b 27, reportMask := BitVec.ofNat 13 (wordAt r 28), latched := bit 30 0, freq := freq,
           faultHigh := bit 30 3, faultChannel := bit 31 0, faultSupply := bit 31 1, faultThermal := bit 31 2,
           faultLine := bit 31 3 }

/-- Every field in its range of Table 10.3 and the three cross-checks of R164. -/
def settingsInRange (t : Settings) : Bool :=
  inRange 1 t.defaultHold 3600 && inRange 1 t.w1 700 && inRange 1 t.w2 700 && inRange 0 t.hysteresis 100
    && inRange 1 t.releaseDelay 3600 && inRange 10 t.staleTime 3600 && inRange 0 t.settleTime 600
    && inRange 0 t.rainDelay 7200 && inRange 1 t.normalBudget 90 && inRange 0 t.lowBudget 90
    && inRange 0 t.stagger 2000 && inRange 0 t.cutVolt 400 && inRange 0 t.lowVolt 400 && inRange 0 t.overVolt 400
    && inRange 0 t.holdOff 60000 && inRange 1 t.watchdog 60
    && t.hysteresis < t.w1 && t.w1 < t.w2 && t.cutVolt < t.lowVolt && t.lowVolt < t.overVolt
    && t.lowBudget ≤ t.normalBudget

def settingsBytes (t : Settings) : List Byte :=
  be16 t.defaultHold ++ be16 t.w1 ++ be16 t.w2 ++ [byteOf t.hysteresis]
    ++ be16 t.releaseDelay ++ be16 t.staleTime ++ be16 t.settleTime ++ be16 t.rainDelay
    ++ [byteOf t.normalBudget, byteOf t.lowBudget] ++ be16 t.stagger
    ++ be16 t.cutVolt ++ be16 t.lowVolt ++ be16 t.overVolt ++ be16 t.holdOff ++ [byteOf t.watchdog]
    ++ be16 t.reportMask.toNat
    ++ [byteOf (bitOf t.latched + 2 * freqCode t.freq + 8 * bitOf t.faultHigh),
        byteOf (bitOf t.faultChannel + 2 * bitOf t.faultSupply + 4 * bitOf t.faultThermal + 8 * bitOf t.faultLine)]

/-! ### Codes of the reports and the status pages (Tables 9.8 and 9.13, Table 11.2) -/

def reportCode : ReportKind → Nat
  | .arrived => 1 | .halted => 2 | .fault => 3 | .cleared => 4 | .referenced => 5 | .drift => 6 | .airingDone => 7
  | .input => 8 | .weather => 9 | .supply => 10 | .thermal => 11 | .line => 12 | .freshStart => 13

def faultByte : FaultCode → Byte
  | .short => 1 | .stalled => 2 | .obstructed => 3 | .travel => 4

def haltByte : HaltCause → Byte
  | .shed => 1 | .preempt => 2 | .supply => 3 | .thermal => 4

def windByte : WindState → Byte
  | .calm => 0 | .windy => 1 | .storm => 2 | .unknown => 3

def supplyByte : SupplyState → Byte
  | .normal => 0 | .low => 1 | .cut => 2 | .overVolt => 3

def thermalByte : ThermalState → Byte
  | .normal => 0 | .warn => 1 | .shut => 2

def motionByte : MotionState → Byte
  | .disabled => 0 | .idle => 1 | .waiting => 2 | .moving => 3 | .braking => 4 | .dwell => 5 | .backoff => 6 | .faulted => 7

/-- A settled sector, FFh for NONE. -/
def sectorByte : Option Nat → Byte
  | none => 0xFF
  | some s => byteOf s

/-- A temperature in two bytes of two's complement, the high byte first. -/
def temperatureBytes (t : Int) : List Byte := be16 (BitVec.ofInt 16 t).toNat

/-- A report record of 9 bytes (Table 9.8); absent fields as Table 11.1 note 1 says. -/
def reportBytes (r : Report) : List Byte :=
  [byteOf (reportCode r.kind), match r.chan with | none => 0xFF | some c => byteOf (chanIndex c)]
    ++ (match r.position with | none => [0xFF, 0xFF] | some p => be16 p)
    ++ [byteOf (r.rank.getD 0), r.detail.b5, r.detail.b6, r.detail.b7, r.detail.b8]

end Sys2Proof.Machine
end

