-- ==== Sys2Proof/Machine/Ops.lean ====
section
/-! DEFINITION. The operations every block uses: reading and writing one channel, slot or input, timers, the start queue and
the share-holder set, reported positions, and posting a report. -/

namespace Sys2Proof.Machine

/-! ### One channel, input or slot -/

def PerChan.get {α : Type} (p : PerChan α) : Chan → α
  | .ch0 => p.ch0 | .ch1 => p.ch1 | .ch2 => p.ch2 | .ch3 => p.ch3 | .ch4 => p.ch4 | .ch5 => p.ch5

def PerChan.set {α : Type} (p : PerChan α) (c : Chan) (x : α) : PerChan α :=
  match c with
  | .ch0 => { p with ch0 := x } | .ch1 => { p with ch1 := x } | .ch2 => { p with ch2 := x }
  | .ch3 => { p with ch3 := x } | .ch4 => { p with ch4 := x } | .ch5 => { p with ch5 := x }

def PerChan.map {α : Type} (f : α → α) (p : PerChan α) : PerChan α :=
  ⟨f p.ch0, f p.ch1, f p.ch2, f p.ch3, f p.ch4, f p.ch5⟩

def PerInput.get {α : Type} (p : PerInput α) : InputNo → α
  | .in1 => p.in1 | .in2 => p.in2 | .in3 => p.in3 | .in4 => p.in4

def PerInput.set {α : Type} (p : PerInput α) (n : InputNo) (x : α) : PerInput α :=
  match n with
  | .in1 => { p with in1 := x } | .in2 => { p with in2 := x } | .in3 => { p with in3 := x } | .in4 => { p with in4 := x }

def PerInput.map {α : Type} (f : α → α) (p : PerInput α) : PerInput α := ⟨f p.in1, f p.in2, f p.in3, f p.in4⟩

def ClaimSlots.get (s : ClaimSlots) : ClaimClass → Option Claim
  | .smoke => s.smoke | .service => s.service | .fallback => s.fallback
  | .manual => s.manual | .comfort => s.comfort | .airing => s.airing

def ClaimSlots.set (s : ClaimSlots) (c : ClaimClass) (x : Option Claim) : ClaimSlots :=
  match c with
  | .smoke => { s with smoke := x } | .service => { s with service := x } | .fallback => { s with fallback := x }
  | .manual => { s with manual := x } | .comfort => { s with comfort := x } | .airing => { s with airing := x }

/-- Apply `f` to every claim record of a channel's slots. -/
def ClaimSlots.map (f : Claim → Claim) (s : ClaimSlots) : ClaimSlots :=
  { smoke := s.smoke.map f, service := s.service.map f, fallback := s.fallback.map f,
    manual := s.manual.map f, comfort := s.comfort.map f, airing := s.airing.map f }

/-- The record of channel `c`. -/
def State.chan (s : State) (c : Chan) : Channel := s.chans.get c

/-- Apply `f` to the record of channel `c`. -/
def State.modChan (s : State) (c : Chan) (f : Channel → Channel) : State :=
  { s with chans := s.chans.set c (f (s.chans.get c)) }

def State.input (s : State) (n : InputNo) : InputEntry := s.inputs.get n

def State.setInput (s : State) (n : InputNo) (e : InputEntry) : State := { s with inputs := s.inputs.set n e }

/-! ### Timers (0.5) -/

/-- A timer started with `ms` that is expired at once when `ms` is 0. -/
def timerOf (ms : Nat) : Option Nat := if ms = 0 then none else some ms

/-- A running timer that has run out. -/
def timerDue (t : Option Nat) : Bool := t == some 0

/-- A timer after 1 ms: a running timer decreases and holds at 0 until its expiry is taken (log 2). -/
def timerTick (t : Option Nat) : Option Nat := t.map (· - 1)

/-- The present moment in steps of 0.1 ms (R98, log 28). -/
def Clock.tenths (k : Clock) : Nat := k.now * 10 + k.sub / 8000

/-- The last sampled current of a channel (R102): the latest sample, and 0 until the first PWM period after power-on reset has
run. DEDUCED: a sample of that first period becomes it as the period ends (log 44). -/
def State.lastSampled (s : State) (ch : Chan) : Nat := if s.clock.firstRun then (s.chan ch).current.sample else 0

/-! ### Positions (R37, R44) -/

/-- A per-mille value in pulses of the travel `T`, rounded half up (R37). -/
def toPulses (d T : Nat) : Nat := (d * T + 500) / 1000

/-- A position in pulses reported in per mille of the travel `T` (R44). -/
def toPermille (p : Int) (T : Nat) : Nat :=
  if p ≤ 0 then 0 else if (T : Int) ≤ p then 1000 else (p.toNat * 1000 + T / 2) / T

/-- A position in the travel, `clamp(p, 0, T)` (R5, R22). -/
def clampPosition (p : Int) (T : Nat) : Nat := (min p (T : Int)).toNat

/-- The position a channel reports: in per mille when referenced, absent otherwise (Table 11.1). -/
def Channel.reported (c : Channel) : Option Nat :=
  if c.motion.referenced then some (toPermille c.travel.position c.profile.travel) else none

/-! ### Posting a report (R173) -/

def reportEnabled (mask : BitVec 13) (k : ReportKind) : Bool := mask.getLsbD (reportCode k - 1)

/-- Two reports of the same pair of channel (or none) and kind. -/
def samePair (a b : Report) : Bool := a.kind == b.kind && a.chan == b.chan

def hasPair (r : Report) (q : List Report) : Bool := q.any (samePair r)

/-- Replace the queued record of the report's pair, in its place. -/
def replacePair (r : Report) (q : List Report) : List Report := q.map (fun x => if samePair r x then r else x)

/-- What the queue does with an enabled report: replace, append, or discard with the lost flag set. -/
def Reports.offer (q : Reports) (r : Report) : Reports :=
  if hasPair r q.records then { q with records := replacePair r q.records }
  else if q.records.length < 16 then { q with records := q.records ++ [r] }
  else { q with lost := true }

/-- A block posts a report; the enable mask may suppress it. -/
def State.post (s : State) (r : Report) : State :=
  if reportEnabled s.settings.reportMask r.kind then { s with reports := s.reports.offer r } else s

/-- Channel `c` posts a report of its own kind with its position and the winning rank in hand (Table 11.1). -/
def State.postChan (s : State) (c : Chan) (kind : ReportKind) (position : Option Nat) (b5 : Byte) : State :=
  s.post { kind, chan := some c, position, rank := (s.chan c).motion.hand.winRank, detail := { b5 } }

/-! ### The start queue and the share holders (R75, R76) -/

/-- The order of the start queue: queue rank, then entry time, then channel number. -/
def queueBefore (a b : QueueEntry) : Bool :=
  a.rank < b.rank || (a.rank == b.rank
    && (a.time < b.time || (a.time == b.time && chanIndex a.chan < chanIndex b.chan)))

/-- Shed order (R78): the highest queue rank first, then the latest admission, then the highest channel number. -/
def shedBefore (a b : QueueEntry) : Bool :=
  b.rank < a.rank || (a.rank == b.rank
    && (b.time < a.time || (a.time == b.time && chanIndex b.chan < chanIndex a.chan)))

def insertEntry (e : QueueEntry) : List QueueEntry → List QueueEntry
  | [] => [e]
  | x :: xs => if queueBefore e x then e :: x :: xs else x :: insertEntry e xs

def dropChan (c : Chan) (l : List QueueEntry) : List QueueEntry := l.filter (fun e => e.chan != c)

def findChan (c : Chan) (l : List QueueEntry) : Option QueueEntry := l.find? (fun e => e.chan == c)

def totalWeight (l : List QueueEntry) : Nat := (l.map (·.weight)).sum

/-- The first of a list in shed order. -/
def firstShed : List QueueEntry → Option QueueEntry
  | [] => none
  | x :: xs =>
    match firstShed xs with
    | none => some x
    | some y => if shedBefore y x then some y else some x

def State.setQueue (s : State) (q : List QueueEntry) : State := { s with admission := { s.admission with queue := q } }

def State.setHolders (s : State) (h : List QueueEntry) : State := { s with admission := { s.admission with holders := h } }

/-- Channel `c` leaves the start queue. -/
def State.leaveQueue (s : State) (c : Chan) : State := s.setQueue (dropChan c s.admission.queue)

/-- Channel `c` joins the start queue under the queue rank in hand, at the present moment, with its profile's weight. -/
def State.joinQueue (s : State) (c : Chan) : State :=
  s.setQueue (insertEntry
    { chan := c, rank := (s.chan c).motion.hand.queueRank.getD 6, time := s.clock.now, weight := (s.chan c).profile.weight }
    (dropChan c s.admission.queue))

/-- The entry of channel `c` takes the queue rank `r` and keeps its entry time (R82). -/
def State.resortQueue (s : State) (c : Chan) (r : Nat) : State :=
  match findChan c s.admission.queue with
  | none => s
  | some e => s.setQueue (insertEntry { e with rank := r } (dropChan c s.admission.queue))

/-- Channel `c` gives up its budget share. -/
def State.releaseShare (s : State) (c : Chan) : State := s.setHolders (dropChan c s.admission.holders)

/-- The share holder `c`, if it is one, takes the queue rank `r` (R49, R76). -/
def State.rankHolder (s : State) (c : Chan) (r : Nat) : State :=
  s.setHolders (s.admission.holders.map (fun e => if e.chan = c then { e with rank := r } else e))

def State.isHolder (s : State) (c : Chan) : Bool := s.admission.holders.any (fun e => e.chan == c)

/-! ### Free values -/

/-- Take a free choice of order (logs 5 and 6). -/
def State.freeOrder (s : State) : Bool × State :=
  (Config.freeOrder s.freeCount, { s with freeCount := s.freeCount + 1 })

/-- Take a free queue rank 1..6 (log 7). -/
def State.freeRank (s : State) : Nat × State :=
  ((Config.freeRank s.freeCount).val + 1, { s with freeCount := s.freeCount + 1 })

end Sys2Proof.Machine
end

