-- ==== Sys2Proof/Machine/Drive.lean ====
section
/-! DEFINITION. The drive generators: levels, dither, on-windows, the leg stages and the ramp (Chapter 6). -/

namespace Sys2Proof.Machine

/-- The period length in counts (R111). -/
def periodCounts : Nat := 200

/-- One count in units of 12.5 ns (Table 6.2): 312.5, 250 and 200 ns. -/
def countUnits : BaseFreq → Nat
  | .khz16 => 25 | .khz20 => 20 | .khz25 => 16

/-- One ms in units of 12.5 ns. -/
def msUnits : Nat := 80000

/-- The phase offset of a channel, floor(j × 200 / 6) (R114). -/
def phaseOffset (c : Chan) : Nat := chanIndex c * 200 / 6

/-- The order of the eight binary digits of `k` reversed (R113). -/
def bitrev8 (k : Nat) : Nat :=
  128 * (k % 2) + 64 * (k / 2 % 2) + 32 * (k / 4 % 2) + 16 * (k / 8 % 2)
    + 8 * (k / 16 % 2) + 4 * (k / 32 % 2) + 2 * (k / 64 % 2) + k / 128 % 2

/-- The on-count of the period of index `k` at drive level `level` (R113). -/
def onCount (level k : Nat) : Nat := if bitrev8 k < level % 256 then level / 256 + 1 else level / 256

/-- The profile's level that a phase level names. -/
def Profile.levelOf (p : Profile) : PhaseLevel → Nat
  | .start => p.startLevel | .run => p.runLevel | .approach => p.approachLevel

/-- Count `count` of the period lies in the window that starts at `offset` with `on` counts (R114). -/
def inWindow (offset on count : Nat) : Bool := (count + 200 - offset) % 200 < on

/-- The motion states in which a channel is driven (R47). -/
def isDriven (m : MotionState) : Bool := m == .moving || m == .backoff

/-- The direction in which the generator is driving (Table 6.1 note 1). -/
def Channel.driveDir (c : Channel) : Option Dir := if isDriven c.motion.state then c.motion.dir else none

/-- The on-count a leg stage delivers in the present period. -/
def LegStage.onCount : LegStage → Nat
  | .drive n => n
  | .cutting n _ => n
  | _ => 0

/-- The count at which a channel's current is sampled (R102, R114). DESIGN CHOICE: a period that a started channel still waits
through has no on-count, and is sampled at the offset. A channel whose drive has been removed is sampled at the offset too, also
when that count of the period has passed and the middle count has not yet come (log 39). -/
def sampleCount (ch : Chan) (c : Channel) : Nat :=
  match c.drive.legs with
  | .drive n => (phaseOffset ch + n / 2) % 200
  | _ => phaseOffset ch

/-- What the drive generator of a channel puts on CHn-OPEN and CHn-CLOSE at a count of the period (Table 6.5, R115). -/
def stageOutputs (ch : Chan) (c : Channel) (count : Nat) : Bool × Bool :=
  match c.drive.legs with
  | .drive n | .cutting n _ =>
    let on := inWindow (phaseOffset ch) n count
    match c.motion.dir with
    | some .opening => (on, false)
    | some .closing => (false, on)
    | none => (false, false)
  | .brake | .releasing => (true, true)
  | .off | .startWait _ | .gap => (false, false)

/-- Power-on reset is in progress: POWER_ON_RESET stands at the front of the queue, and has not left its block states yet
(R115, R142; DESIGN CHOICE, log 32). -/
def inPowerOnReset (s : State) : Bool := s.pending.head? == some .powerOnReset

/-- The outputs CHn-OPEN and CHn-CLOSE of a channel (R115): inactive during power-on reset, and otherwise what its drive generator
puts on them at the present count. -/
def legOutputs (s : State) (ch : Chan) : Bool × Bool :=
  if inPowerOnReset s then (false, false) else stageOutputs ch (s.chan ch) s.clock.count

/-! ### Leg stages (R116, R117) -/

/-- Drive starts: both legs inactive until the next period start, or one period later when the transition falls in count
199 (R116). -/
def legsOnStart (count : Nat) : LegStage := if count = 199 then .startWait 2 else .startWait 1

/-- Drive is removed: the leg keeps its window until the next count boundary, then BRAKE through one inactive count, or OFF
(R116, R117). -/
def legsOnRemoval (brake : Bool) (l : LegStage) : LegStage := .cutting l.onCount brake

/-- BRAKING ends, or the channel faults: OFF at the next count boundary (R116, R117, log 13). -/
def legsOnOff : LegStage → LegStage
  | .drive n => .cutting n false
  | .cutting n _ => .cutting n false
  | .brake => .releasing
  | .releasing => .releasing
  | .off | .startWait _ | .gap => .off

/-- The leg stage after a count boundary. -/
def legsAtBoundary : LegStage → LegStage
  | .cutting _ true => .gap
  | .cutting _ false => .off
  | .gap => .brake
  | .releasing => .off
  | l => l

/-- The leg stage at the start of a period with index `k` and drive level `level` (R113, R116). -/
def legsAtPeriod (level k : Nat) : LegStage → LegStage
  | .startWait 0 => .drive (Sys2Proof.Machine.onCount level k)
  | .startWait 1 => .drive (Sys2Proof.Machine.onCount level k)
  | .startWait (n + 2) => .startWait (n + 1)
  | .drive _ => .drive (Sys2Proof.Machine.onCount level k)
  | l => l

/-! ### The ramp (R118, R120) -/

/-- One ramp step toward the phase level, saturating at it (R118). -/
def rampToward (level phase rate : Nat) : Nat :=
  if level < phase then min (level + rate) phase else max (level - rate) phase

/-- The drive level stands at the run level under the run phase (R120). -/
def atRunLevel (p : Profile) (level : Nat) (phase : PhaseLevel) : Bool := phase == .run && level == p.runLevel

/-- Set the phase level during a move: the START phase goes out when it becomes the approach level (R104, R119). -/
def Channel.setPhase (c : Channel) (phase : PhaseLevel) : Channel :=
  { c with drive := { c.drive with phase := some phase },
           current := { c.current with startPhase := c.current.startPhase && phase == .run } }

/-- A ramp step of a channel: the level moves, the next step falls 10 ms later, and reaching the run level under the run
phase sets the run-level mark and ends the START phase (R118, R120). -/
def Channel.rampStep (c : Channel) : Channel :=
  match c.drive.phase with
  | none => { c with drive := { c.drive with ramp := none } }
  | some phase =>
    let level := rampToward c.drive.level (c.profile.levelOf phase) c.profile.rampRate
    let reached := atRunLevel c.profile level phase
    { c with drive := { c.drive with level, ramp := some 10, runMark := c.drive.runMark || reached },
             current := { c.current with startPhase := c.current.startPhase && !reached } }

end Sys2Proof.Machine
end

