-- ==== Sys2Proof/Machine/Selector.lean ====
section
/-! DEFINITION. The target selector: the five stages of Chapter 2 that give a channel's target and queue rank. -/

namespace Sys2Proof.Machine

/-- Stage 1 (R36): the claim in the occupied slot of lowest rank number. -/
def winner (slots : ClaimSlots) : Option (ClaimClass × Claim) :=
  allClasses.findSome? (fun k => (slots.get k).map (fun c => (k, c)))

/-- A per-mille value as the number the channel compares by: pulses when referenced, per mille when not (R37, R42). -/
def asNumber (c : Channel) (d : Nat) : Nat := if c.motion.referenced then toPulses d c.profile.travel else d

/-- A number in the form handed on: pulses on a referenced channel, a level on an unreferenced one (R42). -/
def asTarget (c : Channel) (n : Nat) : Target := if c.motion.referenced then .pulses n else .level n

/-- Stage 2 (R37, R38): the raw target of a demand; none for a STAY that cannot be kept. -/
def rawTarget (c : Channel) : Demand → Option Nat
  | .level d => some (asNumber c d)
  | .stay none => none
  | .stay (some p) => if c.motion.referenced then some p else none

/-- The settled sector is in the channel's windward sector set; NONE is in none (Table 2.6). -/
def isWindward (w : Weather) (p : Profile) : Bool :=
  match w.settled with
  | none => false
  | some sector => p.windward.getLsbD sector

/-- The wind state is WINDY or STORM. -/
def isWindyOrStorm (w : Weather) : Bool := w.wind == .windy || w.wind == .storm

/-- The converted positions of the conditions of Table 2.6 that hold (R39). -/
def ceilings (w : Weather) (c : Channel) : List Nat :=
  (if w.wind = .storm then [asNumber c c.profile.stormPosition] else [])
    ++ (if w.rainWet then [asNumber c c.profile.rainPosition] else [])
    ++ (if isWindyOrStorm w && isWindward w c.profile then [asNumber c c.profile.windCeiling] else [])
    ++ (if w.wind = .unknown then [asNumber c c.profile.unknownCeiling] else [])

/-- Stage 3 (R39, R40) for a winner of rank 3 to 6 with raw target `p`: the target under the ceilings, and the queue rank,
which is 3 when a ceiling lies below the raw target. -/
def underCeilings (w : Weather) (c : Channel) (rank p : Nat) : Nat × Nat :=
  let cut := (ceilings w c).foldl min p
  (cut, if cut < p then 3 else rank)

/-- Stage 4 (R41): the smoke wind rule applies. -/
def smokeWindRule (w : Weather) (c : Channel) : Bool :=
  c.profile.windDependent && isWindyOrStorm w && isWindward w c.profile

/-- The target of an optional number. -/
def targetOf (c : Channel) : Option Nat → Target
  | none => .none
  | some n => asTarget c n

/-- The evaluation of a channel (R34 to R42) from its slots, the weather, its reference and its profile. On a DISABLED
channel only the winning rank is computed (R35). -/
def evaluate (w : Weather) (c : Channel) : Selection :=
  match winner c.slots with
  | none => {}
  | some (cls, claim) =>
    let rank := classRank cls
    if c.motion.state = .disabled then { winRank := some rank }
    else
      let raw := rawTarget c claim.demand
      match cls with
      | .smoke =>
        let target := if smokeWindRule w c then some (asNumber c c.profile.smokeWindward) else raw
        { winRank := some rank, target := targetOf c target, queueRank := some 1 }
      | .service => { winRank := some rank, target := targetOf c raw, queueRank := some 2 }
      | _ =>
        match raw with
        | none => { winRank := some rank }
        | some p =>
          let cut := underCeilings w c rank p
          { winRank := some rank, target := asTarget c cut.1, queueRank := some cut.2 }

end Sys2Proof.Machine
end

