-- ==== Sys2Proof/Machine/Motion.lean ====
section
/-! DEFINITION. The channel motion engine (Chapter 3): move choice, stop points, starting, braking, faults, re-targets. The
admission unit is left with its queue and holders changed; it is evaluated at the end of the command (log 4). -/

namespace Sys2Proof.Machine

/-! ### Is a movement needed (R50) -/

/-- A target in pulses lies more than the deadband from the position. -/
def beyondDeadband (c : Channel) (t : Nat) : Bool := ((t : Int) - c.travel.position).natAbs > c.profile.deadband

def dirToward (c : Channel) (t : Nat) : Dir := if c.travel.position < (t : Int) then .opening else .closing

/-- The move kind and direction the target in hand asks for, or none when no movement is needed (R50). -/
def moveNeeded (c : Channel) : Option (MoveKind × Dir) :=
  match c.motion.hand.target with
  | .none => none
  | .pulses t =>
    if c.motion.referenced && beyondDeadband c t then some (.positioned, dirToward c t) else none
  | .level d =>
    if c.motion.referenced then none
    else if c.motion.hand.winRank = some 1 ∧ 0 < d then
      if c.motion.timedEst < d then some (.timed, .opening) else none
    else some (.reference, .closing)

/-! ### Stop points and zones (R54, R55, R101) -/

/-- The stop point of a positioned move toward `t` (R54). -/
def stopFor (c : Channel) (dir : Dir) (t : Nat) : StopPoint :=
  match dir with
  | .opening => .atPosition ((t : Int) - c.motion.eOpen)
  | .closing => if t = 0 then .atEnd else .atPosition ((t : Int) + c.motion.eClose)

/-- The stop point still lies ahead of the position: above it for an opening move, below it for a closing one; END always
does (R57). -/
def stopAhead (c : Channel) (dir : Dir) : StopPoint → Bool
  | .atEnd => true
  | .atPosition q =>
    match dir with
    | .opening => c.travel.position < q
    | .closing => q < c.travel.position

/-- The position lies in the approach zone of the stop point (R55). -/
def inApproach (c : Channel) (dir : Dir) : StopPoint → Bool
  | .atEnd => c.travel.position ≤ c.profile.approachDist
  | .atPosition q =>
    match dir with
    | .opening => q - c.profile.approachDist ≤ c.travel.position
    | .closing => c.travel.position ≤ q + c.profile.approachDist

/-- The position lies in the end zone ahead of a move in direction `dir` (R101). -/
def inEndZone (c : Channel) (dir : Dir) : Bool :=
  match dir with
  | .closing => c.travel.position ≤ c.profile.endZone
  | .opening => (c.profile.travel : Int) - c.profile.endZone ≤ c.travel.position

/-- The target in hand in pulses, 0 for another form (read only for positioned moves). -/
def handPulses (c : Channel) : Nat :=
  match c.motion.hand.target with
  | .pulses t => t
  | _ => 0

/-- The target in hand as a level, 0 for another form (read only for timed moves). -/
def handLevel (c : Channel) : Nat :=
  match c.motion.hand.target with
  | .level d => d
  | _ => 0

def stallTime (p : Profile) : Nat := p.stallUnits * 10
def settleTime (p : Profile) : Nat := p.settleUnits * 10
def reverseTime (p : Profile) : Nat := p.reverseUnits * 20

/-! ### Starting (R53, R67, R104, R105, R119, R120) -/

/-- Entry into MOVING at admission (R53): the move is fixed from the target in hand, counters and timers start, and the
drive starts at the levels of Table 6.6. -/
def Channel.enterMoving (c : Channel) (count : Nat) (kind : MoveKind) (dir : Dir) : Channel :=
  let stop := if kind = .positioned then some (stopFor c dir (handPulses c)) else none
  let minimum := match stop with | none => false | some q => !stopAhead c dir q
  let approachFirst := minimum || kind == .reference || (match stop with | none => false | some q => inApproach c dir q)
  let phase := if approachFirst then PhaseLevel.approach else PhaseLevel.run
  let level := if minimum then c.profile.approachLevel else c.profile.startLevel
  let reached := atRunLevel c.profile level phase
  { c with
    motion := { c.motion with
      state := .moving, moveKind := some kind, dir := some dir, stop, minimum,
      duration := if kind = .timed then (handLevel c - c.motion.timedEst) * c.profile.fullTravelTime else 0,
      moveTimer := some 0, reason := none, haltCause := none, timedLimit := false, byReset := false },
    travel := { c.travel with runCount := 0, drift := 0, stall := some (stallTime c.profile) },
    current := { c.current with startPhase := !approachFirst && !reached, blanking := timerOf c.profile.blanking,
                                filter := none, short := none },
    drive := { level, phase := some phase, ramp := some 10, runMark := reached, legs := legsOnStart count } }

/-- Entry into BACKOFF (R67): driven against the obstructed direction at the start level, a new drive start. -/
def Channel.enterBackoff (c : Channel) (count : Nat) : Channel :=
  { c with
    motion := { c.motion with
      state := .backoff, backoffCount := 0,
      dir := match c.motion.dir with | some .opening => some .closing | some .closing => some .opening | none => none },
    travel := { c.travel with stall := some (stallTime c.profile) },
    current := { c.current with startPhase := false, blanking := timerOf c.profile.blanking, filter := none, short := none },
    drive := { level := c.profile.startLevel, phase := some .start, ramp := none, runMark := false,
               legs := legsOnStart count } }

/-! ### Removing drive (R47, R99, R104 to R106, R108, R118) -/

/-- What stops when a channel leaves MOVING or BACKOFF; the drive time of the move is kept for R59 (log 14). DESIGN CHOICE: the
drive level becomes 0 at the transition (R118), and the leg's window ends at the next count boundary (R122, log 38). -/
def Channel.driveOff (c : Channel) (legs : LegStage) : Channel :=
  { c with
    motion := { c.motion with driveTime := c.motion.moveTimer.getD c.motion.driveTime, moveTimer := none, minimum := false },
    travel := { c.travel with stall := none },
    current := { c.current with startPhase := false, blanking := none, filter := none, short := none },
    drive := { level := 0, phase := none, ramp := none, runMark := false, legs } }

/-- Entry into BRAKING from a driven state (R56, R60): drive is removed, the brake-settle timer starts, the coast counts
from 0. The after-backoff mark is that of this entry (R67, log 15). -/
def Channel.enterBraking (c : Channel) (reason : BrakingReason) (cause : Option HaltCause) (afterBackoff : Bool) : Channel :=
  let d := c.driveOff (legsOnRemoval c.profile.brakeMode c.drive.legs)
  { d with motion := { d.motion with
      state := .braking, reason := some reason, haltCause := cause, afterBackoff,
      settleTimer := some (settleTime c.profile), coast := 0 } }

/-- What ends with BRAKING: the stop point and the brake-settle timer are cleared and the legs go OFF (R117, Table 3.4
note 1, log 16). -/
def Channel.leaveBraking (c : Channel) (state : MotionState) : Channel :=
  { c with
    motion := { c.motion with state, settleTimer := none, stop := none, moveKind := none },
    drive := { c.drive with legs := legsOnOff c.drive.legs } }

/-- Channel `ch` enters BRAKING; its share is released unless the reason is OBSTRUCT (R56, R65). -/
def State.brake (s : State) (ch : Chan) (reason : BrakingReason) (cause : Option HaltCause) (afterBackoff : Bool) : State :=
  let s := s.modChan ch (fun c => c.enterBraking reason cause afterBackoff)
  if reason = .obstruct then s else s.releaseShare ch

/-- Channel `ch`, at rest, joins the start queue and becomes WAITING when movement is needed; otherwise it is IDLE. -/
def State.settleAtRest (s : State) (ch : Chan) : State :=
  match moveNeeded (s.chan ch) with
  | some _ => (s.modChan ch (fun c => { c with motion := { c.motion with state := .waiting } })).joinQueue ch
  | none => s.modChan ch (fun c => { c with motion := { c.motion with state := .idle } })

/-- Channel `ch` enters DWELL (R68). -/
def State.enterDwell (s : State) (ch : Chan) : State :=
  s.modChan ch (fun c =>
    { c with motion := { c.motion with state := .dwell, dwellTimer := some (reverseTime c.profile) } })

/-! ### Faults (R70) -/

/-- The channel record on entry into FAULTED (R70): drive off at once, the timers of the state left stopped, the rest timer
started, and a halt cause dropped (R85). -/
def Channel.enterFaulted (c : Channel) (code : FaultCode) : Channel :=
  let d := c.driveOff (legsOnOff c.drive.legs)
  { d with motion := { d.motion with
      state := .faulted, fault := some code, settleTimer := none, dwellTimer := none, stop := none, moveKind := none,
      haltCause := none, afterBackoff := false, restTimer := some (settleTime c.profile) } }

/-- Channel `ch` faults (R70). A channel already FAULTED keeps its first fault code and posts nothing. -/
def State.faultChannel (s : State) (ch : Chan) (code : FaultCode) : State :=
  if (s.chan ch).motion.state = .faulted then s
  else
    let s := ((s.modChan ch (fun c => c.enterFaulted code)).releaseShare ch).leaveQueue ch
    s.postChan ch .fault (s.chan ch).reported (faultByte code)

/-! ### Re-targets (R49 to R52, R57 to R59) -/

/-- A positioned move follows a re-target to `t` pulses: it lies in the direction driven, beyond the deadband, with its new
stop point ahead (R57). -/
def canFollow (c : Channel) (dir : Dir) (t : Nat) : Bool :=
  beyondDeadband c t && dirToward c t == dir && stopAhead c dir (stopFor c dir t)

/-- A positioned move takes a new stop point, and its phase level is set again from the position (R55, R57). -/
def Channel.follow (c : Channel) (dir : Dir) (t : Nat) : Channel :=
  let stop := stopFor c dir t
  let c' := { c with motion := { c.motion with stop := some stop, minimum := false } }
  c'.setPhase (if inApproach c dir stop then .approach else .run)

/-- A re-target meets a channel in MOVING, its target in hand already replaced; `changed` says that the target differs from
the one it replaced (R57, R58, R59, log 8). -/
def State.retargetMoving (s : State) (ch : Chan) (changed : Bool) : State :=
  let c := s.chan ch
  let stopMove := s.brake ch .stop none false
  match c.motion.moveKind, c.motion.dir with
  | some .positioned, some dir =>
    if changed then
      match c.motion.hand.target with
      | .pulses t => if canFollow c dir t then s.modChan ch (fun c => c.follow dir t) else stopMove
      | _ => stopMove
    else s
  | some .timed, _ =>
    match c.motion.hand.target with
    | .level d =>
      if c.motion.hand.winRank = some 1 ∧ c.motion.timedEst < d then
        let duration := (d - c.motion.timedEst) * c.profile.fullTravelTime
        let s := s.modChan ch (fun c => { c with motion := { c.motion with duration } })
        if duration ≤ c.motion.moveTimer.getD 0 then s.brake ch .arrive none false else s
      else stopMove
    | _ => stopMove
  | _, _ =>
    match c.motion.hand.target with
    | .none => stopMove
    | .level d => if c.motion.hand.winRank = some 1 ∧ 0 < d then stopMove else s
    | .pulses _ => s

/-- What a channel does with the target just taken in hand, by its state (R51, R52, R57 to R59); in BRAKING, DWELL, BACKOFF
and FAULTED it is only stored. -/
def State.actOnTarget (s : State) (ch : Chan) (changed : Bool) : State :=
  match (s.chan ch).motion.state with
  | .idle =>
    match moveNeeded (s.chan ch) with
    | some _ => (s.modChan ch (fun c => { c with motion := { c.motion with state := .waiting } })).joinQueue ch
    | none => s
  | .waiting =>
    match moveNeeded (s.chan ch) with
    | some _ => s.resortQueue ch ((s.chan ch).motion.hand.queueRank.getD 6)
    | none => (s.modChan ch (fun c => { c with motion := { c.motion with state := .idle } })).leaveQueue ch
  | .moving => s.retargetMoving ch changed
  | _ => s

/-- A share holder passes its new queue rank to the admission unit (R49); the queue rank none leaves the holder's rank open
(log 7). -/
def State.passRank (s : State) (ch : Chan) (rank : Option Nat) : State :=
  if s.isHolder ch then
    match rank with
    | some r => s.rankHolder ch r
    | none => let f := s.freeRank; f.2.rankHolder ch f.1
  else s

/-- A re-target reaches channel `ch` (R49): the target in hand is replaced, a changed target sets the retry count to 0, and
the channel acts in its state. A DISABLED channel sets its target in hand to none (R46). DESIGN CHOICE: a changed target sets the
retry count to 0 in FAULTED too, as R49 says, where R66 has an OBSTRUCTED channel keep it (log 34). -/
def State.takeTarget (s : State) (ch : Chan) (sel : Selection) : State :=
  let old := (s.chan ch).motion
  if old.state = .disabled then s.modChan ch (fun c => { c with motion := { c.motion with hand := {} } })
  else
    let changed := old.hand.target != sel.target
    let s := s.modChan ch (fun c =>
      { c with motion := { c.motion with hand := sel, retry := if changed then 0 else c.motion.retry } })
    (s.actOnTarget ch changed).passRank ch sel.queueRank

/-- The target selector evaluates channel `ch` and hands the result to its motion engine (R34, R35). -/
def State.retarget (s : State) (ch : Chan) : State :=
  let sel := evaluate s.weather (s.chan ch)
  (s.modChan ch (fun c => { c with selected := sel })).takeTarget ch sel

/-- The channels of one event are evaluated (R7, R34); they carry no order among themselves (log 4). -/
def State.retargetAll (s : State) (chs : List Chan) : State := chs.foldl State.retarget s

/-! ### Shedding (R69) -/

/-- A shed or preemption reaches channel `ch`, which has left the share-holder set, with its cause. -/
def State.shedChannel (s : State) (ch : Chan) (cause : HaltCause) : State :=
  match (s.chan ch).motion.state with
  | .moving | .backoff => s.brake ch .stop (some cause) false
  | .braking =>
    if (s.chan ch).motion.reason = some .obstruct then
      (s.modChan ch (fun c => { c with motion := { c.motion with reason := some .stop, haltCause := some cause } })).releaseShare ch
    else s
  | _ => s

/-! ### The end of BRAKING (R60 to R64, R66) -/

/-- The estimate after a coast of `coast` pulses (R61): a quarter of the way, the quotient truncated toward zero, within
0..255. -/
def learnt (estimate coast : Nat) : Nat :=
  let d : Int := (min coast 255 : Nat) - (estimate : Int)
  (max 0 (min 255 ((estimate : Int) + Int.tdiv d 4))).toNat

/-- Overrun learning at the end of BRAKING(ARRIVE) after a positioned move (R61). -/
def Channel.learn (c : Channel) : Channel :=
  match c.motion.moveKind, c.motion.dir with
  | some .positioned, some .opening => { c with motion := { c.motion with eOpen := learnt c.motion.eOpen c.motion.coast } }
  | some .positioned, some .closing => { c with motion := { c.motion with eClose := learnt c.motion.eClose c.motion.coast } }
  | _, _ => c

/-- The timed estimate at the end of a timed move, whatever its braking reason (R59, R69). -/
def Channel.timeMove (c : Channel) : Channel :=
  if c.motion.moveKind = some .timed then
    { c with motion := { c.motion with
        timedEst := min 1000 (c.motion.timedEst + c.motion.driveTime / c.profile.fullTravelTime) } }
  else c

/-- BRAKING(ARRIVE) ends (R62). -/
def State.endArrive (s : State) (ch : Chan) : State :=
  let detail : Byte := if (s.chan ch).motion.timedLimit then 1 else 0
  let s := s.modChan ch (fun c =>
    let d := (c.learn.timeMove).leaveBraking .idle
    { d with motion := { d.motion with retry := 0 } })
  (s.postChan ch .arrived (s.chan ch).reported detail).settleAtRest ch

/-- BRAKING(END) ends (R63): the counter is set to the end reached and the channel becomes referenced. -/
def State.endAtEnd (s : State) (ch : Chan) : State :=
  let wasReference := (s.chan ch).motion.moveKind == some .reference
  let s := s.modChan ch (fun c =>
    let d := c.leaveBraking .idle
    { d with motion := { d.motion with retry := 0, referenced := true },
             travel := { d.travel with
               position := if c.motion.dir = some .opening then (c.profile.travel : Int) else 0 } })
  let s := s.postChan ch .arrived (s.chan ch).reported 0
  if wasReference then (s.postChan ch .referenced (some 0) 0).retarget ch else s.settleAtRest ch

/-- What the end of BRAKING(STOP) posts: HALTED when a halt cause is held (R64), and ARRIVED when a STATION RESET began the
braking (R170, R175, Tables 11.1 and 11.2); log 41 says which brakings a reset begins. -/
def State.postStopped (s : State) (ch : Chan) (cause : Option HaltCause) (byReset : Bool) : State :=
  let t := match cause with
    | none => s
    | some cause => s.postChan ch .halted (s.chan ch).reported (haltByte cause)
  if byReset then t.postChan ch .arrived (s.chan ch).reported 0 else t

/-- BRAKING(STOP) ends (R64): its reports are posted before the test of the target in hand, which gives DWELL, WAITING or
IDLE. -/
def State.endStop (s : State) (ch : Chan) : State :=
  let old := (s.chan ch).motion
  let s := s.modChan ch (fun c =>
    let d := c.timeMove.leaveBraking .idle
    { d with motion := { d.motion with haltCause := none, afterBackoff := false } })
  let s := s.postStopped ch old.haltCause old.byReset
  if old.afterBackoff then s.enterDwell ch
  else
    match moveNeeded (s.chan ch) with
    | none => s
    | some (_, dir) => if old.dir = some dir then s.settleAtRest ch else s.enterDwell ch

/-- BRAKING(OBSTRUCT) ends (R66): BACKOFF, DWELL or FAULTED(OBSTRUCTED) by the retry count. -/
def State.endObstruct (s : State) (ch : Chan) : State :=
  let c := s.chan ch
  if c.profile.retryLimit ≤ c.motion.retry then s.faultChannel ch .obstructed
  else
    let s := s.modChan ch (fun c =>
      let d := c.leaveBraking .idle
      { d with motion := { d.motion with retry := d.motion.retry + 1 } })
    if c.profile.backoffDist = 0 then (s.releaseShare ch).enterDwell ch
    else s.modChan ch (fun c => c.enterBackoff s.clock.count)

/-- BRAKING ends by its reason (R60). -/
def State.endBraking (s : State) (ch : Chan) : State :=
  match (s.chan ch).motion.reason with
  | some .arrive => s.endArrive ch
  | some .endReached => s.endAtEnd ch
  | some .obstruct => s.endObstruct ch
  | some .stop => s.endStop ch
  | none => s.endStop ch

end Sys2Proof.Machine
end

