-- ==== Sys2Proof/Machine/Admission.lean ====
section
/-! DEFINITION. The admission unit: the effective budget, admission, preemption and shedding (Chapter 4). -/

namespace Sys2Proof.Machine

/-- The effective budget of Table 4.2 (R77). -/
def budgetOf (t : Settings) (supply : SupplyState) (thermal : ThermalState) : Nat :=
  let base := match supply with
    | .normal => t.normalBudget
    | .low => t.lowBudget
    | .cut | .overVolt => 0
  match thermal with
  | .normal => base
  | .warn => base / 2
  | .shut => 0

/-- The third condition of R80: the head's weight fits beside the share holders, or there are none. -/
def fitsBudget (s : State) (e : QueueEntry) : Bool :=
  s.admission.holders.isEmpty || totalWeight s.admission.holders + e.weight ≤ s.admission.budget

/-- The head `e` is admitted (R80, R81, R53). -/
def State.admitHead (s : State) (e : QueueEntry) : State :=
  let held := s.admission.holders ++ [{ e with time := s.clock.now }]
  let s := { s with admission := { s.admission with
    queue := dropChan e.chan s.admission.queue, holders := held, stagger := timerOf s.settings.stagger } }
  match moveNeeded (s.chan e.chan) with
  | some (kind, dir) => s.modChan e.chan (fun c => c.enterMoving s.clock.count kind dir)
  | none =>
    (s.modChan e.chan (fun c => { c with motion := { c.motion with state := .idle } })).releaseShare e.chan

/-- A share holder is shed (R78, R83, R85): it leaves the set at once, and the shed reaches its motion engine (R69). -/
def State.shed (s : State) (e : QueueEntry) (cause : HaltCause) : State :=
  (s.releaseShare e.chan).shedChannel e.chan cause

/-- The candidates of a preemption (R83): the share holders of queue rank 4, 5 or 6. -/
def candidates (s : State) : List QueueEntry := s.admission.holders.filter (fun e => 4 ≤ e.rank)

/-- Preemption for the head `e` (R83): candidates are shed one at a time in shed order until the head fits, no holders
remain or no candidates remain. `fuel` bounds the number of holders. -/
def preemptLoop (e : QueueEntry) : Nat → State → State
  | 0, s => s
  | fuel + 1, s =>
    if fitsBudget s e then s
    else
      match firstShed (candidates s) with
      | none => s
      | some h => preemptLoop e fuel (s.shed h .preempt)

def State.preempt (s : State) (e : QueueEntry) : State := preemptLoop e s.admission.holders.length s

/-- Admission evaluation (R79, R80, R83): heads are admitted one after another while they pass the test; a SMOKE head that
fails for room alone preempts. `fuel` bounds the number of entries. -/
def admitLoop : Nat → State → State
  | 0, s => s
  | fuel + 1, s =>
    match s.admission.queue with
    | [] => s
    | e :: _ =>
      if s.admission.stagger.isSome || s.admission.budget = 0 then s
      else if fitsBudget s e then admitLoop fuel (s.admitHead e)
      else if e.rank = 1 then
        let s := s.preempt e
        if fitsBudget s e then admitLoop fuel (s.admitHead e) else s
      else s

def State.evaluateAdmission (s : State) : State := admitLoop s.admission.queue.length s

/-- The end of a command (R79, log 4): when it changed the start queue, the share holders, the budget or the stagger timer,
the admission unit makes an admission evaluation. -/
def State.finish (before after : State) : State :=
  if before.admission = after.admission then after else after.evaluateAdmission

/-- The share-holder law of R76 holds with the holders and the budget as they stand. -/
def holdersFit (a : Admission) : Bool :=
  a.holders.isEmpty || (decide (0 < a.budget) && (a.holders.length ≤ 1 || totalWeight a.holders ≤ a.budget))

/-- Shedding after the budget fell (R78): share holders are shed in shed order until the law of R76 holds. -/
def shedLoop (cause : HaltCause) : Nat → State → State
  | 0, s => s
  | fuel + 1, s =>
    if holdersFit s.admission then s
    else
      match firstShed s.admission.holders with
      | none => s
      | some h => shedLoop cause fuel (s.shed h cause)

/-- The admission unit computes the effective budget anew (R77); when it falls, it sheds with `cause` (R78). The admission
evaluation follows at the end of the command. -/
def State.rebudget (s : State) (cause : HaltCause) : State :=
  let budget := budgetOf s.settings s.supply.state s.thermal.state
  let s' := { s with admission := { s.admission with budget } }
  if budget < s.admission.budget then shedLoop cause s.admission.holders.length s' else s'

/-! ### The commands of the admission unit -/

/-- STAGGER_TIMER_EXPIRY (R81): the timer is expired, and an admission evaluation is raised (R79). -/
def execStaggerTimerExpiry (s : State) : Host.Outcome State Fault Refusal :=
  .next (if timerDue s.admission.stagger then
    { s with admission := { s.admission with stagger := none } }.evaluateAdmission
  else s)

end Sys2Proof.Machine
end

