-- ==== Sys2Proof/Machine/Claims.lean ====
section
/-! DEFINITION. The group table and the claim table (Chapter 1): lookup, placement, expiry, release, line loss and recovery.
Re-targets are raised here; admission is evaluated at the end of the command (log 4). -/

namespace Sys2Proof.Machine

/-! ### The group table (R1) -/

def GroupEntry.valid (e : GroupEntry) : Bool := 1 ≤ e.number && e.number ≤ 1023

/-- The valid entry that holds group number `g`, if any (R1). -/
def lookupGroup (groups : List GroupEntry) (g : Nat) : Option GroupEntry :=
  groups.find? (fun e => e.valid && e.number == g)

/-- The channels of a member set. -/
def memberList (m : PerChan Bool) : List Chan := allChans.filter (fun c => m.get c)

/-! ### Building and storing claims (R3 to R7) -/

/-- The stay position captured at placement (R5). -/
def captureStay (c : Channel) : Demand :=
  .stay (if c.motion.referenced then some (clampPosition c.travel.position c.profile.travel) else none)

/-- What a placement asks for, before a channel is looked at: a level, or STAY. -/
inductive Asked where
  | level (d : Nat)
  | stay
  deriving DecidableEq, Repr

/-- The demand field of a DEMAND frame (R5): 65535 is STAY, and 1001 to 65534 give LEVEL 1000. -/
def askedOf (d : Nat) : Asked := if d = 65535 then .stay else .level (clampLevel d)

def Asked.demandFor (a : Asked) (c : Channel) : Demand :=
  match a with
  | .level d => .level d
  | .stay => captureStay c

/-- The hold of a frame in ms (R6): clamped to 3600 s, and 0 means the default hold. -/
def holdMs (t : Settings) (hold : Nat) : Nat := 1000 * (if hold = 0 then t.defaultHold else min hold 3600)

/-- The expiry of a claim of origin LINE (Table 1.3). -/
def lineExpiry (t : Settings) (cls : ClaimClass) (hold : Nat) : Option Nat :=
  match cls with
  | .smoke | .fallback | .airing => none
  | .service => if hold = 0 then none else some (holdMs t hold)
  | .manual | .comfort => some (holdMs t hold)

/-- A claim is stored in its slot, replacing what stood there whole (R10). -/
def Channel.putClaim (c : Channel) (cls : ClaimClass) (claim : Claim) : Channel :=
  { c with slots := c.slots.set cls (some claim) }

/-- A claim leaves its slot; an AIRING claim takes the airing record with it (R23, R130). -/
def Channel.dropClaim (c : Channel) (cls : ClaimClass) : Channel :=
  { c with slots := c.slots.set cls none, airing := if cls = .airing then none else c.airing }

/-- The outcome of a placement: the state with the claims stored and the re-targets raised, the channels that stored the
claim, and the counts accepted and withheld. -/
structure Placed where
  state    : State
  stored   : Nat
  accepted : Nat
  withheld : Nat

/-- R9: each member channel stores the claim unless it is DISABLED, and is counted accepted unless it is DISABLED or FAULTED.
`put` stores the claim on one channel. -/
def State.placeOn (s : State) (members : List Chan) (put : Channel → Channel) : Placed :=
  let stored := members.filter (fun c => (s.chan c).motion.state != .disabled)
  let accepted := stored.filter (fun c => (s.chan c).motion.state != .faulted)
  let s' := stored.foldl (fun s c => s.modChan c put) s
  { state := s'.retargetAll stored, stored := stored.length, accepted := accepted.length,
    withheld := members.length - accepted.length }

/-- A DEMAND of the right length reaches the claim table (R8, R9, R4, R5, R6, R125). -/
def State.placeDemand (s : State) (tag : Word16) (payload : List Byte) : Placed :=
  let nothing : Placed := { state := s, stored := 0, accepted := 0, withheld := 0 }
  match frameClass payload with
  | none => nothing
  | some cls =>
    match lookupGroup s.groups (frameGroup payload) with
    | none => nothing
    | some entry =>
      let members := memberList entry.members
      if entry.admitted.admits cls then
        let air := airingOf payload
        let asked := if cls = .airing then Asked.level air.level else askedOf (frameDemand payload)
        let put (c : Channel) : Channel :=
          { c.putClaim cls { origin := .line, group := some entry.number, demand := asked.demandFor c,
                             expiry := lineExpiry s.settings cls (frameHold payload), tag := tag.toNat } with
            airing := if cls = .airing then some air else c.airing }
        s.placeOn members put
      else { nothing with withheld := members.length }

/-- The claims named by `hit` leave slot `cls` of every channel, with one re-target for each channel changed; the number
removed comes with it. -/
def State.removeWhere (s : State) (cls : ClaimClass) (hit : Claim → Bool) : State × Nat :=
  let chs := allChans.filter (fun c => ((s.chan c).slots.get cls).any hit)
  ((chs.foldl (fun s c => s.modChan c (fun x => x.dropClaim cls)) s).retargetAll chs, chs.length)

/-- A RELEASE of the right length reaches the claim table (R15): the state and the accepted count. A FALLBACK record has no
recorded group, and group 0 does not reach it. -/
def State.releaseClaims (s : State) (payload : List Byte) : State × Nat :=
  match frameClass payload with
  | none => (s, 0)
  | some .fallback => (s, 0)
  | some cls => s.removeWhere cls (fun c => frameGroup payload == 0 || c.group == some (frameGroup payload))

/-! ### Local placement and removal (R13, R14) -/

/-- A placement request of input `n` (R13): the state, and the number of channels that stored the claim, or none when the
request is WITHHELD. -/
def State.placeLocal (s : State) (n : InputNo) (cls : ClaimClass) (asked : Asked) (expiry : Option Nat) :
    State × Option Nat :=
  match lookupGroup s.groups (s.input n).group with
  | none => (s, none)
  | some entry =>
    if entry.admitted.admits cls then
      let put (c : Channel) : Channel :=
        c.putClaim cls { origin := .input n, group := some entry.number, demand := asked.demandFor c, expiry, tag := 0 }
      let placed := s.placeOn (memberList entry.members) put
      (placed.state, some placed.stored)
    else (s, none)

/-- A removal request of input `n` for class SERVICE (R14). -/
def State.removeLocal (s : State) (n : InputNo) : State :=
  (s.removeWhere .service (fun c => c.origin == .input n)).1

/-! ### Line loss and recovery (R17 to R19) -/

/-- The FALLBACK claim of a channel (R18). -/
def fallbackClaim (c : Channel) : Claim :=
  { origin := .line, group := none, expiry := none, tag := 0,
    demand := if c.profile.failMoveTo then .level c.profile.moveToLevel else captureStay c }

/-- What LINE_LOST makes of one channel's slots (R17, Table 1.5). -/
def Channel.loseLine (c : Channel) : Channel :=
  let d := (c.dropClaim .comfort).dropClaim .airing
  let e := if d.slots.manual.any (fun m => m.origin == .line) then d.dropClaim .manual else d
  if c.motion.state = .disabled then e else e.putClaim .fallback (fallbackClaim c)

/-- LINE_LOST reaches the claim table (R17): one re-target for each channel whose slots changed, which takes in every
channel that is not DISABLED, since a FALLBACK claim is placed there (R7). -/
def State.claimsLineLost (s : State) : State :=
  let chs := allChans.filter (fun c =>
    (s.chan c).motion.state != .disabled || (s.chan c).loseLine.slots != (s.chan c).slots)
  { s with chans := s.chans.map Channel.loseLine }.retargetAll chs

/-- LINE_OK reaches the claim table (R19). -/
def State.claimsLineOk (s : State) : State := (s.removeWhere .fallback (fun _ => true)).1

/-- STATION RESET empties every slot but rank 1 (R20), with every airing record. -/
def Channel.resetClaims (c : Channel) : Channel := { c with slots := { smoke := c.slots.smoke }, airing := none }

/-- The channels whose slots STATION RESET changes, each to be re-targeted (R20, R7). -/
def resetChanged (s : State) : List Chan :=
  allChans.filter (fun c => (s.chan c).resetClaims.slots != (s.chan c).slots)

/-! ### The commands of the claim table -/

/-- CLAIM_EXPIRY (R12): a claim whose expiry has reached 0 leaves its slot. A SMOKE claim never expires (R16). -/
def State.expireClaim (s : State) (ch : Chan) (cls : ClaimClass) : State :=
  match (s.chan ch).slots.get cls with
  | none => s
  | some claim =>
    if timerDue claim.expiry && cls != .smoke then (s.modChan ch (fun c => c.dropClaim cls)).retarget ch else s

def execClaimExpiry (ch : Chan) (cls : ClaimClass) (s : State) : Host.Outcome State Fault Refusal :=
  .next (s.finish (s.expireClaim ch cls))

end Sys2Proof.Machine
end

