-- ==== Sys2Proof/Machine/Airing.lean ====
section
/-! DEFINITION. The airing generators (Chapter 7). -/

namespace Sys2Proof.Machine

/-- The airing record as it enters the phase `phase`, with a full dwell (R127, R128). -/
def AiringRecord.turnTo (a : AiringRecord) (phase : AiringPhase) : AiringRecord :=
  { a with phase, dwell := 1000 * (match phase with | .openPhase => a.openDwell | .closedPhase => a.closedDwell) }

/-- The generator writes its record back and rewrites the demand of the AIRING claim (R23). -/
def Channel.rewriteAiring (c : Channel) (a : AiringRecord) : Channel :=
  { c with
    airing := some a,
    slots := { c.slots with airing := c.slots.airing.map (fun k => { k with demand := .level a.level }) } }

/-- The position, rank and cycle count of AIRING DONE (R129): the winning rank that remains after the removal. -/
def State.postAiringDone (s : State) (ch : Chan) (cycles : Nat) : State :=
  s.post { kind := .airingDone, chan := some ch, position := (s.chan ch).reported,
           rank := (winner (s.chan ch).slots).map (fun w => classRank w.1), detail := { b5 := byteOf cycles } }

/-- A dwell that has run out ends its phase (R127, R128): the phase turns, or the airing is done. -/
def State.endDwell (s : State) (ch : Chan) : State :=
  match (s.chan ch).airing with
  | none => s
  | some a =>
    if a.dwell ≠ 0 then s
    else
      let turn (b : AiringRecord) := (s.modChan ch (fun c => c.rewriteAiring b)).retarget ch
      match a.phase, a.remaining with
      | .openPhase, _ => turn (a.turnTo .closedPhase)
      | .closedPhase, none => turn (a.turnTo .openPhase)
      | .closedPhase, some n =>
        if 2 ≤ n then turn ({ a with remaining := some (n - 1) }.turnTo .openPhase)
        else
          ((s.modChan ch (fun c => c.dropClaim .airing)).retarget ch).postAiringDone ch (a.atCreation.getD 0)

/-- AIRING_DWELL_EXPIRY (R127, R128). -/
def execAiringDwellExpiry (ch : Chan) (s : State) : Host.Outcome State Fault Refusal :=
  .next (s.finish (s.endDwell ch))

end Sys2Proof.Machine
end

