-- ==== Sys2Proof/Machine/WeatherUnit.lean ====
section
/-! DEFINITION. The weather unit: wind state, sector settling and rain state (Chapter 2). -/

namespace Sys2Proof.Machine

/-! ### Wind state (R26, R27) -/

/-- The wind state of a speed without hysteresis, as the UNKNOWN and CALM cases of R26 give it. -/
def windOfSpeed (t : Settings) (v : Nat) : WindState :=
  if t.w2 ≤ v then .storm else if t.w1 ≤ v then .windy else .calm

/-- A release timer below its release speed: it starts with Rd when stopped, and runs on when running (R26). -/
def startRelease (t : Settings) (timer : Option Nat) : Option Nat :=
  match timer with
  | none => some (1000 * t.releaseDelay)
  | some r => some r

/-- The wind state and the release timer on a WEATHER frame of saturated speed `v` (R26). -/
def windOnFrame (t : Settings) (w : Weather) (v : Nat) : WindState × Option Nat :=
  match w.wind with
  | .unknown => (windOfSpeed t v, none)
  | .calm => (windOfSpeed t v, none)
  | .windy =>
    if t.w2 ≤ v then (.storm, none)
    else if t.w1 - t.hysteresis ≤ v then (.windy, none)
    else (.windy, startRelease t w.releaseTimer)
  | .storm =>
    if t.w2 - t.hysteresis ≤ v then (.storm, none) else (.storm, startRelease t w.releaseTimer)

/-- The wind state after the release timer expires (R27), against the limits of the last WEATHER frame (R25, log 31). -/
def windOnRelease (w : Weather) : WindState :=
  match w.wind with
  | .storm => if w.w1InForce - w.hystInForce ≤ w.lastSpeed then .windy else .calm
  | .windy => .calm
  | other => other

/-! ### Sector settling (R29, R30) -/

/-- The settled sector, the candidate and the settle timer on a frame whose sector byte is `b` (R29, R30). DESIGN CHOICE: a
candidate reported again keeps its running timer, also when the settle time has become 0 since (log 33). -/
def Weather.settle (t : Settings) (w : Weather) (b : Nat) : Weather :=
  if 16 ≤ b then w
  else
    let adopt := { w with settled := some b, candidate := none, settleTimer := none }
    match w.settled with
    | none => adopt
    | some s =>
      if b = s then { w with candidate := none, settleTimer := none }
      else if w.candidate = some b then w
      else if t.settleTime = 0 then adopt
      else { w with candidate := some b, settleTimer := some (1000 * t.settleTime) }

/-! ### Rain (R31) and what the unit hands on (R33) -/

/-- Local rain (R31, R138): a RAIN CONTACT entry has its debounced state active. -/
def localRain (s : State) : Bool :=
  allInputs.any (fun n => (s.input n).function == .rainContact && (s.input n).active)

/-- The wet condition (R31). -/
def wetCondition (s : State) : Bool := (s.weather.lineWet && s.weather.wind != .unknown) || localRain s

/-- What a change of the wet condition does to the rain state and its release timer (R31). -/
def Weather.onWet (t : Settings) (w : Weather) (before after : Bool) : Weather :=
  if before == after then w
  else if after then { w with rainWet := true, rainTimer := none }
  else if t.rainDelay = 0 then { w with rainWet := false, rainTimer := none }
  else { w with rainTimer := some (1000 * t.rainDelay) }

/-- One of the three items the unit hands on differs (R33). -/
def weatherDiffers (a b : Weather) : Bool := a.wind != b.wind || a.settled != b.settled || a.rainWet != b.rainWet

/-- The WEATHER report (R33, Table 11.2). -/
def weatherReport (w : Weather) : Report :=
  { kind := .weather, detail := { b5 := windByte w.wind, b6 := byteOf (bitOf w.rainWet), b7 := sectorByte w.settled } }

/-- One event of the weather unit (R33): `change` makes the event's own change, the rain state follows the wet condition, and
a change of wind state, settled sector or rain state posts one WEATHER report and evaluates every channel. -/
def State.weatherEvent (s : State) (change : State → State) : State :=
  let a := change s
  let b := { a with weather := a.weather.onWet a.settings (wetCondition s) (wetCondition a) }
  if weatherDiffers s.weather b.weather then (b.post (weatherReport b.weather)).retargetAll allChans else b

/-- The weather record taken from a WEATHER frame of 4 payload bytes (R24, R26, R29); the settings' limits come into force with
it (R25). -/
def State.takeWeather (payload : List Byte) (s : State) : State :=
  let v := min (wordAt payload 0) 700
  let wind := windOnFrame s.settings s.weather v
  let w := { s.weather with
    windSpeed := v, lastSpeed := v, lineWet := (byteAt payload 3) != 0,
    age := some 0, staleAt := 1000 * s.settings.staleTime, wind := wind.1, releaseTimer := wind.2,
    w1InForce := s.settings.w1, hystInForce := s.settings.hysteresis }
  { s with weather := w.settle s.settings (byteAt payload 2).toNat }

/-! ### The commands of the weather unit -/

/-- RELEASE_TIMER_EXPIRY (R27): the wind state falls and the timer stops. -/
def State.releaseExpires (s : State) : State :=
  if timerDue s.weather.releaseTimer then
    s.weatherEvent (fun s =>
      { s with weather := { s.weather with wind := windOnRelease s.weather, releaseTimer := none } })
  else s

def execReleaseTimerExpiry (s : State) : Host.Outcome State Fault Refusal := .next (s.finish s.releaseExpires)

/-- SETTLE_TIMER_EXPIRY (R29): the candidate becomes the settled sector. -/
def State.settleExpires (s : State) : State :=
  if timerDue s.weather.settleTimer then
    s.weatherEvent (fun s =>
      { s with weather := { s.weather with
        settled := s.weather.candidate.or s.weather.settled, candidate := none, settleTimer := none } })
  else s

def execSettleTimerExpiry (s : State) : Host.Outcome State Fault Refusal := .next (s.finish s.settleExpires)

/-- RAIN_RELEASE_TIMER_EXPIRY (R31): the rain state becomes DRY. -/
def State.rainExpires (s : State) : State :=
  if timerDue s.weather.rainTimer then
    s.weatherEvent (fun s => { s with weather := { s.weather with rainWet := false, rainTimer := none } })
  else s

def execRainReleaseTimerExpiry (s : State) : Host.Outcome State Fault Refusal := .next (s.finish s.rainExpires)

/-- The age has reached the stale time in force. -/
def ageDue (w : Weather) : Bool := w.age.any (fun a => w.staleAt ≤ a)

/-- STALE_TIME_EXPIRY (R28). -/
def State.goesStale (s : State) : State :=
  if ageDue s.weather then
    s.weatherEvent (fun s =>
      { s with weather := { s.weather with
        wind := .unknown, releaseTimer := none, settled := none, candidate := none, settleTimer := none, age := none } })
  else s

def execStaleTimeExpiry (s : State) : Host.Outcome State Fault Refusal := .next (s.finish s.goesStale)

end Sys2Proof.Machine
end

