-- ==== Sys2Proof/Machine/Inputs.lean ====
section
/-! DEFINITION. The local input unit (Chapter 8): sampling, debouncing, the five functions, and the ending of a function. -/

namespace Sys2Proof.Machine

/-- A sample of this entry's pin is active: the pin stands at the entry's active level (R133). -/
def InputEntry.sampleActive (e : InputEntry) (high : Bool) : Bool := high == e.activeHigh

/-- One 1 ms sample of an entry's pin (R133): a sample that differs from the debounced state starts the debounce timer when
it is stopped, one equal to it stops the timer; an UNUSED entry is not debounced. -/
def InputEntry.sample (e : InputEntry) (high : Bool) : InputEntry :=
  let e := { e with pinHigh := high }
  if e.function = .unused then e
  else if e.sampleActive high = e.active then { e with timer := none }
  else
    match e.timer with
    | none => { e with timer := some (10 * e.debounce) }
    | some _ => e

/-- INPUT_SAMPLE (R133): the pins IN1 to IN4 are sampled. -/
def execInputSample (high1 high2 high3 high4 : Bool) (s : State) : Host.Outcome State Fault Refusal :=
  .next { s with inputs := ⟨s.inputs.in1.sample high1, s.inputs.in2.sample high2, s.inputs.in3.sample high3,
                            s.inputs.in4.sample high4⟩ }

/-- The outcome of an input change (R139). -/
inductive InputOutcome where
  | none
  | placed (channels : Nat)
  | withheld
  deriving DecidableEq, Repr

/-- Byte 7 of an INPUT report's detail (Table 11.2). -/
def outcomeByte : InputOutcome → Byte
  | .none => 0
  | .placed n => byteOf (16 + n)
  | .withheld => byteOf 32

/-- The debounced states of all four entries, bit (n − 1) for input n. -/
def activeByte (p : PerInput InputEntry) : Byte :=
  byteOf (bitOf p.in1.active + 2 * bitOf p.in2.active + 4 * bitOf p.in3.active + 8 * bitOf p.in4.active)

/-- The INPUT report of a change of input `n` (R139). -/
def State.postInput (s : State) (n : InputNo) (outcome : InputOutcome) : State :=
  s.post { kind := .input, detail := {
    b5 := byteOf (inputIndex n), b6 := byteOf (bitOf (s.input n).active), b7 := outcomeByte outcome,
    b8 := activeByte s.inputs } }

/-- The other manual function, for the both-keys case (R136). -/
def otherManual : InputFunction → Option InputFunction
  | .manualOpen => some .manualClose
  | .manualClose => some .manualOpen
  | _ => none

/-- Another entry of the other manual function, with the same group number, has its debounced state active (R136). -/
def bothKeys (s : State) (n : InputNo) : Bool :=
  let e := s.input n
  allInputs.any (fun m =>
    let o := s.input m
    m != n && some o.function == otherManual e.function && o.group == e.group && o.active)

def outcomeOf (r : State × Option Nat) : State × InputOutcome :=
  match r.2 with
  | .none => (r.1, .withheld)
  | some k => (r.1, .placed k)

/-- What an activation of input `n` asks for under the entry's function (R135 to R138). -/
def State.activate (s : State) (n : InputNo) : State × InputOutcome :=
  let e := s.input n
  match e.function with
  | .fireContact => outcomeOf (s.placeLocal n .smoke (.level e.level) none)
  | .manualOpen =>
    outcomeOf (s.placeLocal n .manual (if bothKeys s n then .stay else .level e.level) (some (1000 * e.hold)))
  | .manualClose =>
    outcomeOf (s.placeLocal n .manual (if bothKeys s n then .stay else .level 0) (some (1000 * e.hold)))
  | .serviceSwitch => outcomeOf (s.placeLocal n .service .stay none)
  | .rainContact | .unused => (s, .none)

/-- What a deactivation does: a SERVICE SWITCH sends its removal request, the other functions make none (R135 to R138). -/
def State.deactivate (s : State) (n : InputNo) : State :=
  if (s.input n).function = .serviceSwitch then s.removeLocal n else s

/-- The debounced state of input `n` becomes `active`; a change of local rain is one event of the weather unit (R138). -/
def State.setActive (s : State) (n : InputNo) (active : Bool) : State :=
  s.weatherEvent (fun s => s.setInput n { s.input n with active })

/-- DEBOUNCE_TIMER_EXPIRY (R133): the debounced state takes the value of the samples; the change acts under the entry's
function and posts one INPUT report (R139, log 29). -/
def State.debounce (s : State) (n : InputNo) : State :=
  let e := s.input n
  if timerDue e.timer then
    let s := s.setInput n { e with timer := none }
    let now := e.sampleActive e.pinHigh
    if now = e.active then s
    else
      let s := s.setActive n now
      if now then
        let r := s.activate n
        r.1.postInput n r.2
      else (s.deactivate n).postInput n .none
  else s

def execDebounceTimerExpiry (n : InputNo) (s : State) : Host.Outcome State Fault Refusal :=
  .next (s.finish (s.debounce n))

/-- An accepted INPUT write lays the entry `e` over entry `n` (R134, R163): a change of the function or the active level ends
the old function as for a deactivation, without a report, and the entry starts afresh. -/
def State.writeInput (s : State) (n : InputNo) (e : InputEntry) : State :=
  let old := s.input n
  if old.function = e.function ∧ old.activeHigh = e.activeHigh then s.setInput n e
  else
    let s := if old.active then s.deactivate n else s
    s.weatherEvent (fun s => s.setInput n { e with active := false, timer := none })

end Sys2Proof.Machine
end

