-- ==== Sys2Proof/Machine/LineUnit.lean ====
section
/-! DEFINITION. The line interface and frame processor (Chapter 9): ports, reception, acceptance, forwarding, the end station,
the transmitters and the watchdog. -/

namespace Sys2Proof.Machine

/-! ### Ready outputs and reception (R143, R144, R152) -/

def downPlaces : Nat := 4
def upPlaces : Nat := 8

/-- The place a frame in reception holds in its queue (R144). DESIGN CHOICE: a frame begun against the handshake, which is
discarded, holds none for the ready output while its reception lasts, although R144 says of the frame in reception that it counts
as holding a place (log 45). -/
def heldPlaces : Option Reception → Nat
  | some .underReady => 1
  | some .againstHandshake => 0
  | none => 0

/-- The station is the end station while its D-port is DOWN (R151). -/
def isEndStation (s : State) : Bool := !s.line.dUp

/-- The ready output toward the U-port (R144); at the end station it also requires a free place in the upstream forward queue
(R152). -/
def readyU (s : State) : Bool :=
  s.line.uUp && decide (s.line.downQueue.length + heldPlaces s.line.uRx < downPlaces)
    && (!isEndStation s || decide (s.line.upQueue.length < upPlaces))

/-- The ready output toward the D-port (R144, R154). -/
def readyD (s : State) : Bool :=
  s.line.dUp && decide (s.line.upQueue.length + heldPlaces s.line.dRx < upPlaces)

def receptionOf (ready : Bool) : Reception := if ready then .underReady else .againstHandshake

/-- The first byte of a frame on a port (R144, R146, R154): a port that is DOWN takes no frames, and a frame already in
reception goes on. DESIGN CHOICE: a frame begun against the handshake is discarded at its end, and sets the line error indicator
then and not here (log 43). -/
def State.firstByte (s : State) : Port → State
  | .uPort =>
    if s.line.uUp && s.line.uRx.isNone then { s with line := { s.line with uRx := some (receptionOf (readyU s)) } } else s
  | .dPort =>
    if s.line.dUp && s.line.dRx.isNone then { s with line := { s.line with dRx := some (receptionOf (readyD s)) } } else s

/-- FRAME_FIRST_BYTE. -/
def execFrameFirstByte (p : Port) (s : State) : Host.Outcome State Fault Refusal := .next (s.firstByte p)

/-- The frame in reception on a port is discarded and gives up its place; the line error indicator is set (R144, R145). -/
def State.discardFrame (s : State) : Port → State
  | .uPort => { s with line := { s.line with uRx := none, lineError := true } }
  | .dPort => { s with line := { s.line with dRx := none, lineError := true } }

def State.portUp (s : State) : Port → Bool
  | .uPort => s.line.uUp
  | .dPort => s.line.dUp

def State.reception (s : State) : Port → Option Reception
  | .uPort => s.line.uRx
  | .dPort => s.line.dRx

/-- A frame received on a port ends: it is discarded when it fails the checker or was sent against the handshake (R144, R145). A
frame that fits neither is no discarded frame. DESIGN CHOICE: a frame against the handshake sets the line error indicator here, at
its end, and not at its first byte (log 43). A frame whose first byte was no command of its own brings it along (log 9). -/
def State.endBadFrame (s : State) (p : Port) (bytes : List Byte) (byteError : Bool) : State :=
  if s.portUp p then
    let t := s.firstByte p
    if t.reception p = some .againstHandshake || !frameChecks bytes byteError then t.discardFrame p else s
  else s

/-- FRAME_DISCARDED (R145). -/
def execFrameDiscarded (p : Port) (bytes : List Byte) (byteError : Bool) (s : State) :
    Host.Outcome State Fault Refusal :=
  .next (s.endBadFrame p bytes byteError)

/-- UPSTREAM_FRAME_ACCEPTED (R145, R154): a good frame on the D-port enters the upstream forward queue unchanged. -/
def State.acceptUpstream (s : State) (f : Frame) : State :=
  if s.line.dUp then
    let t := s.firstByte .dPort
    if t.line.dRx = some .againstHandshake || !payloadFits f.payload then t.discardFrame .dPort
    else { t with line := { t.line with dRx := none, upQueue := t.line.upQueue ++ [f] } }
  else s

def execUpstreamFrameAccepted (f : Frame) (s : State) : Host.Outcome State Fault Refusal := .next (s.acceptUpstream f)

/-! ### ECHO (R151, R153) -/

/-- The ECHO of a DEMAND, RELEASE or ENUMERATE as it stands after this station's rewrite (R151, Table 9.6). -/
def echoOf (station : Nat) (f : Frame) : Frame :=
  let b (i : Nat) : Byte := byteAt f.payload i
  { kind := 0x22, station := byteOf station, tag := f.tag,
    payload :=
      if f.kind = 0x01 then [f.kind, b 0, b 1, b 2, b 7, b 8, b 9, 0]
      else if f.kind = 0x02 then [f.kind, b 0, b 1, b 2, b 3, b 4, b 5, 0]
      else [f.kind, 0, 0, 0, 0, 0, 0, b 0] }

/-- An ECHO enters the upstream forward queue as the newest frame; one that finds the queue full is discarded and the line
error indicator is set (R151, R153). DESIGN CHOICE: the station byte is the number held when the ECHO is made, also for a frame
acted on before an ENUMERATE (R177, log 42). -/
def State.pushEcho (s : State) (f : Frame) : State :=
  if s.line.upQueue.length < upPlaces then
    { s with line := { s.line with upQueue := s.line.upQueue ++ [echoOf s.line.station f] } }
  else { s with line := { s.line with lineError := true } }

/-! ### Acceptance on the U-port (R146, R157) -/

/-- What becomes of an accepted frame (R146): forwarded as given, with the mark of R153, or consumed or dropped. -/
inductive Fate where
  | forward (f : Frame) (acted : Bool)
  | gone
  deriving DecidableEq, Repr

/-- A frame to be forwarded stays in the downstream queue; at the end station it is removed, and echoed when it is a DEMAND,
RELEASE or ENUMERATE that was acted on (R146, R151). -/
def State.dispose (s : State) : Fate → State
  | .gone => s
  | .forward f acted =>
    if isEndStation s then (if acted then s.pushEcho f else s)
    else { s with line := { s.line with downQueue := s.line.downQueue ++ [{ frame := f, acted }] } }

/-- The LINE report (Table 11.2). -/
def lineReport (lost : Bool) : Report := { kind := .line, detail := { b5 := byteOf (bitOf lost) } }

/-- The line becomes LINE_OK (R157, R19). -/
def State.lineOk (s : State) : State :=
  ({ s with line := { s.line with lost := false } }.claimsLineOk).post (lineReport false)

def watchdogMs (t : Settings) : Nat := 1000 * t.watchdog

/-- The line interface once it has accepted a frame (R157): the reception has ended, and the watchdog has restarted. DESIGN
CHOICE: with the timeout that stands before the frame acts, also for a SETTINGS write (R165, log 40). -/
def Line.heard (l : Line) (t : Settings) : Line := { l with uRx := none, watchdog := watchdogMs t }

/-- A frame is acted on by `act` and disposed of, as one event: the admission evaluation comes at its end (R79, log 4). -/
def State.hear (s : State) (act : State → State × Fate) : State :=
  let r := act s
  s.finish (r.1.dispose r.2)

/-- The line becomes LINE_OK, as one event (R19, R79, R157). -/
def State.restoreLine (s : State) : State := s.finish s.lineOk

/-- A frame accepted in LINE_LOST: LINE_OK and the frame's own act are two events, which meet in either order (R19, R79, R157,
log 5). -/
def State.hearInLost (s : State) (act : State → State × Fate) : State :=
  let o := s.freeOrder
  if o.1 then o.2.restoreLine.hear act else (o.2.hear act).restoreLine

/-- A frame received on the U-port is accepted (R145, R146, R157): its place is taken, the watchdog restarts, LINE_LOST ends,
the frame is acted on by `act` and disposed of. A port that is DOWN takes no frames; a frame against the handshake, or too
long, is discarded (R143 to R145, logs 9 and 10). -/
def State.accept (s : State) (payload : List Byte) (act : State → State × Fate) : State :=
  if s.line.uUp then
    let t := s.firstByte .uPort
    if t.line.uRx = some .againstHandshake || !payloadFits payload then t.discardFrame .uPort
    else
      let u := { t with line := t.line.heard t.settings }
      if u.line.lost then u.hearInLost act else u.hear act
  else s

/-! ### The line frames (R147 to R149) -/

/-- A DEMAND (R147): placed through the claim table, its counts and hop count raised. -/
def actDemand (f : Frame) (s : State) : State × Fate :=
  if demandLengthFits f.payload then
    let p := s.placeDemand f.tag f.payload
    (p.state, .forward { f with payload := raiseCounts f.payload 7 p.accepted p.withheld } true)
  else (s, .forward f false)

/-- A RELEASE (R147, R15). -/
def actRelease (f : Frame) (s : State) : State × Fate :=
  if f.payload.length = 6 then
    let p := s.releaseClaims f.payload
    (p.1, .forward { f with payload := raiseCounts f.payload 3 p.2 0 } true)
  else (s, .forward f false)

/-- A WEATHER frame of 4 payload bytes (R148, R24); one of another length is not acted on. -/
def actWeather (f : Frame) (s : State) : State × Fate :=
  (if f.payload.length = 4 then s.weatherEvent (State.takeWeather f.payload) else s, .forward f false)

/-- An ENUMERATE (R149, R177). -/
def actEnumerate (f : Frame) (s : State) : State × Fate :=
  if f.payload.length = 1 then
    let next := (byteAt f.payload 0).toNat
    if 1 ≤ next ∧ next ≤ 32 then
      ({ s with line := { s.line with station := next } }, .forward { f with payload := [byteOf (next + 1)] } true)
    else ({ s with line := { s.line with station := 0 } }, .forward f true)
  else (s, .forward f false)

/-- A BEACON, or a frame of unknown or upstream kind: forwarded unchanged (R148). -/
def actForward (f : Frame) (s : State) : State × Fate := (s, .forward f false)

/-- DEMAND. -/
def execDemand (station : Byte) (tag : Word16) (payload : List Byte) (s : State) : Host.Outcome State Fault Refusal :=
  .next (s.accept payload (actDemand ⟨0x01, station, tag, payload⟩))

/-- RELEASE. -/
def execRelease (station : Byte) (tag : Word16) (payload : List Byte) (s : State) : Host.Outcome State Fault Refusal :=
  .next (s.accept payload (actRelease ⟨0x02, station, tag, payload⟩))

/-- WEATHER. -/
def execWeather (station : Byte) (tag : Word16) (payload : List Byte) (s : State) : Host.Outcome State Fault Refusal :=
  .next (s.accept payload (actWeather ⟨0x03, station, tag, payload⟩))

/-- BEACON. -/
def execBeacon (station : Byte) (tag : Word16) (payload : List Byte) (s : State) : Host.Outcome State Fault Refusal :=
  .next (s.accept payload (actForward ⟨0x04, station, tag, payload⟩))

/-- UNKNOWN_KIND_FRAME. -/
def execUnknownKindFrame (f : Frame) (s : State) : Host.Outcome State Fault Refusal :=
  .next (s.accept f.payload (actForward f))

/-- ENUMERATE. -/
def execEnumerate (station : Byte) (tag : Word16) (payload : List Byte) (s : State) : Host.Outcome State Fault Refusal :=
  .next (s.accept payload (actEnumerate ⟨0x05, station, tag, payload⟩))

/-! ### Link changes (R143, R153) -/

/-- The U-port becomes DOWN (R143, R156): a frame in reception is discarded, a frame in transmission is cut and kept. -/
def State.uPortDown (s : State) : State :=
  if s.line.uUp then
    { s with line := { s.line with
        uUp := false, uRx := none, lineError := s.line.lineError || s.line.uRx.isSome,
        uTx := none, uCut := s.line.uTx.or s.line.uCut } }
  else s

/-- The D-port becomes DOWN (R143, R153): the station is the end station, the downstream queue is emptied, and its acted-on
DEMAND, RELEASE and ENUMERATE frames are echoed, oldest first, with the station number held now (log 42). -/
def State.dPortDown (s : State) : State :=
  if s.line.dUp then
    let t := { s with line := { s.line with
      dUp := false, dRx := none, lineError := s.line.lineError || s.line.dRx.isSome,
      dSending := false, downQueue := [] } }
    (s.line.downQueue.filter (·.acted)).foldl (fun t d => t.pushEcho d.frame) t
  else s

/-- PORT_UP (R143). -/
def execPortUp (p : Port) (s : State) : Host.Outcome State Fault Refusal :=
  .next (match p with
    | .uPort => { s with line := { s.line with uUp := true } }
    | .dPort => { s with line := { s.line with dUp := true } })

/-- PORT_DOWN (R143). -/
def execPortDown (p : Port) (s : State) : Host.Outcome State Fault Refusal :=
  .next (match p with
    | .uPort => s.uPortDown
    | .dPort => s.dPortDown)

/-! ### The D-port transmitter (R146) -/

/-- D_PORT_TRANSMIT_START: idle, with the D-port UP and its ready input active, the transmitter starts the oldest frame. -/
def execDPortTransmitStart (ready : Bool) (s : State) : Host.Outcome State Fault Refusal :=
  .next (if s.line.dUp && ready && !s.line.dSending && !s.line.downQueue.isEmpty then
    { s with line := { s.line with dSending := true } }
  else s)

/-- D_PORT_FRAME_SENT: the frame leaves the downstream queue. -/
def execDPortFrameSent (s : State) : Host.Outcome State Fault Refusal :=
  .next (if s.line.dSending then
    { s with line := { s.line with dSending := false, downQueue := s.line.downQueue.tail } }
  else s)

/-! ### The U-port transmitter (R155, R156) -/

/-- A REPORT frame is built (R156, R174): up to five records and the lost flag are taken, and the report frame number
advances. -/
def State.sendReport (s : State) : State :=
  let taken := s.reports.records.take 5
  let f : Frame := { kind := 0x20, station := byteOf s.line.station, tag := BitVec.ofNat 16 s.line.reportNumber,
                     payload := byteOf (bitOf s.reports.lost) :: taken.flatMap reportBytes }
  { s with
    reports := { records := s.reports.records.drop 5, lost := false },
    line := { s.line with uTx := some ⟨.report, f⟩, forwardedRun := 0,
                          reportNumber := (s.line.reportNumber + 1) % 65536 } }

/-- The transmitter's choice (R155): the first case that applies. -/
def State.chooseFrame (s : State) : State :=
  match s.line.uCut, s.line.reply with
  | some t, _ => { s with line := { s.line with uTx := some t, uCut := none } }
  | none, some r => { s with line := { s.line with uTx := some ⟨.reply, r⟩ } }
  | none, none =>
    if 4 ≤ s.line.forwardedRun && !s.reports.records.isEmpty then s.sendReport
    else
      match s.line.upQueue with
      | f :: _ =>
        { s with line := { s.line with uTx := some ⟨.forwarded, f⟩, forwardedRun := min 4 (s.line.forwardedRun + 1) } }
      | [] => if s.reports.records.isEmpty then s else s.sendReport

/-- U_PORT_TRANSMIT_CHOICE: idle, with the U-port UP and its ready input active. -/
def execUPortTransmitChoice (ready : Bool) (s : State) : Host.Outcome State Fault Refusal :=
  .next (if s.line.uUp && ready && s.line.uTx.isNone then s.chooseFrame else s)

/-- The last CRC byte of the frame in the U-port transmitter is sent (R150, R154). -/
def State.frameSent (s : State) : State :=
  match s.line.uTx with
  | none => s
  | some t =>
    match t.source with
    | .reply => { s with line := { s.line with uTx := none, reply := none } }
    | .forwarded => { s with line := { s.line with uTx := none, upQueue := s.line.upQueue.tail } }
    | .report => { s with line := { s.line with uTx := none } }

/-- U_PORT_FRAME_SENT. -/
def execUPortFrameSent (s : State) : Host.Outcome State Fault Refusal := .next s.frameSent

/-! ### The line watchdog (R157) -/

/-- The line becomes LINE_LOST (R157, R17). -/
def State.lineLost (s : State) : State :=
  ({ s with line := { s.line with lost := true } }.claimsLineLost).post (lineReport true)

/-- The watchdog has run out (R157): it restarts, and in LINE_OK the line becomes LINE_LOST. -/
def State.watchdogExpires (s : State) : State :=
  if s.line.watchdog = 0 then
    let t := { s with line := { s.line with watchdog := watchdogMs s.settings } }
    if s.line.lost then t else t.lineLost
  else s

/-- LINE_WATCHDOG_EXPIRY. -/
def execLineWatchdogExpiry (s : State) : Host.Outcome State Fault Refusal := .next (s.finish s.watchdogExpires)

end Sys2Proof.Machine
end

