-- ==== Sys2Proof/Machine/Flags.lean ====
section
/-! DEFINITION. The flags the station shows: the FAULT pin (8.5) and the flags byte of page 0 (Table 9.13). -/

namespace Sys2Proof.Machine

/-- The FAULT pin pulls its line low or releases it (8.5). -/
inductive FaultPin where
  | pulledLow | released
  deriving DecidableEq, Repr

/-- The CHANNEL source (Table 8.3): at least one channel is FAULTED. -/
def channelSource (s : State) : Bool := allChans.any (fun c => (s.chan c).motion.state == .faulted)

/-- The SUPPLY source: the supply state is CUT or OVER. -/
def supplySource (s : State) : Bool := s.supply.state == .cut || s.supply.state == .overVolt

/-- The THERMAL source: the thermal state is SHUT. -/
def thermalSource (s : State) : Bool := s.thermal.state == .shut

/-- The LINE source: the line state is LINE_LOST. -/
def lineSource (s : State) : Bool := s.line.lost

/-- The fault condition (R141): a source that the mask enables holds. -/
def faultCondition (s : State) : Bool :=
  (s.settings.faultChannel && channelSource s) || (s.settings.faultSupply && supplySource s)
    || (s.settings.faultThermal && thermalSource s) || (s.settings.faultLine && lineSource s)

/-- The FAULT pin: released during power-on reset (R142), and otherwise with active level LOW pulled low while active, with active
level HIGH released while active (R141). -/
def faultPin (s : State) : FaultPin :=
  if inPowerOnReset s || faultCondition s == s.settings.faultHigh then .released else .pulledLow

/-- Byte 1 of page 0 (Table 9.13). -/
def statusFlags (s : State) : Byte :=
  byteOf (bitOf s.freshStart + 2 * bitOf s.line.lineError + 4 * bitOf s.line.lost + 8 * bitOf s.supply.latch
    + 16 * bitOf s.reports.lost)

end Sys2Proof.Machine
end

