-- ==== Sys2Proof/Machine/Monitors.lean ====
section
/-! DEFINITION. The supply monitor and the thermal monitor (4.6, 4.7). -/

namespace Sys2Proof.Machine

/-! ### Supply (R86 to R91) -/

/-- A sample of the VS pin in its measuring range, 0..400 (R86). -/
def clampVolt (v : Nat) : Nat := min v 400

/-- The mean of the four most recent samples, rounded down (R86). -/
def meanOf (samples : List Nat) : Nat := samples.sum / 4

/-- The supply state that a measurement gives without hysteresis (R86). -/
def supplyOfVolt (t : Settings) (v : Nat) : SupplyState :=
  if v < t.cutVolt then .cut
  else if t.overVolt ≤ v then .overVolt
  else if v < t.lowVolt then .low
  else .normal

/-- The thresholds of the settings come into force with a measurement (R87, R91). -/
def Supply.withThresholds (m : Supply) (t : Settings) : Supply :=
  { m with cutInForce := t.cutVolt, lowInForce := t.lowVolt, overInForce := t.overVolt }

/-- The supply state after a hold-off expiry (Table 4.4, last row), by the thresholds of the last measurement (R91, log 31). -/
def supplyAfterHoldOff (m : Supply) : SupplyState :=
  if m.overInForce ≤ m.measured then .overVolt else if m.measured < m.lowInForce then .low else .normal

/-- The measured supply is at least cut + 5 (R89, R90), by the thresholds of the last measurement. -/
def Supply.recovered (m : Supply) : Bool := m.cutInForce + 5 ≤ m.measured

/-- Table 4.4 for the states NORMAL, LOW and OVER (R87); CUT is left by the hold-off alone. -/
def supplyOnMeasure (t : Settings) (state : SupplyState) (v : Nat) : SupplyState :=
  match state with
  | .normal =>
    if t.overVolt ≤ v then .overVolt else if v < t.cutVolt then .cut else if v < t.lowVolt then .low else .normal
  | .low =>
    if t.overVolt ≤ v then .overVolt else if v < t.cutVolt then .cut
    else if t.lowVolt + 5 ≤ v then .normal else .low
  | .overVolt =>
    if v < t.cutVolt then .cut
    else if v + 5 < t.overVolt then (if v < t.lowVolt then .low else .normal) else .overVolt
  | .cut => .cut

/-- The SUPPLY report (Table 11.2). -/
def supplyReport (m : Supply) : Report :=
  { kind := .supply, detail := { b5 := supplyByte m.state, b6 := byteOf (m.measured / 256), b7 := byteOf m.measured,
                                 b8 := byteOf (bitOf m.latch) } }

/-- The halt cause of a budget drop that comes with the supply state `state` (R78). -/
def supplyCause (state : SupplyState) : HaltCause :=
  if state = .cut ∨ state = .overVolt then .supply else .shed

/-- The supply state changes to `state` (R87, R88): entry into CUT sets the latch under LATCHED and stops the hold-off timer,
one SUPPLY report is posted and the budget is computed anew. -/
def State.changeSupply (s : State) (state : SupplyState) : State :=
  let latch := if state = .cut then s.settings.latched else s.supply.latch
  let s := { s with supply := { s.supply with state, holdOff := none, latch } }
  (s.post (supplyReport s.supply)).rebudget (supplyCause state)

/-- The hold-off timer starts in CUT; a hold-off of 0 leaves CUT at once (R89, log 22). -/
def State.startHoldOff (s : State) : State :=
  if s.settings.holdOff = 0 then s.changeSupply (supplyAfterHoldOff s.supply)
  else { s with supply := { s.supply with holdOff := some s.settings.holdOff } }

/-- FIRST_SUPPLY_MEASUREMENT (R86): the first measurement is formed from the first four samples and sets the supply state
directly; a SUPPLY report is posted when that state is not NORMAL (log 23). -/
def State.firstSupply (s : State) (v1 v2 v3 v4 : Nat) : State :=
  if s.supply.formed then s
  else
    let samples := [clampVolt v4, clampVolt v3, clampVolt v2, clampVolt v1]
    let measured := meanOf samples
    let state := supplyOfVolt s.settings measured
    let s := { s with supply := { s.supply with samples, measured, formed := true, state }.withThresholds s.settings }
    let s := if state = .normal then s else s.post (supplyReport s.supply)
    s.rebudget (supplyCause state)

def execFirstSupplyMeasurement (v1 v2 v3 v4 : Nat) (s : State) : Host.Outcome State Fault Refusal :=
  .next (s.finish (s.firstSupply v1 v2 v3 v4))

/-- What a measurement does in CUT (R89): at cut + 5 or more it starts the hold-off when the timer is stopped and the latch
is clear, below that it stops the timer. -/
def State.measureInCut (s : State) : State :=
  if s.supply.recovered then
    if s.supply.holdOff.isNone && !s.supply.latch then s.startHoldOff else s
  else { s with supply := { s.supply with holdOff := none } }

/-- SUPPLY_MEASUREMENT (R87, R88, R89): the newest sample joins the four most recent, and the measurement is applied. Before
the first measurement is formed there is none to apply (R86). -/
def State.measureSupply (s : State) (v : Nat) : State :=
  if s.supply.formed then
    let samples := clampVolt v :: s.supply.samples.take 3
    let measured := meanOf samples
    let s := { s with supply := { s.supply with samples, measured }.withThresholds s.settings }
    if s.supply.state = .cut then s.measureInCut
    else
      let state := supplyOnMeasure s.settings s.supply.state measured
      if state = s.supply.state then s else s.changeSupply state
  else s

def execSupplyMeasurement (v : Nat) (s : State) : Host.Outcome State Fault Refusal :=
  .next (s.finish (s.measureSupply v))

/-- HOLD_OFF_EXPIRY (R89): the supply leaves CUT. -/
def State.holdOffExpires (s : State) : State :=
  if timerDue s.supply.holdOff then
    if s.supply.state = .cut then s.changeSupply (supplyAfterHoldOff s.supply)
    else { s with supply := { s.supply with holdOff := none } }
  else s

def execHoldOffExpiry (s : State) : Host.Outcome State Fault Refusal := .next (s.finish s.holdOffExpires)

/-- CLEAR SUPPLY (R90): true for DONE, false for NOT-CLEARED. -/
def State.clearSupply (s : State) : State × Bool :=
  if s.supply.state = .cut ∧ s.supply.latch then
    if s.supply.recovered then
      ({ s with supply := { s.supply with latch := false } }.startHoldOff, true)
    else (s, false)
  else (s, true)

/-! ### Thermal (R92, R93) -/

/-- The thermal state that the first measurement gives (R92). -/
def thermalOf (t : Int) : ThermalState := if 150 ≤ t then .shut else if 130 ≤ t then .warn else .normal

/-- The transitions of the later measurements (R92). -/
def thermalOnMeasure (state : ThermalState) (t : Int) : ThermalState :=
  match state with
  | .normal => thermalOf t
  | .warn => if 150 ≤ t then .shut else if t < 120 then .normal else .warn
  | .shut => if t < 120 then .normal else if t < 140 then .warn else .shut

/-- The THERMAL report (Table 11.2). -/
def thermalReport (m : Thermal) : Report :=
  let b := temperatureBytes m.temperature
  { kind := .thermal, detail := { b5 := thermalByte m.state, b6 := byteAt b 0, b7 := byteAt b 1 } }

/-- The halt cause of a budget drop that comes with the thermal state `state` (R78). -/
def thermalCause (state : ThermalState) : HaltCause := if state = .shut then .thermal else .shed

/-- A temperature in the monitor's range, −55..200 (R92). -/
def clampCelsius (t : Int) : Int := max (-55) (min t 200)

/-- THERMAL_MEASUREMENT (R92): the first one sets the state directly; each change of state posts one THERMAL report and has
the budget computed anew. -/
def State.measureThermal (s : State) (celsius : Int) : State :=
  let t := clampCelsius celsius
  let old := s.thermal.state
  let state := if s.thermal.formed then thermalOnMeasure old t else thermalOf t
  let s := { s with thermal := { state, temperature := t, formed := true } }
  if state = old then s else (s.post (thermalReport s.thermal)).rebudget (thermalCause state)

def execThermalMeasurement (celsius : Int) (s : State) : Host.Outcome State Fault Refusal :=
  .next (s.finish (s.measureThermal celsius))

end Sys2Proof.Machine
end

