-- ==== Sys2Proof/Machine/Management.lean ====
section
/-! DEFINITION. The management unit (Chapter 10): the addressed requests, their tests, effects and replies. -/

namespace Sys2Proof.Machine

/-- The reply results (Table 10.1). -/
inductive ReplyResult where
  | done | busy | range | duplicate | noSuch | notCleared | format
  deriving DecidableEq, Repr

def resultByte : ReplyResult → Byte
  | .done => 0 | .busy => 1 | .range => 2 | .duplicate => 3 | .noSuch => 4 | .notCleared => 5 | .format => 6

/-- A performed request: the state, the result and the data of the REPLY. -/
structure Performed where
  state  : State
  result : ReplyResult
  data   : List Byte := []

/-- A request that fails a test changes nothing on the station (R158). -/
def refuse (s : State) (r : ReplyResult) : Performed := { state := s, result := r }

/-- The REPLY to a request (R158, Table 9.7). -/
def replyFrame (station : Nat) (tag : Word16) (p : Performed) : Frame :=
  { kind := 0x21, station := byteOf station, tag, payload := resultByte p.result :: p.data }

/-- An addressed frame (R150): forwarded when it names another station, dropped while the reply slot is occupied, and
otherwise consumed, performed and answered. -/
def actAddressed (f : Frame) (perform : State → Performed) (s : State) : State × Fate :=
  if s.line.station = 0 ∨ f.station.toNat ≠ s.line.station then (s, .forward f false)
  else if s.line.reply.isSome then (s, .gone)
  else
    let p := perform s
    ({ p.state with line := { p.state.line with reply := some (replyFrame p.state.line.station f.tag p) } }, .gone)

/-! ### GROUP (R160) -/

/-- The group number `g` is valid at an index other than `i` (R160). -/
def groupElsewhere (groups : List GroupEntry) (i g : Nat) : Bool :=
  (List.range groups.length).any (fun j => j != i && (groups.getD j {}).number == g)

def performGroupWrite (payload : List Byte) (s : State) : Performed :=
  match payload with
  | [] => refuse s .format
  | sel :: record =>
    if record.length ≠ 4 then refuse s .format
    else
      let i := sel.toNat % 64
      let e := groupOf record
      if e.number = 0 then { state := { s with groups := s.groups.set i {} }, result := .done }
      else if 1023 < e.number || membersEmpty e.members then refuse s .range
      else if groupElsewhere s.groups i e.number then refuse s .duplicate
      else { state := { s with groups := s.groups.set i e }, result := .done }

/-! ### PROFILE (R161, R162, R48, R22) -/

/-- The states in which a profile write is refused with BUSY (R48, R161). -/
def isBusy (m : MotionState) : Bool := m == .waiting || m == .moving || m == .braking || m == .dwell || m == .backoff

/-- A STAY position re-clamped to a new travel (R22). -/
def Claim.reclamp (T : Nat) (k : Claim) : Claim :=
  match k.demand with
  | .stay (some p) => { k with demand := .stay (some (min p T)) }
  | _ => k

/-- The motion state after a profile write (R48). -/
def stateAfterWrite (enable : Bool) (m : MotionState) : MotionState :=
  if enable then (if m = .disabled then .idle else m) else .disabled

/-- What a profile write does to its channel (R48, R22, R96, R97). -/
def Channel.writeProfile (c : Channel) (p : Profile) : Channel :=
  { c with
    profile := p,
    slots := if p.travel = c.profile.travel then c.slots else c.slots.map (Claim.reclamp p.travel),
    motion := { c.motion with
      state := stateAfterWrite p.enable c.motion.state,
      fault := if p.enable then c.motion.fault else none,
      restTimer := if p.enable then c.motion.restTimer else none,
      referenced := false, eOpen := p.initOpen, eClose := p.initClose, timedEst := 0, retry := 0, hand := {} },
    travel := { c.travel with
      drift := 0, position := max (-512) (min c.travel.position ((p.travel : Int) + 512)) } }

def performProfileWrite (payload : List Byte) (s : State) : Performed :=
  match payload with
  | [] => refuse s .format
  | sel :: record =>
    if record.length ≠ 47 then refuse s .format
    else
      match chanOfIndex (sel.toNat % 64) with
      | none => refuse s .noSuch
      | some ch =>
        if isBusy (s.chan ch).motion.state then refuse s .busy
        else if profileInRange (profileOf record) then
          { state := (s.modChan ch (fun c => c.writeProfile (profileOf record))).retarget ch, result := .done }
        else refuse s .range

/-! ### INPUT (R163) -/

def performInputWrite (payload : List Byte) (s : State) : Performed :=
  match payload with
  | [] => refuse s .format
  | sel :: record =>
    if record.length ≠ 8 then refuse s .format
    else
      match inputOfIndex (sel.toNat % 64) with
      | none => refuse s .noSuch
      | some n =>
        match inputOf record (s.input n) with
        | none => refuse s .range
        | some e => if inputInRange e then { state := s.writeInput n e, result := .done } else refuse s .range

/-! ### SETTINGS (R164, R165) -/

/-- An accepted settings write replaces the whole record; a changed budget is acted on at once, and a change to AUTO clears
the CUT latch (R77, R90, R165). -/
def State.writeSettings (s : State) (t : Settings) : State :=
  let old := s.settings
  let s := { s with settings := t,
                    supply := { s.supply with latch := s.supply.latch && !(old.latched && !t.latched) } }
  if t.normalBudget = old.normalBudget ∧ t.lowBudget = old.lowBudget then s else s.rebudget .shed

def performSettingsWrite (payload : List Byte) (s : State) : Performed :=
  match payload with
  | [] => refuse s .format
  | sel :: record =>
    if record.length ≠ 32 then refuse s .format
    else if sel.toNat % 64 ≠ 0 then refuse s .noSuch
    else
      match settingsOf record with
      | none => refuse s .range
      | some t => if settingsInRange t then { state := s.writeSettings t, result := .done } else refuse s .range

/-! ### TABLE READ (R159, R166) -/

/-- The record a table select names, if any (R159). -/
def recordOf (s : State) (sel : Byte) : Option (List Byte) :=
  let i := sel.toNat % 64
  match sel.toNat / 64 with
  | 0 => some (groupBytes (s.groups.getD i {}))
  | 1 => (chanOfIndex i).map (fun ch => profileBytes (s.chan ch).profile)
  | 2 => (inputOfIndex i).map (fun n => inputBytes (s.input n))
  | _ => if i = 0 then some (settingsBytes s.settings) else none

def performTableRead (payload : List Byte) (s : State) : Performed :=
  match payload with
  | [sel] =>
    match recordOf s sel with
    | none => refuse s .noSuch
    | some r => { state := s, result := .done, data := r }
  | _ => refuse s .format

/-! ### STATUS READ (R167, R168) -/

/-- Page 0, the station page (R167, Table 9.13). -/
def stationPage (s : State) : List Byte :=
  [byteOf s.line.station, statusFlags s, supplyByte s.supply.state] ++ be16 s.supply.measured
    ++ [thermalByte s.thermal.state] ++ temperatureBytes s.thermal.temperature
    ++ [windByte s.weather.wind, byteOf (bitOf s.weather.rainWet), sectorByte s.weather.settled]
    ++ be16 s.weather.windSpeed

/-- The target of a channel page in per mille (R45). -/
def targetBytes (c : Channel) : List Byte :=
  match c.selected.target with
  | .none => [0xFF, 0xFF]
  | .pulses p => be16 (toPermille p c.profile.travel)
  | .level d => be16 d

def rankBit (c : Channel) (k : ClaimClass) : Nat := if (c.slots.get k).isSome then 2 ^ (classRank k - 1) else 0

/-- The occupied claim ranks, bit (r − 1) for rank r. -/
def occupiedByte (c : Channel) : Byte := byteOf ((allClasses.map (rankBit c)).sum)

/-- The tag of a slot, 0 for an empty one. -/
def tagBytes (c : Channel) (k : ClaimClass) : List Byte :=
  match c.slots.get k with
  | none => [0, 0]
  | some claim => be16 claim.tag

/-- A channel page (R168, Table 9.13). -/
def channelPage (s : State) (ch : Chan) : List Byte :=
  let c := s.chan ch
  [motionByte c.motion.state,
   byteOf (bitOf c.motion.referenced),
   match c.motion.fault with | none => 0 | some f => faultByte f]
    ++ (match c.reported with | none => [0xFF, 0xFF] | some p => be16 p)
    ++ targetBytes c
    ++ [byteOf (c.selected.winRank.getD 0), byteOf (c.selected.queueRank.getD 0), byteOf (s.lastSampled ch)]
    ++ be16 c.travel.period ++ [byteOf c.motion.eOpen, byteOf c.motion.eClose, occupiedByte c]
    ++ allClasses.flatMap (tagBytes c)

def performStatusRead (payload : List Byte) (s : State) : Performed :=
  match payload with
  | [page] =>
    let clear (s : State) : State := { s with line := { s.line with lineError := false } }
    match page.toNat with
    | 0 => { state := { clear s with freshStart := false }, result := .done, data := stationPage s }
    | n + 1 =>
      match chanOfIndex n with
      | none => refuse s .noSuch
      | some ch => { state := clear s, result := .done, data := channelPage s ch }
  | _ => refuse s .format

/-! ### CLEAR FAULT (R72, R90, R169) -/

/-- The cause of a channel's fault has gone (R72). DESIGN CHOICE: for SHORT, the RUN limit is that of the profile in force, also
when a PROFILE write has replaced it since the fault, although R110 and R162 apply new limits from the next drive start (log 48). -/
def causeGone (s : State) (ch : Chan) : Bool :=
  let c := s.chan ch
  if c.motion.fault = some .short then s.lastSampled ch < c.profile.runLimit else c.motion.restTimer.isNone

/-- The channel record after an accepted clear (R72): IDLE, still referenced after OBSTRUCTED alone. -/
def Channel.clearFault (c : Channel) : Channel :=
  let keeps := c.motion.fault == some .obstructed
  { c with motion := { c.motion with
      state := .idle, fault := none, retry := 0, restTimer := none,
      referenced := c.motion.referenced && keeps, timedEst := if keeps then c.motion.timedEst else 0 } }

/-- A CLEAR FAULT naming a channel (R72): CLEARED is posted with the code that was cleared, and the channel is evaluated. DESIGN
CHOICE: that re-target, and an admission it brings, belong to the clear's own event, so a channel whose claims ask for movement
is no longer IDLE for a PROFILE write taken after it (R51, R161, log 46). -/
def State.clearChannel (s : State) (ch : Chan) : Performed :=
  let c := s.chan ch
  if c.motion.state ≠ .faulted then { state := s, result := .done }
  else if causeGone s ch then
    let s := s.modChan ch Channel.clearFault
    let code := match c.motion.fault with | none => 0 | some f => faultByte f
    { state := (s.postChan ch .cleared (s.chan ch).reported code).retarget ch, result := .done }
  else refuse s .notCleared

def performClearSupply (s : State) : Performed :=
  let r := s.clearSupply
  { state := r.1, result := if r.2 then .done else .notCleared }

def performClearFault (payload : List Byte) (s : State) : Performed :=
  match payload with
  | [code] =>
    if code = 0x80 then performClearSupply s
    else
      match chanOfIndex code.toNat with
      | none => refuse s .noSuch
      | some ch => s.clearChannel ch
  | _ => refuse s .format

/-! ### STATION RESET (R170, R20, R74) -/

/-- The motion engine's response to STATION RESET (R74). -/
def State.resetMotion (s : State) (ch : Chan) : State :=
  let m := (s.chan ch).motion
  let s := match m.state with
    | .moving | .backoff => s.brake ch .stop none false
    | .braking =>
      if m.reason = some BrakingReason.obstruct then
        (s.modChan ch (fun c =>
          { c with motion := { c.motion with reason := some .stop, haltCause := none } })).releaseShare ch
      else s
    | .waiting =>
      ((s.modChan ch (fun c => { c with motion := { c.motion with state := .idle } })).leaveQueue ch).settleAtRest ch
    | .dwell =>
      (s.modChan ch (fun c =>
        { c with motion := { c.motion with state := .idle, dwellTimer := none } })).settleAtRest ch
    | _ => s
  s.modChan ch (fun c => { c with motion := { c.motion with retry := 0, afterBackoff := false } })

/-- STATION RESET reaches channel `ch`, whose slots it `changed`: the motion engine's response and the re-target of R20 fall in
either order (R74, log 6). A channel found driven is left in BRAKING, and is marked as stopped by the reset, whose end posts
ARRIVED (R170, R175). DESIGN CHOICE: a braking that the re-target of the same reset begins is the reset's too (log 41). -/
def State.resetChannel (s : State) (ch : Chan) (changed : Bool) : State :=
  let o := s.freeOrder
  let driven := isDriven (s.chan ch).motion.state
  let retargeted (s : State) : State := if changed then s.retarget ch else s
  let u := if o.1 then retargeted (o.2.resetMotion ch) else (retargeted o.2).resetMotion ch
  u.modChan ch (fun c => { c with motion := { c.motion with byReset := c.motion.byReset || driven } })

/-- STATION RESET (R170, Table 10.4): the report queue is emptied, the claim slots but rank 1 are emptied, and each channel's
motion engine stops and takes its re-target (R20, R74). It is one event for the admission unit (R79, log 4). -/
def State.stationReset (s : State) : State :=
  let changed := resetChanged s
  let t := { s with chans := s.chans.map Channel.resetClaims, reports := { s.reports with records := [] } }
  allChans.foldl (fun u ch => u.resetChannel ch (changed.contains ch)) t

def performStationReset (payload : List Byte) (s : State) : Performed :=
  match payload with
  | [] => { state := s.stationReset, result := .done }
  | _ => refuse s .format

/-! ### The commands -/

/-- An addressed frame of kind `kind` is accepted. -/
def State.request (s : State) (kind station : Byte) (tag : Word16) (payload : List Byte)
    (perform : State → Performed) : State :=
  s.accept payload (actAddressed ⟨kind, station, tag, payload⟩ perform)

/-- GROUP_WRITE (R160). -/
def execGroupWrite (station : Byte) (tag : Word16) (payload : List Byte) (s : State) : Host.Outcome State Fault Refusal :=
  .next (s.request 0x10 station tag payload (performGroupWrite payload))

/-- PROFILE_WRITE (R161). -/
def execProfileWrite (station : Byte) (tag : Word16) (payload : List Byte) (s : State) :
    Host.Outcome State Fault Refusal :=
  .next (s.request 0x10 station tag payload (performProfileWrite payload))

/-- INPUT_WRITE (R163). -/
def execInputWrite (station : Byte) (tag : Word16) (payload : List Byte) (s : State) : Host.Outcome State Fault Refusal :=
  .next (s.request 0x10 station tag payload (performInputWrite payload))

/-- SETTINGS_WRITE (R164). -/
def execSettingsWrite (station : Byte) (tag : Word16) (payload : List Byte) (s : State) :
    Host.Outcome State Fault Refusal :=
  .next (s.request 0x10 station tag payload (performSettingsWrite payload))

/-- TABLE_READ (R166). -/
def execTableRead (station : Byte) (tag : Word16) (payload : List Byte) (s : State) : Host.Outcome State Fault Refusal :=
  .next (s.request 0x11 station tag payload (performTableRead payload))

/-- STATUS_READ (R167). -/
def execStatusRead (station : Byte) (tag : Word16) (payload : List Byte) (s : State) : Host.Outcome State Fault Refusal :=
  .next (s.request 0x12 station tag payload (performStatusRead payload))

/-- CLEAR_FAULT (R72, R169). -/
def execClearFault (station : Byte) (tag : Word16) (payload : List Byte) (s : State) : Host.Outcome State Fault Refusal :=
  .next (s.request 0x13 station tag payload (performClearFault payload))

/-- CLEAR_SUPPLY (R90): the CLEAR FAULT whose one payload byte is 80h. -/
def execClearSupply (station : Byte) (tag : Word16) (s : State) : Host.Outcome State Fault Refusal :=
  .next (s.request 0x13 station tag [0x80] performClearSupply)

/-- STATION_RESET (R170). -/
def execStationReset (station : Byte) (tag : Word16) (payload : List Byte) (s : State) :
    Host.Outcome State Fault Refusal :=
  .next (s.request 0x14 station tag payload (performStationReset payload))

/-- POWER_ON_RESET (R171): every block takes its after-reset state. The queue of commands and the counter of free values are
the model's and stay. -/
def execPowerOnReset (s : State) : Host.Outcome State Fault Refusal :=
  .next { State.reset with pending := s.pending, freeCount := s.freeCount }

end Sys2Proof.Machine
end

