-- ==== Sys2Proof/Machine/Sensing.lean ====
section
/-! DEFINITION. Travel sensing and current supervision (Chapter 5). -/

namespace Sys2Proof.Machine

/-! ### Counting a pulse (R95 to R99) -/

/-- The longest pulse period, 6553.5 ms in steps of 0.1 ms (R98). -/
def longestPeriod : Nat := 65535

/-- The pulse period is captured at every pulse; the first pulse leaves it and starts the measurement (R98). -/
def Travel.capture (t : Travel) (now : Nat) : Travel :=
  { t with
    lastPulse := some now,
    period := match t.lastPulse with | none => t.period | some p => min longestPeriod (now - p) }

/-- The position counter after a pulse: it moves by one in the direction driven or last driven, and holds at −512 and T + 512;
it is not moved in DISABLED or without a direction (R95, R96). -/
def counterAfter (c : Channel) : Int :=
  if c.motion.state = .disabled then c.travel.position
  else
    match c.motion.dir with
    | none => c.travel.position
    | some .opening => min (c.travel.position + 1) ((c.profile.travel : Int) + 512)
    | some .closing => max (c.travel.position - 1) (-512)

/-- The states at rest in which a pulse is drift (R95). -/
def atRest (m : MotionState) : Bool := m == .idle || m == .waiting || m == .dwell

/-- A pulse at rest on a referenced channel (R97). -/
def isDrift (c : Channel) : Bool := c.motion.referenced && atRest c.motion.state

/-- The pulse is handed on as a TRAVEL event: it brings a referenced counter to a bound, or a reference run past T + 512
pulses; not in FAULTED or DISABLED (R96, R97). DESIGN CHOICE: a pulse that finds the counter held at the bound brings it there
again (log 35). -/
def isTravelEvent (c : Channel) : Bool :=
  let q := counterAfter c
  c.motion.state != .disabled && c.motion.state != .faulted
    && ((c.motion.referenced && c.motion.dir.isSome && (q == -512 || q == (c.profile.travel : Int) + 512))
      || (c.motion.state == .moving && c.motion.moveKind == some .reference
        && c.profile.travel + 512 < c.travel.runCount + 1))

/-- What a pulse does to the channel's counters and timers in the state it is seen in (R95, R97, R98, R99, R60, R67, R70).
DESIGN CHOICE: the run count holds at T + 513, the top of its range in Table 5.1 (log 36), and a rest timer that a pulse restarts
takes the brake-settle time of the profile in force, also when a PROFILE write has replaced it since the fault (R162, log 47). -/
def Channel.countPulse (c : Channel) (now : Nat) : Channel :=
  let m := c.motion.state
  let t := c.travel.capture now
  { c with
    travel := { t with
      position := counterAfter c,
      runCount := if m = .moving then min (c.travel.runCount + 1) (c.profile.travel + 513) else c.travel.runCount,
      drift := if isDrift c then min (c.travel.drift + 1) 255 else c.travel.drift,
      stall := if isDriven m then some (stallTime c.profile) else c.travel.stall },
    motion := { c.motion with
      backoffCount := if m = .backoff then c.motion.backoffCount + 1 else c.motion.backoffCount,
      coast := if m = .braking then c.motion.coast + 1 else c.motion.coast,
      settleTimer := if m = .braking then some (settleTime c.profile) else c.motion.settleTimer,
      restTimer := if m = .faulted then some (settleTime c.profile) else c.motion.restTimer } }

/-- The pulse takes the drift count of a referenced channel at rest past its drift limit (R73, first case). -/
def losesReference (c : Channel) : Bool := isDrift c && c.profile.driftLimit < c.travel.drift + 1

/-- The reference is lost (R73): DRIFT is posted, and a WAITING channel leaves the start queue for IDLE. -/
def State.dropReference (s : State) (ch : Chan) : State :=
  let wasWaiting := (s.chan ch).motion.state == .waiting
  let s := s.modChan ch (fun c =>
    { c with motion := { c.motion with referenced := false, timedEst := 0,
                                       state := if wasWaiting then .idle else c.motion.state },
             travel := { c.travel with drift := 0 } })
  let s := s.postChan ch .drift none (byteOf (s.chan ch).profile.driftLimit)
  if wasWaiting then s.leaveQueue ch else s

/-- A drift pulse within the drift limit reaches the motion engine (R73). -/
def State.driftPulse (s : State) (ch : Chan) : State :=
  let c := s.chan ch
  match c.motion.state, moveNeeded c with
  | .idle, some _ => s.settleAtRest ch
  | .waiting, none =>
    (s.modChan ch (fun c => { c with motion := { c.motion with state := .idle } })).leaveQueue ch
  | _, _ => s

/-- An ordinary pulse reaches the motion engine with the new position (R54 to R56, R67, R73). -/
def State.actOnPulse (s : State) (ch : Chan) : State :=
  let c := s.chan ch
  match c.motion.state with
  | .moving =>
    match c.motion.moveKind, c.motion.dir, c.motion.stop with
    | some .positioned, some dir, some stop =>
      if c.motion.minimum || !stopAhead c dir stop then s.brake ch .arrive none false
      else if inApproach c dir stop then s.modChan ch (fun c => c.setPhase .approach)
      else s
    | _, _, _ => s
  | .backoff => if c.profile.backoffDist ≤ c.motion.backoffCount then s.brake ch .stop none true else s
  | .idle | .waiting | .dwell => if c.motion.referenced then s.driftPulse ch else s
  | _ => s

/-- A pulse on channel `ch` (R95): it is counted, and handed to the motion engine as a TRAVEL event, as the loss of the
reference, or as an ordinary pulse. -/
def State.takePulse (s : State) (ch : Chan) : State :=
  let c := s.chan ch
  let counted := s.modChan ch (fun c => c.countPulse s.clock.tenths)
  if isTravelEvent c then counted.faultChannel ch .travel
  else if losesReference c then counted.dropReference ch
  else counted.actOnPulse ch

/-- A pulse with its admission evaluation. The evaluation of the channel by the selector that the loss of the reference brings
(R34, R73) is an event of its own, after the leave of the start queue, with an admission evaluation of its own (R79, log 4). -/
def State.pulse (s : State) (ch : Chan) : State :=
  let c := s.chan ch
  let t := s.finish (s.takePulse ch)
  if losesReference c && !isTravelEvent c then t.finish (t.retarget ch) else t

/-- PULSE (R95): a high level of less than 20 µs makes no pulse. -/
def execPulse (ch : Chan) (highMicros : Nat) (s : State) : Host.Outcome State Fault Refusal :=
  .next (if highMicros < 20 then s else s.pulse ch)

/-- 6553.5 ms have passed since the last pulse (R98). -/
def periodOver (s : State) (c : Channel) : Bool :=
  c.travel.lastPulse.any (fun p => p + longestPeriod ≤ s.clock.tenths)

/-- PULSE_PERIOD_TIMEOUT (R98). -/
def execPulsePeriodTimeout (ch : Chan) (s : State) : Host.Outcome State Fault Refusal :=
  .next (if periodOver s (s.chan ch) then
    s.modChan ch (fun c => { c with travel := { c.travel with period := longestPeriod } })
  else s)

/-! ### Stall (R100, Table 5.2) -/

/-- A stall, or a filtered exceedance, while the channel is driven: end detection in the end zone ahead or in a reference
run, `elsewhere` in a positioned move outside it, the end of a timed move, the end of a backoff (Tables 5.2 and 5.5). -/
def State.resistance (s : State) (ch : Chan) (elsewhere : State → State) : State :=
  let c := s.chan ch
  match c.motion.state with
  | .moving =>
    match c.motion.moveKind, c.motion.dir with
    | some .timed, _ => s.brake ch .arrive none false
    | some .positioned, some dir => if inEndZone c dir then s.brake ch .endReached none false else elsewhere s
    | _, _ => s.brake ch .endReached none false
  | .backoff => s.brake ch .stop none true
  | _ => s

/-- STALL_TIMER_EXPIRY (R100). -/
def State.stallExpires (s : State) (ch : Chan) : State :=
  if timerDue (s.chan ch).travel.stall then
    let s := s.modChan ch (fun c => { c with travel := { c.travel with stall := none } })
    s.resistance ch (fun s => s.faultChannel ch .stalled)
  else s

def execStallTimerExpiry (ch : Chan) (s : State) : Host.Outcome State Fault Refusal :=
  .next (s.finish (s.stallExpires ch))

/-! ### Current (R102 to R108) -/

/-- The active limit at a sample (Table 5.4); none while not driven. -/
def activeLimit (c : Channel) : Option Nat :=
  match c.motion.state with
  | .backoff => some c.profile.startLimit
  | .moving =>
    let byPhase := if c.current.startPhase then c.profile.startLimit else c.profile.runLimit
    match c.motion.moveKind, c.motion.dir with
    | some .positioned, some dir => some (if inEndZone c dir then c.profile.endLimit else byPhase)
    | some .timed, _ => some byPhase
    | _, _ => some c.profile.endLimit
  | _ => none

/-- A filter timer at a sample: above the limit it starts with `ms` when stopped and runs on when running; otherwise it
stops (R106, R108). -/
def filterStep (timer : Option Nat) (ms limit v : Nat) : Option Nat :=
  if limit < v then (match timer with | none => some ms | some r => some r) else none

/-- A current sample of a channel (R102, R103, R105, R106, R108). -/
def Channel.sampleCurrent (c : Channel) (v : Nat) : Channel :=
  match activeLimit c with
  | none => { c with current := { c.current with sample := v } }
  | some limit =>
    { c with current := { c.current with
        sample := v,
        filter := if c.current.blanking.isSome then none else filterStep c.current.filter c.profile.filter limit v,
        short := filterStep c.current.short 1 c.profile.shortLimit v } }

/-- CURRENT_SAMPLE (R102): the sample is 0..255 in units of 0.1 A, and is what `State.lastSampled` reads once the first PWM period
after power-on reset has run. -/
def execCurrentSample (ch : Chan) (value : Nat) (s : State) : Host.Outcome State Fault Refusal :=
  .next (s.modChan ch (fun c => c.sampleCurrent (min value 255)))

/-- BLANKING_TIMER_EXPIRY (R105): samples are compared with the active limit from then on. -/
def execBlankingTimerExpiry (ch : Chan) (s : State) : Host.Outcome State Fault Refusal :=
  .next (if timerDue (s.chan ch).current.blanking then
    s.modChan ch (fun c => { c with current := { c.current with blanking := none } })
  else s)

/-- A filtered exceedance outside the end zone ahead of a positioned move is an obstruction (R65); of a timed move it sets the
timed-limit mark (R107). -/
def State.filterExpires (s : State) (ch : Chan) : State :=
  if timerDue (s.chan ch).current.filter then
    let s := s.modChan ch (fun c =>
      { c with
        current := { c.current with filter := none },
        motion := { c.motion with timedLimit :=
          c.motion.timedLimit || (c.motion.state == .moving && c.motion.moveKind == some .timed) } })
    s.resistance ch (fun s => s.brake ch .obstruct none false)
  else s

/-- FILTER_TIMER_EXPIRY (R107). -/
def execFilterTimerExpiry (ch : Chan) (s : State) : Host.Outcome State Fault Refusal :=
  .next (s.finish (s.filterExpires ch))

/-- SHORT_FILTER_EXPIRY (R108): the channel faults with SHORT at once. -/
def State.shortExpires (s : State) (ch : Chan) : State :=
  if timerDue (s.chan ch).current.short then
    let s := s.modChan ch (fun c => { c with current := { c.current with short := none } })
    if isDriven (s.chan ch).motion.state then s.faultChannel ch .short else s
  else s

def execShortFilterExpiry (ch : Chan) (s : State) : Host.Outcome State Fault Refusal :=
  .next (s.finish (s.shortExpires ch))

end Sys2Proof.Machine
end

