-- ==== Sys2Proof/Machine/TimeBase.lean ====
section
/-! DEFINITION. The time base and the PWM period (0.5, 6.1), and the motion engine's and drive generator's timed commands. -/

namespace Sys2Proof.Machine

/-! ### One ms of the time base (0.5, log 1) -/

/-- An expiry, a dwell and the timers of one channel after 1 ms. -/
def Channel.tick (c : Channel) : Channel :=
  { c with
    slots := c.slots.map (fun k => { k with expiry := timerTick k.expiry }),
    airing := c.airing.map (fun a => { a with dwell := a.dwell - 1 }),
    motion := { c.motion with
      moveTimer := c.motion.moveTimer.map (· + 1), settleTimer := timerTick c.motion.settleTimer,
      dwellTimer := timerTick c.motion.dwellTimer, restTimer := timerTick c.motion.restTimer },
    travel := { c.travel with stall := timerTick c.travel.stall },
    current := { c.current with blanking := timerTick c.current.blanking, filter := timerTick c.current.filter,
                                short := timerTick c.current.short },
    drive := { c.drive with ramp := timerTick c.drive.ramp } }

/-- The weather unit's timers after 1 ms; the age stands at the stale time until its expiry is taken. -/
def Weather.tick (w : Weather) : Weather :=
  { w with
    age := w.age.map (fun a => min (a + 1) w.staleAt), releaseTimer := timerTick w.releaseTimer,
    settleTimer := timerTick w.settleTimer, rainTimer := timerTick w.rainTimer }

/-- One step of the station time base: every running timer moves by 1 ms. -/
def State.tickMs (s : State) : State :=
  { s with
    chans := s.chans.map Channel.tick,
    inputs := s.inputs.map (fun e => { e with timer := timerTick e.timer }),
    weather := s.weather.tick,
    supply := { s.supply with holdOff := timerTick s.supply.holdOff },
    admission := { s.admission with stagger := timerTick s.admission.stagger },
    line := { s.line with watchdog := s.line.watchdog - 1 },
    clock := { s.clock with now := s.clock.now + 1 } }

/-- `units` of 12.5 ns pass, less than 1 ms. -/
def State.passTime (s : State) (units : Nat) : State :=
  let sub := s.clock.sub + units
  if sub < msUnits then { s with clock := { s.clock with sub } }
  else
    let t := s.tickMs
    { t with clock := { t.clock with sub := sub - msUnits } }

/-! ### Counts and periods (R111, R112, R116) -/

/-- One count boundary passes on every channel's legs. -/
def State.boundary (s : State) : State :=
  { s with chans := s.chans.map (fun c => { c with drive := { c.drive with legs := legsAtBoundary c.drive.legs } }) }

/-- One count passes inside the period (log 1). -/
def State.passCount (s : State) : State :=
  let t := (s.passTime (countUnits s.clock.freq)).boundary
  { t with clock := { t.clock with count := t.clock.count + 1 } }

/-- The next period starts: the count is 0, k advances, the settings' base frequency is in force, and each driven channel's
on-count is fixed from its drive level (R111, R112, R113, R116, R121). The first PWM period after power-on reset has run by then
(R102). -/
def State.startPeriod (s : State) : State :=
  let k := (s.clock.k + 1) % 256
  { s with
    clock := { s.clock with count := 0, k, freq := s.settings.freq, firstRun := true },
    chans := s.chans.map (fun c => { c with drive := { c.drive with legs := legsAtPeriod c.drive.level k c.drive.legs } }) }

/-- The rest of the running period passes: its time, and its count boundaries, of which no leg stage needs more than two. -/
def State.restOfPeriod (s : State) : State :=
  let left := periodCounts - s.clock.count
  let t := (s.passTime (left * countUnits s.clock.freq)).boundary
  if 2 ≤ left then t.boundary else t

/-- PWM_PERIOD (R112): the running period ends after count 199, and the next begins. DESIGN CHOICE: the period begins, and fixes
its on-counts, before an expiry that falls due at the same moment acts; a level that a RAMP_STEP gives there counts from the
period after (R121, log 37). -/
def execPwmPeriod (s : State) : Host.Outcome State Fault Refusal := .next s.restOfPeriod.startPeriod

/-! ### The timed commands of the motion engine and the drive generator -/

/-- RAMP_STEP (R118). -/
def execRampStep (ch : Chan) (s : State) : Host.Outcome State Fault Refusal :=
  .next (if timerDue (s.chan ch).drive.ramp then s.modChan ch Channel.rampStep else s)

/-- A timed move has run its duration (R59). -/
def durationReached (c : Channel) : Bool :=
  c.motion.state == .moving && c.motion.moveKind == some .timed && c.motion.moveTimer.any (fun e => c.motion.duration ≤ e)

/-- TIMED_DURATION_REACHED (R59). -/
def State.timedArrives (s : State) (ch : Chan) : State :=
  if durationReached (s.chan ch) then s.brake ch .arrive none false else s

def execTimedDurationReached (ch : Chan) (s : State) : Host.Outcome State Fault Refusal :=
  .next (s.finish (s.timedArrives ch))

/-- BRAKE_SETTLE_EXPIRY (R60): BRAKING ends by its reason. -/
def State.settleExpired (s : State) (ch : Chan) : State :=
  if timerDue (s.chan ch).motion.settleTimer then
    let s := s.modChan ch (fun c => { c with motion := { c.motion with settleTimer := none } })
    if (s.chan ch).motion.state = .braking then s.endBraking ch else s
  else s

def execBrakeSettleExpiry (ch : Chan) (s : State) : Host.Outcome State Fault Refusal :=
  .next (s.finish (s.settleExpired ch))

/-- REVERSE_DWELL_EXPIRY (R68): the channel becomes WAITING or IDLE by its target in hand. -/
def State.dwellExpired (s : State) (ch : Chan) : State :=
  if timerDue (s.chan ch).motion.dwellTimer then
    let s := s.modChan ch (fun c => { c with motion := { c.motion with dwellTimer := none } })
    if (s.chan ch).motion.state = .dwell then s.settleAtRest ch else s
  else s

def execReverseDwellExpiry (ch : Chan) (s : State) : Host.Outcome State Fault Refusal :=
  .next (s.finish (s.dwellExpired ch))

/-- REST_TIMER_EXPIRY (R71): the channel is at rest. -/
def execRestTimerExpiry (ch : Chan) (s : State) : Host.Outcome State Fault Refusal :=
  .next (if timerDue (s.chan ch).motion.restTimer then
    s.modChan ch (fun c => { c with motion := { c.motion with restTimer := none } })
  else s)

/-! ### The timers that have run out (log 1) -/

/-- `c` when `due` holds. -/
def dueCommand (due : Bool) (c : Instr) : List Instr := if due then [c] else []

/-- The expiry commands of one channel whose timers have run out, in a fixed order (log 1). -/
def chanDue (s : State) (ch : Chan) : List Instr :=
  let c := s.chan ch
  allClasses.flatMap (fun k =>
      dueCommand (k != .smoke && (c.slots.get k).any (fun x => timerDue x.expiry)) (.claimExpiry ch k))
    ++ dueCommand (c.airing.any (fun a => a.dwell == 0)) (.airingDwellExpiry ch)
    ++ dueCommand (periodOver s c && c.travel.period != longestPeriod) (.pulsePeriodTimeout ch)
    ++ dueCommand (timerDue c.travel.stall) (.stallTimerExpiry ch)
    ++ dueCommand (timerDue c.current.blanking) (.blankingTimerExpiry ch)
    ++ dueCommand (timerDue c.current.filter) (.filterTimerExpiry ch)
    ++ dueCommand (timerDue c.current.short) (.shortFilterExpiry ch)
    ++ dueCommand (durationReached c) (.timedDurationReached ch)
    ++ dueCommand (timerDue c.motion.settleTimer) (.brakeSettleExpiry ch)
    ++ dueCommand (timerDue c.motion.dwellTimer) (.reverseDwellExpiry ch)
    ++ dueCommand (timerDue c.motion.restTimer) (.restTimerExpiry ch)
    ++ dueCommand (timerDue c.drive.ramp) (.rampStep ch)

/-- The expiry commands of every timer that has run out, in a fixed order (log 1). -/
def dueCommands (s : State) : List Instr :=
  dueCommand (s.line.watchdog == 0) .lineWatchdogExpiry
    ++ dueCommand (timerDue s.weather.releaseTimer) .releaseTimerExpiry
    ++ dueCommand (timerDue s.weather.settleTimer) .settleTimerExpiry
    ++ dueCommand (timerDue s.weather.rainTimer) .rainReleaseTimerExpiry
    ++ dueCommand (ageDue s.weather) .staleTimeExpiry
    ++ allInputs.flatMap (fun n => dueCommand (timerDue (s.input n).timer) (.debounceTimerExpiry n))
    ++ dueCommand (timerDue s.supply.holdOff) .holdOffExpiry
    ++ allChans.flatMap (chanDue s)
    ++ dueCommand (timerDue s.admission.stagger) .staggerTimerExpiry

/-- What the station does when no command waits (log 1): the expiries that are due enter the queue, at the end of the period
PWM_PERIOD does, and otherwise one count passes. -/
def State.idle (s : State) : State :=
  let due := dueCommands s
  if due.isEmpty then
    if s.clock.count < periodCounts - 1 then s.passCount else { s with pending := [.pwmPeriod] }
  else { s with pending := due }

end Sys2Proof.Machine
end

