-- ==== Sys2Proof/Machine/Dispatch.lean ====
section
/-! DEFINITION. One arm per command: each is one call of its meaning. -/

namespace Sys2Proof.Machine

/-- The effect of a command on everything but the queue of waiting commands. -/
def exec (i : Instr) (s : State) : Host.Outcome State Fault Refusal :=
  match i with
  | .powerOnReset => Sys2Proof.Machine.execPowerOnReset s
  | .portUp p => Sys2Proof.Machine.execPortUp p s
  | .portDown p => Sys2Proof.Machine.execPortDown p s
  | .frameDiscarded p bytes byteError => Sys2Proof.Machine.execFrameDiscarded p bytes byteError s
  | .upstreamFrameAccepted f => Sys2Proof.Machine.execUpstreamFrameAccepted f s
  | .demand station tag payload => Sys2Proof.Machine.execDemand station tag payload s
  | .release station tag payload => Sys2Proof.Machine.execRelease station tag payload s
  | .weather station tag payload => Sys2Proof.Machine.execWeather station tag payload s
  | .beacon station tag payload => Sys2Proof.Machine.execBeacon station tag payload s
  | .unknownKindFrame f => Sys2Proof.Machine.execUnknownKindFrame f s
  | .enumerate station tag payload => Sys2Proof.Machine.execEnumerate station tag payload s
  | .groupWrite station tag payload => Sys2Proof.Machine.execGroupWrite station tag payload s
  | .profileWrite station tag payload => Sys2Proof.Machine.execProfileWrite station tag payload s
  | .inputWrite station tag payload => Sys2Proof.Machine.execInputWrite station tag payload s
  | .settingsWrite station tag payload => Sys2Proof.Machine.execSettingsWrite station tag payload s
  | .tableRead station tag payload => Sys2Proof.Machine.execTableRead station tag payload s
  | .statusRead station tag payload => Sys2Proof.Machine.execStatusRead station tag payload s
  | .clearFault station tag payload => Sys2Proof.Machine.execClearFault station tag payload s
  | .clearSupply station tag => Sys2Proof.Machine.execClearSupply station tag s
  | .stationReset station tag payload => Sys2Proof.Machine.execStationReset station tag payload s
  | .dPortTransmitStart ready => Sys2Proof.Machine.execDPortTransmitStart ready s
  | .dPortFrameSent => Sys2Proof.Machine.execDPortFrameSent s
  | .uPortTransmitChoice ready => Sys2Proof.Machine.execUPortTransmitChoice ready s
  | .uPortFrameSent => Sys2Proof.Machine.execUPortFrameSent s
  | .lineWatchdogExpiry => Sys2Proof.Machine.execLineWatchdogExpiry s
  | .claimExpiry ch cls => Sys2Proof.Machine.execClaimExpiry ch cls s
  | .releaseTimerExpiry => Sys2Proof.Machine.execReleaseTimerExpiry s
  | .settleTimerExpiry => Sys2Proof.Machine.execSettleTimerExpiry s
  | .rainReleaseTimerExpiry => Sys2Proof.Machine.execRainReleaseTimerExpiry s
  | .staleTimeExpiry => Sys2Proof.Machine.execStaleTimeExpiry s
  | .airingDwellExpiry ch => Sys2Proof.Machine.execAiringDwellExpiry ch s
  | .debounceTimerExpiry n => Sys2Proof.Machine.execDebounceTimerExpiry n s
  | .pulse ch highMicros => Sys2Proof.Machine.execPulse ch highMicros s
  | .pulsePeriodTimeout ch => Sys2Proof.Machine.execPulsePeriodTimeout ch s
  | .stallTimerExpiry ch => Sys2Proof.Machine.execStallTimerExpiry ch s
  | .blankingTimerExpiry ch => Sys2Proof.Machine.execBlankingTimerExpiry ch s
  | .filterTimerExpiry ch => Sys2Proof.Machine.execFilterTimerExpiry ch s
  | .shortFilterExpiry ch => Sys2Proof.Machine.execShortFilterExpiry ch s
  | .timedDurationReached ch => Sys2Proof.Machine.execTimedDurationReached ch s
  | .brakeSettleExpiry ch => Sys2Proof.Machine.execBrakeSettleExpiry ch s
  | .reverseDwellExpiry ch => Sys2Proof.Machine.execReverseDwellExpiry ch s
  | .restTimerExpiry ch => Sys2Proof.Machine.execRestTimerExpiry ch s
  | .rampStep ch => Sys2Proof.Machine.execRampStep ch s
  | .staggerTimerExpiry => Sys2Proof.Machine.execStaggerTimerExpiry s
  | .firstSupplyMeasurement v1 v2 v3 v4 => Sys2Proof.Machine.execFirstSupplyMeasurement v1 v2 v3 v4 s
  | .supplyMeasurement v => Sys2Proof.Machine.execSupplyMeasurement v s
  | .holdOffExpiry => Sys2Proof.Machine.execHoldOffExpiry s
  | .thermalMeasurement celsius => Sys2Proof.Machine.execThermalMeasurement celsius s
  | .currentSample ch value => Sys2Proof.Machine.execCurrentSample ch value s
  | .pwmPeriod => Sys2Proof.Machine.execPwmPeriod s
  | .inputSample high1 high2 high3 high4 => Sys2Proof.Machine.execInputSample high1 high2 high3 high4 s
  | .frameFirstByte p => Sys2Proof.Machine.execFrameFirstByte p s

end Sys2Proof.Machine
end

