-- ==== Sys2Proof/Safety.lean ====
section
/-! DEFINITION. What claims say of a state: what a command leaves alone, and the properties every step keeps. -/

namespace Sys2Proof.Machine

/-! ### What a command leaves alone -/

/-- Everything but the channels, the admission unit, the reports and the counter of free values is as before: the tables, the
settings, the weather, the monitors, the line, the clock and the queue of commands. -/
def KeepsRest (s u : State) : Prop :=
  u = { s with chans := u.chans, admission := u.admission, reports := u.reports, freeCount := u.freeCount }

/-- Every channel but `ch` is as before. -/
def KeepsOthers (ch : Chan) (s u : State) : Prop := ∀ d, d ≠ ch → u.chan d = s.chan d

/-- Every channel keeps its profile, its claims and its airing record. -/
def KeepsClaims (s u : State) : Prop :=
  ∀ d, (u.chan d).profile = (s.chan d).profile ∧ (u.chan d).slots = (s.chan d).slots ∧ (u.chan d).airing = (s.chan d).airing

/-- The change concerns channel `ch` alone, its motion and not its claims, with the admission unit and the reports. -/
def ActsOn (ch : Chan) (s u : State) : Prop := KeepsRest s u ∧ KeepsOthers ch s u ∧ KeepsClaims s u

/-- Every channel keeps its position counter, its pulse period with the moment of its last pulse, and its last sampled current.
The run count and the drift count are not among them: an admission clears them (R73, R97). -/
def KeepsSensed (s u : State) : Prop :=
  ∀ d, (u.chan d).travel.position = (s.chan d).travel.position ∧ (u.chan d).travel.period = (s.chan d).travel.period
    ∧ (u.chan d).travel.lastPulse = (s.chan d).travel.lastPulse ∧ (u.chan d).current.sample = (s.chan d).current.sample

/-- What admissions, preemptions and sheds can do: they change the motion of the channels in the start queue and in the
share-holder set and the admission unit, and nothing else; no entry appears for a channel that had none. -/
def StartsAndSheds (s u : State) : Prop :=
  u = { s with chans := u.chans, admission := u.admission }
    ∧ KeepsClaims s u ∧ KeepsSensed s u
    ∧ (∀ d, (u.chan d).selected = (s.chan d).selected ∧ (u.chan d).motion.hand = (s.chan d).motion.hand
        ∧ (u.chan d).motion.referenced = (s.chan d).motion.referenced
        ∧ (u.chan d).motion.retry = (s.chan d).motion.retry)
    ∧ (∀ e ∈ u.admission.queue, e ∈ s.admission.queue)
    ∧ (∀ e ∈ u.admission.holders, ∃ f, (f ∈ s.admission.queue ∨ f ∈ s.admission.holders) ∧ f.chan = e.chan)
    ∧ u.admission.budget = s.admission.budget
    ∧ ∀ d, (∀ e ∈ s.admission.queue, e.chan ≠ d) → (∀ e ∈ s.admission.holders, e.chan ≠ d) → u.chan d = s.chan d

/-- The station `s` with the claims, the airing records, the weather and the inputs of `u`: what the selector evaluates. -/
def withClaimsOf (s u : State) : State :=
  let claims (d : Chan) : Channel := { s.chan d with slots := (u.chan d).slots, airing := (u.chan d).airing }
  { s with
    chans := ⟨claims .ch0, claims .ch1, claims .ch2, claims .ch3, claims .ch4, claims .ch5⟩
    weather := u.weather
    inputs := u.inputs }

/-- From `s` to `u` the claims, the weather, the inputs, the line interface and the reports have changed, and each channel of `P`
has been evaluated once and has acted on its re-target (R34, R35, R49 to R52, R57 to R59); nothing else has changed. What a
re-target does is said in `Obligations.RetargetOutsideMoving` and `Obligations.RetargetWhileMoving`. -/
def TakeTargets (s u : State) (P : Chan → Prop) : Prop :=
  ∃ chs : List Chan, chs.Nodup ∧ (∀ ch, ch ∈ chs ↔ P ch)
    ∧ u = { (withClaimsOf s u).retargetAll chs with line := u.line, reports := u.reports }

/-- `n` ms of the time base pass from `s` to `t` (0.5): every running timer moves by 1 ms in each, as `State.tickMs` says, and
but for the clock and the legs of the channels nothing else changes. -/
def TimePasses (n : Nat) (s t : State) : Prop :=
  let v := State.tickMs^[n] s
  t.clock.now = s.clock.now + n ∧ t = { v with clock := t.clock, chans := t.chans }
    ∧ ∀ ch, t.chan ch = { v.chan ch with drive := { (v.chan ch).drive with legs := (t.chan ch).drive.legs } }

/-- Channel `ch` has tested its target in hand (R50), the start queue having been `q`: it is IDLE when no movement is needed;
otherwise it is WAITING, and joins the start queue with the queue rank in hand, the present moment and its profile's weight
(R75). -/
def TestsTarget (ch : Chan) (q : List QueueEntry) (u : State) : Prop :=
  if (moveNeeded (u.chan ch)).isSome then
    (u.chan ch).motion.state = .waiting
      ∧ u.admission.queue = insertEntry
          { chan := ch, rank := (u.chan ch).motion.hand.queueRank.getD 6, time := u.clock.now,
            weight := (u.chan ch).profile.weight } (dropChan ch q)
  else (u.chan ch).motion.state = .idle ∧ u.admission.queue = q

/-- The drive of a channel is off, its level 0 (R118, log 38), and its drive-start timers are stopped. -/
def DriveIsOff (c : Channel) : Prop :=
  c.drive.level = 0 ∧ c.drive.phase = none ∧ c.drive.ramp = none ∧ c.drive.runMark = false
    ∧ c.motion.moveTimer = none ∧ c.motion.minimum = false ∧ c.travel.stall = none
    ∧ c.current.startPhase = false ∧ c.current.blanking = none ∧ c.current.filter = none ∧ c.current.short = none

/-- A leg stage of a channel that is driven. -/
def LegStage.isDriving : LegStage → Bool
  | .startWait _ => true
  | .drive _ => true
  | _ => false

/-- Channel `ch`, which stood as `c`, has left a driven state for BRAKING with `reason`, without a halt cause (R47, R56, R60,
R116 to R118): drive is off and its timers stopped, the brake-settle timer starts, the coast counts from 0, the leg keeps its
window to the count boundary, and the share is released unless the reason is OBSTRUCT. -/
def HaltsMove (ch : Chan) (c : Channel) (s u : State) (reason : BrakingReason) (afterBackoff : Bool := false) : Prop :=
  (u.chan ch).motion = { c.motion with
      state := .braking, reason := some reason, haltCause := none, afterBackoff,
      settleTimer := some (10 * c.profile.settleUnits), coast := 0, moveTimer := none, minimum := false,
      driveTime := c.motion.moveTimer.getD c.motion.driveTime }
    ∧ DriveIsOff (u.chan ch) ∧ (u.chan ch).drive.legs = .cutting c.drive.legs.onCount c.profile.brakeMode
    ∧ (u.chan ch).travel = { c.travel with stall := none }
    ∧ u.admission.queue = s.admission.queue ∧ u.reports = s.reports
    ∧ u.admission.holders = if reason = .obstruct then s.admission.holders else dropChan ch s.admission.holders

/-- Channel `ch`, which stood as `c`, has entered FAULTED with `code` (R70, R71, R85): drive is off at once, the rest timer starts,
the share is released and the start queue is left, a halt cause is dropped, and FAULT is posted with its position and the winning
rank in hand. -/
def FaultsWith (ch : Chan) (c : Channel) (s u : State) (code : FaultCode) : Prop :=
  (u.chan ch).motion = { c.motion with
      state := .faulted, fault := some code, restTimer := some (10 * c.profile.settleUnits), settleTimer := none,
      dwellTimer := none, stop := none, moveKind := none, haltCause := none, afterBackoff := false, moveTimer := none,
      minimum := false, driveTime := c.motion.moveTimer.getD c.motion.driveTime }
    ∧ DriveIsOff (u.chan ch) ∧ (u.chan ch).drive.legs.isDriving = false
    ∧ (u.chan ch).travel = { c.travel with stall := none }
    ∧ u.admission.queue = dropChan ch s.admission.queue ∧ u.admission.holders = dropChan ch s.admission.holders
    ∧ u.reports = (s.post {
        kind := .fault, chan := some ch, position := c.reported, rank := c.motion.hand.winRank,
        detail := { b5 := match code with | .short => 1 | .stalled => 2 | .obstructed => 3 | .travel => 4 } }).reports

/-- A channel `c` has left BRAKING as `d`: its brake-settle timer is stopped and its stop point cleared, and what BRAKING does
not settle is kept. -/
def LeavesBraking (c d : Channel) : Prop :=
  d.motion.state ≠ .braking ∧ d.motion.settleTimer = none ∧ d.motion.stop = none
    ∧ d.motion.fault = c.motion.fault ∧ d.travel.runCount = c.travel.runCount ∧ d.travel.drift = c.travel.drift
    ∧ d.travel.period = c.travel.period ∧ d.travel.lastPulse = c.travel.lastPulse ∧ d.current.sample = c.current.sample

/-- A channel `c` has been shed with `cause`, as `d` (R69): one that was driven brakes with drive off, and one in BRAKING(OBSTRUCT)
brakes on to a stop; both hold the cause. -/
def IsShed (cause : HaltCause) (c d : Channel) : Prop :=
  (c.motion.state = .moving ∨ c.motion.state = .backoff →
      d.motion = { c.motion with
        state := .braking, reason := some .stop, haltCause := some cause, afterBackoff := false,
        settleTimer := some (10 * c.profile.settleUnits), coast := 0, moveTimer := none, minimum := false,
        driveTime := c.motion.moveTimer.getD c.motion.driveTime }
      ∧ DriveIsOff d ∧ d.drive.legs = .cutting c.drive.legs.onCount c.profile.brakeMode
      ∧ d.travel = { c.travel with stall := none })
    ∧ (c.motion.state = .braking → c.motion.reason = some .obstruct →
      d = { c with motion := { c.motion with reason := some .stop, haltCause := some cause } })

/-- Every share holder of `s` that was driven has been shed with `cause`, when the budget was above 0: it brakes, and no holder
is left (R78, R88, R93). -/
def AllHoldersBrake (s : State) (cause : HaltCause) (u : State) : Prop :=
  0 < s.admission.budget → u.admission.holders = [] ∧ ∀ e ∈ s.admission.holders,
    (s.chan e.chan).motion.state = .moving ∨ (s.chan e.chan).motion.state = .backoff →
      (u.chan e.chan).motion.state = .braking ∧ (u.chan e.chan).motion.reason = some .stop
        ∧ (u.chan e.chan).motion.haltCause = some cause ∧ DriveIsOff (u.chan e.chan)

/-- The admission unit has computed the budget anew (R77): it stands at the value of Table 4.2 for the states of `s`, and when it
fell, holders are shed with `cause` as `Obligations.ShedsInShedOrder` says of `State.rebudget` (R78); but for their motion
nothing else of the station has changed, the reports apart. -/
def BudgetFollows (s : State) (cause : HaltCause) (u : State) : Prop :=
  u = { s.rebudget cause with reports := u.reports }
    ∧ u = { s with chans := u.chans, admission := u.admission, reports := u.reports } ∧ KeepsClaims s u ∧ KeepsSensed s u
    ∧ u.admission.budget = budgetOf s.settings s.supply.state s.thermal.state
    ∧ u.admission.queue = s.admission.queue ∧ u.admission.stagger = s.admission.stagger
    ∧ (∀ e ∈ u.admission.holders, e ∈ s.admission.holders)
    ∧ ∀ ch, (∀ e ∈ s.admission.holders, e.chan ≠ ch) → u.chan ch = s.chan ch

/-- The supply state has become `state` (R78, R87 to R89): the hold-off timer is stopped, entry into CUT sets the latch under
LATCHED and leaves it clear under AUTO, one SUPPLY report carries the new state, the measured supply and the latch, and the
budget follows, with the cause SUPPLY in CUT and OVER and SHED otherwise; entry into CUT or OVER sheds every holder. -/
def SupplyBecomes (s : State) (state : SupplyState) (u : State) : Prop :=
  u.supply = { s.supply with
      state := state, holdOff := none, latch := if state = .cut then s.settings.latched else s.supply.latch }
    ∧ BudgetFollows { s with supply := u.supply } (if state = .cut ∨ state = .overVolt then .supply else .shed) u
    ∧ u.reports = (s.post { kind := .supply, detail := {
        b5 := match state with | .normal => 0 | .low => 1 | .cut => 2 | .overVolt => 3,
        b6 := byteOf (s.supply.measured / 256), b7 := byteOf s.supply.measured,
        b8 := if u.supply.latch then 1 else 0 } }).reports
    ∧ (state = .cut ∨ state = .overVolt → AllHoldersBrake s .supply u)

/-- The station receives a frame with this payload on its U-port: the port is UP, the frame in reception began under an active
ready, and its payload is no longer than 48 bytes (R143 to R145). -/
def Receives (s : State) (payload : List Byte) : Prop :=
  s.line.uUp = true ∧ s.line.uRx = some .underReady ∧ payload.length ≤ 48

/-- The station hears a frame with this payload on its U-port: it receives it, and the line state is LINE_OK (R157). -/
def Hears (s : State) (payload : List Byte) : Prop :=
  s.line.uUp = true ∧ s.line.uRx = some .underReady ∧ payload.length ≤ 48 ∧ s.line.lost = false

/-- The line interface once it has accepted a frame: the reception has ended and the watchdog has restarted (R157). -/
def heard (s : State) : Line := { s.line with uRx := none, watchdog := 1000 * s.settings.watchdog }

/-- What becomes of a frame that is forwarded with the mark `acted`: it enters the downstream queue; at the end station it is
removed, and echoed when it was acted on, with the line error indicator set when the ECHO finds the queue full. -/
def passesOn (l : Line) (f : Frame) (acted : Bool) : Line :=
  if l.dUp then { l with downQueue := l.downQueue ++ [{ frame := f, acted }] }
  else if acted then
    if l.upQueue.length < 8 then { l with upQueue := l.upQueue ++ [echoOf l.station f] } else { l with lineError := true }
  else l

/-- The station consumes an addressed frame with this destination and payload: it hears it, is numbered, is the one addressed,
and its reply slot is empty (R150). -/
def Consumes (s : State) (destination : Byte) (payload : List Byte) : Prop :=
  Hears s payload ∧ s.line.station ≠ 0 ∧ destination.toNat = s.line.station ∧ s.line.reply = none

/-- The line interface once a consumed request is answered with a result and data (R158, Table 9.7). -/
def answered (s : State) (tag : Word16) (result : Byte) (data : List Byte) : Line :=
  { heard s with reply := some { kind := 0x21, station := byteOf s.line.station, tag, payload := result :: data } }

/-- A channel stands under its evaluation (R34, R35, R49): the selector's result is what its claims, the weather, its
reference and its profile give, and it is the target in hand, which a DISABLED channel sets to none (the model's choice,
log 26). -/
def Evaluated (w : Weather) (c : Channel) : Prop :=
  c.selected = evaluate w c ∧ c.motion.hand = if c.motion.state = .disabled then {} else c.selected

/-- A change of claims and of the motion that follows from it, and of the line interface: the tables, the settings, the
weather, the monitors, the clock and the queue of commands are as before, of the admission unit the budget and the stagger
timer, and of each channel the profile, the reference, the fault and what its sensing has counted: the position, the pulse
period, the run count, the drift count and the last sampled current. -/
def OnlyClaims (s u : State) : Prop :=
  u = { s with chans := u.chans, admission := u.admission, line := u.line, reports := u.reports, freeCount := u.freeCount }
    ∧ u.admission.budget = s.admission.budget ∧ u.admission.stagger = s.admission.stagger ∧ KeepsSensed s u
    ∧ ∀ d, (u.chan d).profile = (s.chan d).profile ∧ (u.chan d).motion.referenced = (s.chan d).motion.referenced
        ∧ (u.chan d).motion.fault = (s.chan d).motion.fault
        ∧ (u.chan d).travel.runCount = (s.chan d).travel.runCount ∧ (u.chan d).travel.drift = (s.chan d).travel.drift

/-- The rain state follows the wet condition from `s` to `u` (R31): line rain counts outside UNKNOWN, and local rain always. -/
def FollowsWet (s u : State) : Prop :=
  let wet := fun x : State => (x.weather.lineWet = true ∧ x.weather.wind ≠ .unknown)
    ∨ ∃ n, (x.input n).function = .rainContact ∧ (x.input n).active = true
  ((wet s ↔ wet u) → u.weather.rainWet = s.weather.rainWet ∧ u.weather.rainTimer = s.weather.rainTimer)
    ∧ (¬ wet s → wet u → u.weather.rainWet = true ∧ u.weather.rainTimer = none)
    ∧ (wet s → ¬ wet u → s.settings.rainDelay = 0 → u.weather.rainWet = false ∧ u.weather.rainTimer = none)
    ∧ (wet s → ¬ wet u → s.settings.rainDelay ≠ 0 →
        u.weather.rainWet = s.weather.rainWet ∧ u.weather.rainTimer = some (1000 * s.settings.rainDelay))

/-- What an event of the weather unit hands on (R33): a change of the wind state, the settled sector or the rain state posts one
WEATHER report and evaluates every channel; without one neither happens. -/
def HandsOn (s u : State) : Prop :=
  if u.weather.wind ≠ s.weather.wind ∨ u.weather.settled ≠ s.weather.settled ∨ u.weather.rainWet ≠ s.weather.rainWet then
    (∀ ch, Evaluated u.weather (u.chan ch)) ∧ TakeTargets s u (fun _ => True)
      ∧ u.reports = (s.post { kind := .weather, detail := {
          b5 := match u.weather.wind with | .calm => 0 | .windy => 1 | .storm => 2 | .unknown => 3,
          b6 := if u.weather.rainWet then 1 else 0,
          b7 := match u.weather.settled with | none => 0xFF | some b => byteOf b } }).reports
  else u.chans = s.chans ∧ u.admission = s.admission ∧ u.reports = s.reports

/-! ### The report queue (R173) -/

/-- At most 16 records, at most one for any pair of channel and kind. -/
def ReportsOk (s : State) : Prop :=
  s.reports.records.length ≤ 16 ∧ s.reports.records.Pairwise (fun a b => samePair a b = false)

/-! ### The line interface (Table 9.1, R143, R144, R150, R153, R154) -/

/-- A transmission in progress, or cut, of a forwarded frame or of the REPLY: the frame is still in its queue or slot. -/
def TxOk (l : Line) (t : TxFrame) : Prop :=
  match t.source with
  | .forwarded => l.upQueue.head? = some t.frame
  | .reply => l.reply = some t.frame
  | .report => True

/-- The line interface's counts stay in the ranges of Table 9.1, every queue has the places it holds, and a port that is
DOWN has nothing in reception or transmission. A frame in reception holds one place when it began under an active ready
output, and none when it began against the handshake, the model's choice (log 45). -/
def LineOk (s : State) : Prop :=
  s.line.downQueue.length + (if s.line.uRx = some .underReady then 1 else 0) ≤ 4 
    ∧ s.line.upQueue.length + (if s.line.dRx = some .underReady then 1 else 0) ≤ 8
    ∧ s.line.forwardedRun ≤ 4 ∧ s.line.reportNumber < 65536 ∧ s.line.station ≤ 32
    ∧ (s.line.uUp = false → s.line.uRx = none ∧ s.line.uTx = none)
    ∧ (s.line.dUp = false → s.line.dRx = none ∧ s.line.dSending = false ∧ s.line.downQueue = [])
    ∧ (s.line.dSending = true → s.line.downQueue ≠ [])
    ∧ (s.line.uTx = none ∨ s.line.uCut = none)
    ∧ (∀ t, s.line.uTx = some t → TxOk s.line t) ∧ (∀ t, s.line.uCut = some t → TxOk s.line t)

/-! ### The group table (R1) -/

/-- The law of R1: 64 entries; no two non-empty ones of one number; a non-empty one is valid and has members. -/
def GroupsOk (s : State) : Prop :=
  s.groups.length = 64 ∧ s.groups.Pairwise (fun a b => a.number = b.number → a.number = 0)
    ∧ ∀ e ∈ s.groups, e.number ≠ 0 → e.number ≤ 1023 ∧ ∃ ch, e.members.get ch = true

/-! ### Claims (R130, Table 0.2) -/

/-- An airing record is present exactly while the rank-6 slot holds a claim (R130). -/
def AiringOk (s : State) : Prop := ∀ ch, (s.chan ch).airing.isSome = (s.chan ch).slots.airing.isSome

/-- FALLBACK claims stand only while the line is lost (Table 0.2). -/
def FallbackOk (s : State) : Prop := s.line.lost = false → ∀ ch, (s.chan ch).slots.fallback = none

/-! ### Ranges of the stored values (Tables 1.1, 1.2, 2.1, 2.4, 3.2, 5.1, 5.3, 6.1, 7.1, 8.1, 10.2, 10.3) -/

/-- A demand lies in its range on a channel of travel `T` (Table 1.2). -/
def DemandOk (T : Nat) : Demand → Prop
  | .level d => d ≤ 1000
  | .stay none => True
  | .stay (some p) => p ≤ T

/-- A claim record lies in the ranges of Table 1.2 on a channel of travel `T`. -/
def ClaimOk (T : Nat) (claim : Claim) : Prop :=
  DemandOk T claim.demand ∧ claim.tag ≤ 65535 ∧ (∀ r, claim.expiry = some r → r ≤ 3600000)
    ∧ ∀ g, claim.group = some g → 1 ≤ g ∧ g ≤ 1023

/-- A target lies in its range on a channel of travel `T` (Table 2.4). -/
def TargetOk (T : Nat) : Target → Prop
  | .pulses p => p ≤ T
  | .level d => d ≤ 1000
  | .none => True

/-- A selection lies in the ranges of Table 2.4 on a channel of travel `T`. -/
def SelectionOk (T : Nat) (sel : Selection) : Prop :=
  TargetOk T sel.target ∧ (∀ r, sel.winRank = some r → 1 ≤ r ∧ r ≤ 6) ∧ ∀ r, sel.queueRank = some r → 1 ≤ r ∧ r ≤ 6

/-- A stop point lies in its range on a channel of travel `T` (Table 3.2). -/
def StopOk (T : Nat) : StopPoint → Prop
  | .atPosition q => -255 ≤ q ∧ q ≤ (T : Int) + 255
  | .atEnd => True

/-- An airing record lies in the ranges of Table 7.1, but for a dwell timer that has run out. -/
def AiringRangesOk (a : AiringRecord) : Prop :=
  a.openLevel ≤ 1000 ∧ 10 ≤ a.openDwell ∧ a.openDwell ≤ 7200 ∧ 10 ≤ a.closedDwell ∧ a.closedDwell ≤ 7200
    ∧ (∀ n, a.remaining = some n → 1 ≤ n ∧ n ≤ 255) ∧ (∀ n, a.atCreation = some n → 1 ≤ n ∧ n ≤ 255)
    ∧ a.dwell ≤ 7200000

/-- The stored values of a channel lie in their ranges. The run count lies within the travel while it counts, and within the
longest travel after a move whose profile has been replaced. -/
def ChannelRangesOk (c : Channel) : Prop :=
  (c.profile = {} ∨ profileInRange c.profile = true)
    ∧ (∀ k claim, c.slots.get k = some claim → ClaimOk c.profile.travel claim)
    ∧ (∀ a, c.airing = some a → AiringRangesOk a)
    ∧ SelectionOk c.profile.travel c.selected ∧ SelectionOk c.profile.travel c.motion.hand
    ∧ (∀ q, c.motion.stop = some q → StopOk c.profile.travel q)
    ∧ c.motion.retry ≤ 3 ∧ c.motion.eOpen ≤ 255 ∧ c.motion.eClose ≤ 255 ∧ c.motion.timedEst ≤ 1000
    ∧ c.motion.backoffCount ≤ 2000 ∧ (c.motion.state = .backoff → c.motion.backoffCount < c.profile.backoffDist)
    ∧ -512 ≤ c.travel.position ∧ c.travel.position ≤ (c.profile.travel : Int) + 512
    ∧ c.travel.runCount ≤ 60513 ∧ (c.motion.state = .moving → c.travel.runCount ≤ c.profile.travel + 513)
    ∧ c.travel.drift ≤ 255 ∧ c.travel.period ≤ 65535 ∧ c.current.sample ≤ 255
    ∧ c.drive.level ≤ 51200 ∧ c.drive.legs.onCount ≤ 200 ∧ ∀ r, c.drive.ramp = some r → r ≤ 10

/-- The stored values of the weather unit and of the monitors lie in their ranges, the limits and thresholds in force with
them. -/
def MonitorRangesOk (s : State) : Prop :=
  s.weather.windSpeed ≤ 700 ∧ s.weather.lastSpeed ≤ 700
    ∧ (∀ b, s.weather.settled = some b → b ≤ 15) ∧ (∀ b, s.weather.candidate = some b → b ≤ 15)
    ∧ s.weather.w1InForce ≤ 700 ∧ s.weather.hystInForce < s.weather.w1InForce
    ∧ s.supply.measured ≤ 400 ∧ (∀ v ∈ s.supply.samples, v ≤ 400) ∧ s.supply.samples.length ≤ 4
    ∧ s.supply.cutInForce < s.supply.lowInForce ∧ s.supply.lowInForce < s.supply.overInForce ∧ s.supply.overInForce ≤ 400
    ∧ -55 ≤ s.thermal.temperature ∧ s.thermal.temperature ≤ 200

/-- Every stored value lies in the range its table gives it. -/
def RangesOk (s : State) : Prop :=
  (∀ ch, ChannelRangesOk (s.chan ch))
    ∧ (∀ n, inputInRange (s.input n) = true ∧ ∀ r, (s.input n).timer = some r → r ≤ 2550)
    ∧ settingsInRange s.settings = true ∧ s.groups.length = 64 ∧ (∀ e ∈ s.groups, e.number ≤ 1023)
    ∧ MonitorRangesOk s ∧ s.clock.count < 200 ∧ s.clock.k < 256 ∧ s.clock.sub < 80000

/-! ### Motion, drive and admission (R46, R47, R71, R75 to R77, R80, R99, R105, R106, R108, R115, R118) -/

/-- A channel holds a budget share (Table 3.1): MOVING, BACKOFF or BRAKING(OBSTRUCT). -/
def holdsShare (c : Channel) : Bool :=
  match c.motion.state with
  | .moving | .backoff => true
  | .braking => c.motion.reason == some .obstruct
  | _ => false

/-- The motion state, the timers and the drive of a channel agree, and the mark of a braking that a reset began (log 41) is not
set on a channel that holds a share. -/
def ChannelOk (c : Channel) : Prop :=
  (c.motion.state = .disabled ↔ c.profile.enable = false)
    ∧ (c.motion.state = .faulted ↔ c.motion.fault.isSome = true)
    ∧ (c.motion.restTimer.isSome = true → c.motion.state = .faulted)
    ∧ (c.motion.state = .braking ↔ c.motion.settleTimer.isSome = true)
    ∧ (c.motion.state = .dwell ↔ c.motion.dwellTimer.isSome = true)
    ∧ (c.motion.state = .moving → c.motion.moveKind.isSome = true ∧ c.motion.moveTimer.isSome = true)
    ∧ (c.motion.state = .waiting → (moveNeeded c).isSome = true)
    ∧ (c.motion.hand.target ≠ .none → c.motion.hand.queueRank.isSome = true)
    ∧ (holdsShare c = true → c.motion.dir.isSome = true)
    ∧ (holdsShare c = true → c.motion.byReset = false)
    ∧ (isDriven c.motion.state = true → c.travel.stall.isSome = true)
    ∧ (c.motion.stop.isSome = true → c.motion.state = .moving ∨ c.motion.state = .braking)
    ∧ (isDriven c.motion.state = false → DriveIsOff c)
    ∧ c.drive.legs.isDriving = isDriven c.motion.state

/-- The start queue: the WAITING channels, each once, in order, under the queue rank in hand and the profile's weight
(R75). -/
def QueueOk (s : State) : Prop :=
  (∀ ch, (s.chan ch).motion.state = .waiting ↔ ∃ e ∈ s.admission.queue, e.chan = ch)
    ∧ s.admission.queue.Pairwise (fun a b => a.chan ≠ b.chan ∧ queueBefore a b = true)
    ∧ ∀ e ∈ s.admission.queue,
        (s.chan e.chan).motion.hand.queueRank = some e.rank ∧ e.weight = (s.chan e.chan).profile.weight

/-- The share holders: the channels of the states that hold a share, each once, with the profile's weight, and the law of
R76 under the effective budget of Table 4.2. -/
def HoldersOk (s : State) : Prop :=
  (∀ ch, holdsShare (s.chan ch) = true ↔ ∃ e ∈ s.admission.holders, e.chan = ch)
    ∧ s.admission.holders.Pairwise (fun a b => a.chan ≠ b.chan)
    ∧ (∀ e ∈ s.admission.holders, e.weight = (s.chan e.chan).profile.weight)
    ∧ s.admission.budget = budgetOf s.settings s.supply.state s.thermal.state
    ∧ (s.admission.budget = 0 → s.admission.holders = [])
    ∧ (2 ≤ s.admission.holders.length → totalWeight s.admission.holders ≤ s.admission.budget)

/-- The motion engines, the drive generators and the admission unit agree. -/
def MotionOk (s : State) : Prop := (∀ ch, ChannelOk (s.chan ch)) ∧ QueueOk s ∧ HoldersOk s

end Sys2Proof.Machine
end

