-- ==== Sys2Proof/Certificates/Slice0/Obligations.lean ====
section
/-! DEFINITION. The statements for the provers. `s` is the state before a command; `u` the state its own effect gives, before
the admission evaluation that ends it (R79, log 4): `State.finish s u` is the state after. What that evaluation can do is said
once, in `Obligations.EvaluationStartsAndSheds`. -/

open Sys2Proof Sys2Proof.Machine

/-! ### The queue of commands and the passing of time -/

/-- The command at the front of the queue is the one that acts, on the state with the queue's rest. -/
def Obligations.StepRunsTheFrontCommand : Prop :=
  ∀ (c : Instr) (rest : List Instr) (s : State), s.pending = c :: rest → step s = exec c { s with pending := rest }

/-- The queue and the passing of time, the model's own choice (log 1): no command touches the commands that wait behind it;
and with none waiting, the expiries that are due enter the queue, at the last count of the period PWM_PERIOD enters it, and
otherwise one count passes, of 25, 20 or 16 units of 12.5 ns (Table 6.2). -/
def Obligations.QueueAndTime : Prop :=
  (∀ (c : Instr) (s t : State), exec c s = .next t → t.pending = s.pending)
    ∧ ∀ s : State, s.pending = [] →
        (dueCommands s ≠ [] → step s = .next { s with pending := dueCommands s })
          ∧ (dueCommands s = [] → 199 ≤ s.clock.count → step s = .next { s with pending := [.pwmPeriod] })
          ∧ (dueCommands s = [] → s.clock.count < 199 → ∃ t, step s = .next t ∧ t.pending = []
              ∧ t.clock.count = s.clock.count + 1 ∧ t.clock.k = s.clock.k ∧ t.clock.freq = s.clock.freq
              ∧ t.clock.firstRun = s.clock.firstRun
              ∧ 80000 * t.clock.now + t.clock.sub = 80000 * s.clock.now + s.clock.sub
                  + (match s.clock.freq with | .khz16 => 25 | .khz20 => 20 | .khz25 => 16))

/-- 0.5: a timer of `n` ms has `n - m` ms left after `m` ms, and has run out after `n`; a stopped timer stays stopped. One ms of
the time base moves every expiry, dwell, move timer and countdown of every unit by 1 ms, and nothing else but the clock. An idle
step with nothing due and PWM_PERIOD let pass the ms that they add to the clock, each with all that one ms moves; no other
command but power-on reset moves the clock. The passing of time at an idle step, that through PWM_PERIOD, and the last part, are
the model's choice (logs 1, 3 and 2): an expiry command whose timer is not running, or has not run out, changes nothing. -/
def Obligations.TimersRunAndExpire : Prop :=
  (∀ n m : Nat, m ≤ n → timerTick^[m] (some n) = some (n - m)) ∧ (∀ m : Nat, timerTick^[m] none = none)
    ∧ (∀ s : State,
      let t := s.tickMs
      t = { s with
          chans := t.chans, inputs := t.inputs, clock := { s.clock with now := s.clock.now + 1 }
          weather := { s.weather with
            age := s.weather.age.map (fun a => min (a + 1) s.weather.staleAt)
            releaseTimer := timerTick s.weather.releaseTimer
            settleTimer := timerTick s.weather.settleTimer
            rainTimer := timerTick s.weather.rainTimer }
          supply := { s.supply with holdOff := timerTick s.supply.holdOff }
          admission := { s.admission with stagger := timerTick s.admission.stagger }
          line := { s.line with watchdog := s.line.watchdog - 1 } }
        ∧ (∀ n, t.input n = { s.input n with timer := timerTick (s.input n).timer })
        ∧ ∀ ch,
            let c := s.chan ch
            let d := t.chan ch
            d = { c with
                slots := d.slots, airing := c.airing.map (fun a => { a with dwell := a.dwell - 1 })
                motion := { c.motion with
                  moveTimer := c.motion.moveTimer.map (· + 1), settleTimer := timerTick c.motion.settleTimer
                  dwellTimer := timerTick c.motion.dwellTimer, restTimer := timerTick c.motion.restTimer }
                travel := { c.travel with stall := timerTick c.travel.stall }
                current := { c.current with
                  blanking := timerTick c.current.blanking, filter := timerTick c.current.filter
                  short := timerTick c.current.short }
                drive := { c.drive with ramp := timerTick c.drive.ramp } }
              ∧ ∀ k, d.slots.get k = (c.slots.get k).map (fun claim => { claim with expiry := timerTick claim.expiry }))
    ∧ (∀ s : State, s.pending = [] → dueCommands s = [] → s.clock.count < 199 →
        ∃ t n, step s = .next t ∧ n ≤ 1 ∧ TimePasses n s t)
    ∧ (∀ s : State, ∃ t n, exec .pwmPeriod s = .next t ∧ n ≤ 1 ∧ TimePasses n s t)
    ∧ (∀ (c : Instr) (s t : State), exec c s = .next t → c ≠ .pwmPeriod → c ≠ .powerOnReset → t.clock = s.clock)
    ∧ ∀ (s : State) (ch : Chan) (cls : ClaimClass) (n : InputNo),
    ((∀ claim, (s.chan ch).slots.get cls = some claim → claim.expiry ≠ some 0) → exec (.claimExpiry ch cls) s = .next s)
      ∧ (s.weather.releaseTimer ≠ some 0 → exec .releaseTimerExpiry s = .next s)
      ∧ (s.weather.settleTimer ≠ some 0 → exec .settleTimerExpiry s = .next s)
      ∧ (s.weather.rainTimer ≠ some 0 → exec .rainReleaseTimerExpiry s = .next s)
      ∧ ((∀ a, s.weather.age = some a → a < s.weather.staleAt) → exec .staleTimeExpiry s = .next s)
      ∧ ((∀ a, (s.chan ch).airing = some a → a.dwell ≠ 0) → exec (.airingDwellExpiry ch) s = .next s)
      ∧ ((s.input n).timer ≠ some 0 → exec (.debounceTimerExpiry n) s = .next s)
      ∧ ((s.chan ch).travel.stall ≠ some 0 → exec (.stallTimerExpiry ch) s = .next s)
      ∧ ((s.chan ch).current.blanking ≠ some 0 → exec (.blankingTimerExpiry ch) s = .next s)
      ∧ ((s.chan ch).current.filter ≠ some 0 → exec (.filterTimerExpiry ch) s = .next s)
      ∧ ((s.chan ch).current.short ≠ some 0 → exec (.shortFilterExpiry ch) s = .next s)
      ∧ ((s.chan ch).motion.settleTimer ≠ some 0 → exec (.brakeSettleExpiry ch) s = .next s)
      ∧ ((s.chan ch).motion.dwellTimer ≠ some 0 → exec (.reverseDwellExpiry ch) s = .next s)
      ∧ ((s.chan ch).motion.restTimer ≠ some 0 → exec (.restTimerExpiry ch) s = .next s)
      ∧ ((s.chan ch).drive.ramp ≠ some 0 → exec (.rampStep ch) s = .next s)
      ∧ (s.admission.stagger ≠ some 0 → exec .staggerTimerExpiry s = .next s)
      ∧ (s.supply.holdOff ≠ some 0 → exec .holdOffExpiry s = .next s)
      ∧ (s.line.watchdog ≠ 0 → exec .lineWatchdogExpiry s = .next s)

/-! ### Reset -/

/-- POWER_ON_RESET leaves every block with the values of the After reset columns (Tables 1.1, 2.1, 2.4, 3.2, 4.1, 5.1, 5.3, 6.1,
7.1, 8.1, 9.1, 10.2 and 10.3); the waiting commands are the model's own and stay. The values that no table gives, for what the
rules name outside the tables, and the limits and thresholds in force are the model's choice (logs 11 and 31), and so is the
mark of a channel that a reset has stopped (log 41). -/
def Obligations.PowerOnResetValues : Prop :=
  ∀ s : State, ∃ t, exec .powerOnReset s = .next t ∧ t.pending = s.pending
    ∧ (∀ ch, (t.chan ch).profile = {} ∧ (t.chan ch).profile.enable = false ∧ (t.chan ch).profile.travel = 0
        ∧ (∀ k, (t.chan ch).slots.get k = none) ∧ (t.chan ch).airing = none
        ∧ (t.chan ch).selected = { winRank := none, target := .none, queueRank := none })
    ∧ (∀ ch, (t.chan ch).motion.state = .disabled ∧ (t.chan ch).motion.fault = none
        ∧ (t.chan ch).motion.referenced = false ∧ (t.chan ch).motion.moveKind = none ∧ (t.chan ch).motion.dir = none
        ∧ (t.chan ch).motion.reason = none ∧ (t.chan ch).motion.haltCause = none
        ∧ (t.chan ch).motion.hand = { winRank := none, target := .none, queueRank := none }
        ∧ (t.chan ch).motion.stop = none ∧ (t.chan ch).motion.retry = 0 ∧ (t.chan ch).motion.eOpen = 0
        ∧ (t.chan ch).motion.eClose = 0 ∧ (t.chan ch).motion.timedEst = 0 ∧ (t.chan ch).motion.moveTimer = none
        ∧ (t.chan ch).motion.settleTimer = none ∧ (t.chan ch).motion.dwellTimer = none
        ∧ (t.chan ch).motion.backoffCount = 0 ∧ (t.chan ch).motion.restTimer = none
        ∧ (t.chan ch).motion.afterBackoff = false ∧ (t.chan ch).motion.timedLimit = false
        ∧ (t.chan ch).motion.byReset = false)
    ∧ (∀ ch, (t.chan ch).travel.position = 0 ∧ (t.chan ch).travel.runCount = 0 ∧ (t.chan ch).travel.drift = 0
        ∧ (t.chan ch).travel.period = 0 ∧ (t.chan ch).travel.stall = none
        ∧ t.lastSampled ch = 0 ∧ (t.chan ch).current.sample = 0
        ∧ (t.chan ch).current.startPhase = false ∧ activeLimit (t.chan ch) = none
        ∧ (t.chan ch).current.blanking = none ∧ (t.chan ch).current.filter = none ∧ (t.chan ch).current.short = none
        ∧ (t.chan ch).drive.level = 0 ∧ (t.chan ch).drive.phase = none ∧ (t.chan ch).driveDir = none
        ∧ (t.chan ch).drive.ramp = none ∧ (t.chan ch).drive.runMark = false ∧ (t.chan ch).drive.legs = .off)
    ∧ (t.groups.length = 64 ∧ ∀ e ∈ t.groups, e = ⟨0, ⟨false, false, false, false, false, false⟩, ⟨false, false, false, false, false⟩⟩)
    ∧ (∀ n, (t.input n).function = .unused ∧ (t.input n).activeHigh = false ∧ (t.input n).debounce = 5
        ∧ (t.input n).group = 0 ∧ (t.input n).level = 1000 ∧ (t.input n).hold = 300 ∧ (t.input n).active = false
        ∧ (t.input n).timer = none)
    ∧ (t.settings.defaultHold = 900 ∧ t.settings.w1 = 80 ∧ t.settings.w2 = 150 ∧ t.settings.hysteresis = 15
        ∧ t.settings.releaseDelay = 300 ∧ t.settings.staleTime = 120 ∧ t.settings.settleTime = 20
        ∧ t.settings.rainDelay = 600 ∧ t.settings.normalBudget = 12 ∧ t.settings.lowBudget = 4
        ∧ t.settings.stagger = 300 ∧ t.settings.cutVolt = 180 ∧ t.settings.lowVolt = 210
        ∧ t.settings.overVolt = 300 ∧ t.settings.holdOff = 2000 ∧ t.settings.watchdog = 10
        ∧ t.settings.reportMask = 0x1FFF ∧ t.settings.latched = false ∧ t.settings.freq = .khz20
        ∧ t.settings.faultHigh = false ∧ t.settings.faultChannel = true ∧ t.settings.faultSupply = true
        ∧ t.settings.faultThermal = true ∧ t.settings.faultLine = true)
    ∧ (t.weather.windSpeed = 0 ∧ t.weather.lineWet = false ∧ t.weather.age = none ∧ t.weather.wind = .unknown
        ∧ t.weather.releaseTimer = none ∧ t.weather.lastSpeed = 0 ∧ t.weather.settled = none
        ∧ t.weather.candidate = none ∧ t.weather.settleTimer = none ∧ t.weather.rainWet = false
        ∧ t.weather.rainTimer = none ∧ t.weather.w1InForce = 80 ∧ t.weather.hystInForce = 15)
    ∧ (t.admission.queue = [] ∧ t.admission.holders = [] ∧ t.admission.stagger = none ∧ t.admission.budget = 0)
    ∧ (t.supply.state = .cut ∧ t.supply.measured = 0 ∧ t.supply.formed = false ∧ t.supply.latch = false
        ∧ t.supply.holdOff = none ∧ t.supply.cutInForce = 180 ∧ t.supply.lowInForce = 210 ∧ t.supply.overInForce = 300
        ∧ t.thermal.state = .normal ∧ t.thermal.formed = false)
    ∧ (t.line.uUp = false ∧ t.line.dUp = false ∧ t.line.downQueue = [] ∧ t.line.upQueue = [] ∧ t.line.reply = none
        ∧ t.line.forwardedRun = 0 ∧ t.line.reportNumber = 0 ∧ t.line.lost = false ∧ t.line.watchdog = 10000
        ∧ t.line.lineError = false ∧ t.line.station = 0 ∧ isEndStation t = true)
    ∧ (t.freshStart = true ∧ t.reports.lost = false
        ∧ t.reports.records = [{ kind := .freshStart, chan := none, position := none, rank := none, detail := ⟨0, 0, 0, 0⟩ }])
    ∧ (t.clock.count = 0 ∧ t.clock.k = 0 ∧ t.clock.freq = .khz20 ∧ t.clock.firstRun = false)

/-! ### The PWM period, the dither and the leg outputs -/

/-- PWM_PERIOD: the running period ends after count 199 and the next begins, with k one higher; a driven channel's on-count is
that of its drive level and the new k; a started channel is driven one period start later, or two (R111, R112, R113, R116), and
from the first period's end on the latest sample is the last sampled current (R102). The time that the command takes from any
count, that of the counts still left, is the model's choice (log 3), and so are that the period begins before a ramp step of the
same moment (log 37) and that a sample of the first period becomes the last sampled current as it ends (log 44). -/
def Obligations.PwmPeriodBegins : Prop :=
  ∀ s : State, ∃ t, exec .pwmPeriod s = .next t
    ∧ t.clock.count = 0 ∧ t.clock.k = (s.clock.k + 1) % 256 ∧ t.clock.freq = s.settings.freq
    ∧ t.clock.firstRun = true ∧ (∀ ch, t.lastSampled ch = (s.chan ch).current.sample)
    ∧ 80000 * t.clock.now + t.clock.sub = 80000 * s.clock.now + s.clock.sub
        + (200 - s.clock.count) * (match s.clock.freq with | .khz16 => 25 | .khz20 => 20 | .khz25 => 16)
    ∧ (∀ ch n, (s.chan ch).drive.legs = .drive n →
        (t.chan ch).drive.legs = .drive (onCount (s.chan ch).drive.level ((s.clock.k + 1) % 256)))
    ∧ (∀ ch, (s.chan ch).drive.legs = .startWait 1 →
        (t.chan ch).drive.legs = .drive (onCount (s.chan ch).drive.level ((s.clock.k + 1) % 256)))
    ∧ (∀ ch, (s.chan ch).drive.legs = .startWait 2 → (t.chan ch).drive.legs = .startWait 1)
    ∧ (∀ ch, (s.chan ch).drive.legs = .off → (t.chan ch).drive.legs = .off)
    ∧ (t.clock.now = s.clock.now → t = { s with clock := t.clock, chans := t.chans }
        ∧ ∀ ch, t.chan ch = { s.chan ch with drive := { (s.chan ch).drive with legs := (t.chan ch).drive.legs } })

/-- R112, whole: k advances by one at the end of each period and wraps from 255 to 0, in every state; no other command but
power-on reset moves it, which sets it to 0; and 256 periods in a row take each value of k once. -/
def Obligations.PeriodIndexCounts : Prop :=
  (∀ s : State, ∃ t, exec .pwmPeriod s = .next t ∧ t.clock.k = (s.clock.k + 1) % 256)
    ∧ (∀ (c : Instr) (s t : State), exec c s = .next t → c ≠ .pwmPeriod → c ≠ .powerOnReset → t.clock.k = s.clock.k)
    ∧ (∀ s : State, ∃ t, exec .powerOnReset s = .next t ∧ t.clock.k = 0)
    ∧ ∀ k v : Nat, k < 256 → v < 256 → ∃ j, j < 256 ∧ (k + j) % 256 = v ∧ ∀ i, i < 256 → (k + i) % 256 = v → i = j

/-- R113: the on-count is N or N + 1; bitrev8 reverses the eight digits of k; any 256 periods in a row total the level, with
exactly F of them carrying N + 1; level 51200 is full on and level 0 gives none. -/
def Obligations.DitherTotalsTheLevel : Prop :=
  (∀ k i : Nat, k < 256 → i < 8 → (bitrev8 k).testBit i = k.testBit (7 - i)) ∧ (∀ k, k < 256 → bitrev8 k < 256)
    ∧ (∀ L k : Nat, onCount L k = if bitrev8 k < L % 256 then L / 256 + 1 else L / 256)
    ∧ (∀ L k : Nat, L ≤ 51200 → k < 256 →
        ((List.range 256).map (fun j => onCount L ((k + j) % 256))).sum = L
          ∧ ((List.range 256).filter (fun j => onCount L ((k + j) % 256) = L / 256 + 1)).length = L % 256)
    ∧ (∀ L k : Nat, L ≤ 51200 → onCount L k ≤ 200) ∧ ∀ k : Nat, onCount 51200 k = 200 ∧ onCount 0 k = 0

/-- R114 to R117 and Table 6.5: a channel's on-window starts at its phase offset and covers its on-count's worth of counts in a
row, wrapping; a driven channel has its direction's leg active in the window alone, BRAKE has both, and OFF has neither; during
power-on reset every leg is inactive. A channel that leaves a driven state keeps its window until the next count boundary; then
it is OFF, or under BRAKE one count with both legs inactive and then BRAKE; a fault goes to OFF whatever the stop mode; and
drive starts at the next period start, or one later from count 199. An idle step inside the period passes one count boundary on
every channel's legs, and PWM_PERIOD the boundaries left and then the period start. That BRAKE ends in OFF at the next count
boundary is the model's choice (log 13), and so are that power-on reset lasts while POWER_ON_RESET stands at the front of the
queue (log 32), the passing of counts at idle steps and through PWM_PERIOD (logs 1 and 3), and the level that a period starts
with (log 37). -/
def Obligations.LegOutputsFollowTheDrive : Prop :=
  (allChans.map phaseOffset = [0, 33, 66, 100, 133, 166]) ∧ (∀ ch, phaseOffset ch = chanIndex ch * 200 / 6)
    ∧ (∀ offset on count : Nat, offset < 200 → on ≤ 200 → count < 200 →
        (inWindow offset on count = true ↔ ∃ i, i < on ∧ count = (offset + i) % 200))
    ∧ (∀ (s : State) (ch : Chan),
        let legs := (s.chan ch).drive.legs
        let on := fun n => inWindow (phaseOffset ch) n s.clock.count
        ((∃ rest, s.pending = .powerOnReset :: rest) → legOutputs s ch = (false, false))
        ∧ ((∀ rest, s.pending ≠ .powerOnReset :: rest) →
            (∀ n, legs = .drive n ∨ (∃ b, legs = .cutting n b) →
              ((s.chan ch).motion.dir = some .opening → legOutputs s ch = (on n, false))
              ∧ ((s.chan ch).motion.dir = some .closing → legOutputs s ch = (false, on n)))
            ∧ (legs = .brake ∨ legs = .releasing → legOutputs s ch = (true, true))
            ∧ (legs = .off ∨ legs = .gap ∨ (∃ n, legs = .startWait n) → legOutputs s ch = (false, false))))
    ∧ (∀ ch c n, c.drive.legs = .drive n → sampleCount ch c = (phaseOffset ch + n / 2) % 200)
    ∧ (∀ ch c, c.drive.legs = .off → sampleCount ch c = phaseOffset ch)
    ∧ (∀ (ch : Chan) (s : State) (r : BrakingReason) (h : Option HaltCause) (b : Bool) (n : Nat),
      (s.chan ch).drive.legs = .drive n →
      ((s.brake ch r h b).chan ch).drive.legs = .cutting n (s.chan ch).profile.brakeMode)
    ∧ (∀ n, legsAtBoundary (.cutting n false) = .off ∧ legsAtBoundary (.cutting n true) = .gap)
    ∧ legsAtBoundary .gap = .brake ∧ legsAtBoundary .brake = .brake ∧ legsAtBoundary .off = .off
    ∧ (∀ (c : Channel) (f : FaultCode) (n : Nat), c.drive.legs = .drive n →
        legsAtBoundary (c.enterFaulted f).drive.legs = .off)
    ∧ (∀ (c : Channel) (m : MotionState), c.drive.legs = .brake →
        (c.leaveBraking m).drive.legs = .releasing ∧ legsAtBoundary (c.leaveBraking m).drive.legs = .off)
    ∧ (∀ (c : Channel) (count L k : Nat) (kind : MoveKind) (dir : Dir), count ≠ 199 →
        legsAtPeriod L k (c.enterMoving count kind dir).drive.legs = .drive (onCount L k)
          ∧ legsAtPeriod L k (c.enterBackoff count).drive.legs = .drive (onCount L k))
    ∧ (∀ (c : Channel) (L k : Nat) (kind : MoveKind) (dir : Dir),
        legsAtPeriod L k (c.enterMoving 199 kind dir).drive.legs = .startWait 1
          ∧ legsAtPeriod L k (c.enterBackoff 199).drive.legs = .startWait 1)
    ∧ (∀ s : State, s.pending = [] → dueCommands s = [] → s.clock.count < 199 → ∃ t, step s = .next t
        ∧ ∀ ch, (t.chan ch).drive.legs = legsAtBoundary (s.chan ch).drive.legs)
    ∧ ∀ s : State, s.clock.count < 200 → ∃ t, exec .pwmPeriod s = .next t
        ∧ ∀ ch, (t.chan ch).drive.legs = legsAtPeriod (s.chan ch).drive.level ((s.clock.k + 1) % 256)
            (legsAtBoundary^[200 - s.clock.count] (s.chan ch).drive.legs)

/-- RAMP_STEP (R118, R120): the level moves toward the phase level by the ramp rate and saturates at it; the next step falls 10
ms later; reaching the run level under the run phase sets the run-level mark and takes the START phase out; the latest sample,
blanking and both filters stay. The ramp from `a` to `b` takes the number of steps the rule gives. -/
def Obligations.RampStepMovesTheLevel : Prop :=
  (∀ (ch : Chan) (s : State) (ph : PhaseLevel), (s.chan ch).drive.ramp = some 0 → (s.chan ch).drive.phase = some ph →
      ∃ t, exec (.rampStep ch) s = .next t ∧ KeepsOthers ch s t ∧ t = { s with chans := t.chans }
        ∧ t.chan ch = { s.chan ch with drive := (t.chan ch).drive, current := (t.chan ch).current }
        ∧ ((s.chan ch).drive.level < (s.chan ch).profile.levelOf ph →
            (t.chan ch).drive.level = min ((s.chan ch).drive.level + (s.chan ch).profile.rampRate)
              ((s.chan ch).profile.levelOf ph))
        ∧ ((s.chan ch).profile.levelOf ph < (s.chan ch).drive.level →
            (t.chan ch).drive.level = max ((s.chan ch).drive.level - (s.chan ch).profile.rampRate)
              ((s.chan ch).profile.levelOf ph))
        ∧ ((s.chan ch).drive.level = (s.chan ch).profile.levelOf ph →
            (t.chan ch).drive.level = (s.chan ch).drive.level)
        ∧ (t.chan ch).current = { (s.chan ch).current with startPhase := (t.chan ch).current.startPhase }
        ∧ (t.chan ch).drive.ramp = some 10 ∧ (t.chan ch).drive.phase = some ph
        ∧ (t.chan ch).drive.legs = (s.chan ch).drive.legs
        ∧ (if ph = .run ∧ (t.chan ch).drive.level = (s.chan ch).profile.runLevel then
            (t.chan ch).drive.runMark = true ∧ (t.chan ch).current.startPhase = false
           else (t.chan ch).drive.runMark = (s.chan ch).drive.runMark
            ∧ (t.chan ch).current.startPhase = (s.chan ch).current.startPhase))
    ∧ (∀ p : Profile, p.levelOf .start = p.startLevel ∧ p.levelOf .run = p.runLevel ∧ p.levelOf .approach = p.approachLevel)
    ∧ (∀ a b R : Nat, 1 ≤ R → a < b →
        (fun L => rampToward L b R)^[(b - a + R - 1) / R] a = b
          ∧ ∀ m, m < (b - a + R - 1) / R → (fun L => rampToward L b R)^[m] a < b)
    ∧ ∀ a b R : Nat, 1 ≤ R → b < a →
        (fun L => rampToward L b R)^[(a - b + R - 1) / R] a = b
          ∧ ∀ m, m < (a - b + R - 1) / R → b < (fun L => rampToward L b R)^[m] a

/-! ### Groups and claims -/

/-- R1: a lookup finds the entry that holds the number, and nothing for 0, for a number above 1023, and for a number that no
entry holds; and every step keeps the table's law: 64 entries, no two non-empty ones of one number, each non-empty one of a
number up to 1023 with a non-empty member set. Power-on reset empties it, and STATION RESET leaves it unchanged. -/
def Obligations.GroupTableLaw : Prop :=
  (∀ (groups : List GroupEntry) (g : Nat),
    (∀ e, lookupGroup groups g = some e → e ∈ groups ∧ e.number = g ∧ 1 ≤ g ∧ g ≤ 1023)
      ∧ (lookupGroup groups g = none ↔ ∀ e ∈ groups, e.number = g → g = 0 ∨ 1023 < g)
      ∧ (∀ e ∈ groups, e.number = g → 1 ≤ g → g ≤ 1023 →
          groups.Pairwise (fun a b => a.number = b.number → a.number = 0) → lookupGroup groups g = some e))
    ∧ (∀ s t : State, GroupsOk s → step s = .next t → GroupsOk t)
    ∧ (∀ s : State, ∃ t, exec .powerOnReset s = .next t ∧ t.groups.length = 64 ∧ ∀ g, lookupGroup t.groups g = none)
    ∧ ∀ (s t : State) (station : Byte) (tag : Word16) (p : List Byte),
        exec (.stationReset station tag p) s = .next t → t.groups = s.groups

/-- What a DEMAND gives a claim of origin LINE: its class, group, demand and hold from their places (Table 9.6), the classes a
station admits (R4), the expiry of Table 1.3 by class and hold (R6), and the airing record of its airing part (R124, R125):
levels and dwells clamped, cycle count 0 as endless, starting phase 1 as CLOSED and any other as OPEN, with the dwell of the
starting phase; and what goes on of a frame: the counts raised and saturated at 255, the hop count raised by one and every other
byte as it came (R147), and the ECHO's bytes (R151). -/
def Obligations.FrameFieldsOfAClaim : Prop :=
  (∀ (t : Settings) (hold : Nat),
    lineExpiry t .smoke hold = none ∧ lineExpiry t .airing hold = none ∧ lineExpiry t .fallback hold = none
      ∧ lineExpiry t .service 0 = none ∧ (1 ≤ hold → hold ≤ 3600 → lineExpiry t .service hold = some (hold * 1000))
      ∧ (3600 < hold → lineExpiry t .service hold = some 3600000)
      ∧ ∀ cls, cls = .manual ∨ cls = .comfort →
          lineExpiry t cls 0 = some (t.defaultHold * 1000)
            ∧ (1 ≤ hold → hold ≤ 3600 → lineExpiry t cls hold = some (hold * 1000))
            ∧ (3600 < hold → lineExpiry t cls hold = some 3600000))
    ∧ (∀ p : List Byte,
        frameGroup p = (byteAt p 1).toNat * 256 + (byteAt p 2).toNat
          ∧ frameDemand p = (byteAt p 3).toNat * 256 + (byteAt p 4).toNat
          ∧ frameHold p = (byteAt p 5).toNat * 256 + (byteAt p 6).toNat
          ∧ ∀ cls, frameClass p = some cls ↔ (byteAt p 0).toNat = (match cls with
              | .smoke => 1 | .service => 2 | .fallback => 3 | .manual => 4 | .comfort => 5 | .airing => 6))
    ∧ (∀ (a : ClassSet) (cls : ClaimClass), a.admits cls = (match cls with
        | .smoke => a.smoke | .service => a.service | .fallback => false
        | .manual => a.manual | .comfort => a.comfort | .airing => a.airing))
    ∧ (∀ (p : List Byte) (at0 accepted withheld i : Nat), at0 + 3 ≤ p.length →
        (raiseCounts p at0 accepted withheld).length = p.length
          ∧ (byteAt (raiseCounts p at0 accepted withheld) i).toNat =
              (if i = at0 then min 255 ((byteAt p i).toNat + accepted)
               else if i = at0 + 1 then min 255 ((byteAt p i).toNat + withheld)
               else if i = at0 + 2 then min 255 ((byteAt p i).toNat + 1)
               else (byteAt p i).toNat))
    ∧ (∀ (number : Nat) (station : Byte) (tag : Word16) (p : List Byte),
        let b := fun i => byteAt p i
        echoOf number ⟨0x01, station, tag, p⟩
            = ⟨0x22, byteOf number, tag, [0x01, b 0, b 1, b 2, b 7, b 8, b 9, 0]⟩
          ∧ echoOf number ⟨0x02, station, tag, p⟩
            = ⟨0x22, byteOf number, tag, [0x02, b 0, b 1, b 2, b 3, b 4, b 5, 0]⟩
          ∧ echoOf number ⟨0x05, station, tag, p⟩ = ⟨0x22, byteOf number, tag, [0x05, 0, 0, 0, 0, 0, 0, b 0]⟩)
    ∧ ∀ (head : List Byte) (o1 o2 c1 c2 n ph : Byte), head.length = 10 →
        let a := airingOf (head ++ [o1, o2, c1, c2, n, ph])
        a.openLevel = min (frameDemand head) 1000
          ∧ a.openDwell = max 10 (min (o1.toNat * 256 + o2.toNat) 7200)
          ∧ a.closedDwell = max 10 (min (c1.toNat * 256 + c2.toNat) 7200)
          ∧ a.remaining = a.atCreation ∧ (a.atCreation = none ↔ n = 0) ∧ (n ≠ 0 → a.atCreation = some n.toNat)
          ∧ (a.phase = .closedPhase ↔ ph = 1)
          ∧ (ph = 1 → a.dwell = a.closedDwell * 1000 ∧ a.level = 0)
          ∧ (ph ≠ 1 → a.dwell = a.openDwell * 1000 ∧ a.level = a.openLevel)

/-- DEMAND of an admitted class (R4, R5, R8 to R10, R125, R147): every member that is not DISABLED stores the claim whole and
is re-targeted; the frame goes on with its counts raised; every other channel is as before. -/
def Obligations.DemandIsPlaced : Prop :=
  ∀ (s : State) (station : Byte) (tag : Word16) (p : List Byte) (cls : ClaimClass) (e : GroupEntry),
    Hears s p → p.length = (if cls = .airing then 16 else 10) → frameClass p = some cls →
    lookupGroup s.groups (frameGroup p) = some e → e.admitted.admits cls = true →
    ∃ u, exec (.demand station tag p) s = .next (s.finish u) ∧ OnlyClaims s u ∧ u.reports = s.reports
      ∧ TakeTargets s u (fun ch => e.members.get ch = true ∧ (s.chan ch).motion.state ≠ .disabled)
      ∧ u.line = passesOn (heard s) ⟨0x01, station, tag, raiseCounts p 7
          (allChans.filter (fun c => e.members.get c && (s.chan c).motion.state != .disabled
            && (s.chan c).motion.state != .faulted)).length
          (allChans.filter (fun c => e.members.get c && ((s.chan c).motion.state == .disabled
            || (s.chan c).motion.state == .faulted))).length⟩ true
      ∧ (∀ ch, e.members.get ch = true → (s.chan ch).motion.state ≠ .disabled →
          Evaluated u.weather (u.chan ch)
            ∧ (u.chan ch).airing = (if cls = .airing then some (airingOf p) else (s.chan ch).airing)
            ∧ (u.chan ch).slots = (s.chan ch).slots.set cls (some {
                origin := .line, group := some (frameGroup p), tag := tag.toNat,
                expiry := lineExpiry s.settings cls (frameHold p),
                demand :=
                  if cls = .airing then .level (airingOf p).level
                  else if frameDemand p = 65535 then
                    .stay (if (s.chan ch).motion.referenced then
                      some (max 0 (min (s.chan ch).travel.position ((s.chan ch).profile.travel : Int))).toNat else none)
                  else .level (min (frameDemand p) 1000) }))
      ∧ ∀ ch, e.members.get ch = false ∨ (s.chan ch).motion.state = .disabled → u.chan ch = s.chan ch

/-- DEMAND without a placement (R8, R147): a payload length that does not fit its class is passed on as it came; a class code
or a group that names nothing is passed on with the hop count raised; a class that is not admitted counts every member
withheld. Nothing else changes. -/
def Obligations.DemandIsNotPlaced : Prop :=
  ∀ (s : State) (station : Byte) (tag : Word16) (p : List Byte), Hears s p →
    (p.length ≠ (if (byteAt p 0).toNat = 6 then 16 else 10) →
      exec (.demand station tag p) s = .next { s with line := passesOn (heard s) ⟨0x01, station, tag, p⟩ false })
    ∧ (p.length = (if (byteAt p 0).toNat = 6 then 16 else 10) →
        (byteAt p 0).toNat = 0 ∨ 6 < (byteAt p 0).toNat ∨ lookupGroup s.groups (frameGroup p) = none →
        exec (.demand station tag p) s =
          .next { s with line := passesOn (heard s) ⟨0x01, station, tag, raiseCounts p 7 0 0⟩ true })
    ∧ ∀ cls e, p.length = (if cls = .airing then 16 else 10) → frameClass p = some cls →
        lookupGroup s.groups (frameGroup p) = some e → e.admitted.admits cls = false →
        exec (.demand station tag p) s = .next { s with
          line := passesOn (heard s) ⟨0x01, station, tag, raiseCounts p 7 0 (allChans.filter (fun c => e.members.get c)).length⟩ true }

/-- RELEASE (R15, R147): the claims of the named class whose recorded group is the frame's, or any with group 0, leave every
channel, an airing record with them, and each is counted; every other slot stands. A class code that names no class removes
nothing; a payload that is not 6 bytes long is passed on as it came. -/
def Obligations.ReleaseRemovesByGroup : Prop :=
  ∀ (s : State) (station : Byte) (tag : Word16) (p : List Byte), Hears s p →
    (∀ cls, p.length = 6 → frameClass p = some cls →
      let leaves := fun ch => cls ≠ .fallback ∧ ∃ c, (s.chan ch).slots.get cls = some c
        ∧ (frameGroup p = 0 ∨ c.group = some (frameGroup p))
      ∃ u n, exec (.release station tag p) s = .next (s.finish u) ∧ OnlyClaims s u ∧ u.reports = s.reports
        ∧ TakeTargets s u leaves
        ∧ u.line = passesOn (heard s) ⟨0x02, station, tag, raiseCounts p 3 n 0⟩ true
        ∧ (∃ chs : List Chan, chs.Nodup ∧ (∀ ch, ch ∈ chs ↔ leaves ch) ∧ chs.length = n)
        ∧ (∀ ch, leaves ch → (u.chan ch).slots = (s.chan ch).slots.set cls none ∧ Evaluated u.weather (u.chan ch)
            ∧ (u.chan ch).airing = if cls = .airing then none else (s.chan ch).airing)
        ∧ ∀ ch, ¬ leaves ch → u.chan ch = s.chan ch)
    ∧ (p.length = 6 → frameClass p = none → exec (.release station tag p) s =
        .next { s with line := passesOn (heard s) ⟨0x02, station, tag, raiseCounts p 3 0 0⟩ true })
    ∧ (p.length ≠ 6 → exec (.release station tag p) s =
        .next { s with line := passesOn (heard s) ⟨0x02, station, tag, p⟩ false })

/-- CLAIM_EXPIRY (R12): the record is removed and its slot becomes empty, one re-target is raised for the channel, and no
report is posted; every other slot and channel is as before. -/
def Obligations.ClaimExpiryEmptiesTheSlot : Prop :=
  ∀ (s : State) (ch : Chan) (cls : ClaimClass) (claim : Claim), (s.chan ch).slots.get cls = some claim →
    claim.expiry = some 0 → cls ≠ .smoke →
    ∃ u, exec (.claimExpiry ch cls) s = .next (s.finish u) ∧ OnlyClaims s u ∧ KeepsOthers ch s u
      ∧ u.reports = s.reports ∧ u.line = s.line ∧ TakeTargets s u (· = ch)
      ∧ (u.chan ch).slots = (s.chan ch).slots.set cls none
      ∧ (u.chan ch).airing = (if cls = .airing then none else (s.chan ch).airing)
      ∧ Evaluated u.weather (u.chan ch)

/-- R16: a SMOKE claim leaves a channel's claim set only through a RELEASE of class SMOKE whose group is the claim's recorded
group or 0, or through power-on reset, in every step from every state. -/
def Obligations.SmokeClaimStays : Prop :=
  ∀ (s t : State) (ch : Chan) (claim : Claim), (s.chan ch).slots.smoke = some claim → step s = .next t →
    (t.chan ch).slots.smoke.isSome = true
      ∨ (∃ rest, s.pending = .powerOnReset :: rest)
      ∨ ∃ station tag p rest, s.pending = .release station tag p :: rest ∧ frameClass p = some .smoke
          ∧ (frameGroup p = 0 ∨ claim.group = some (frameGroup p))

/-- LINE_WATCHDOG_EXPIRY (R17, R18, R157): the timer restarts. In LINE_LOST nothing else changes. In LINE_OK the line is lost,
one LINE report is posted, every COMFORT, AIRING and line MANUAL claim goes, SMOKE and SERVICE stay, and each channel that is
not DISABLED holds the FALLBACK claim of its fail action and is re-targeted. -/
def Obligations.LineLossPlacesFallback : Prop :=
  ∀ s : State, s.line.watchdog = 0 →
    let line := { s.line with watchdog := 1000 * s.settings.watchdog }
    (s.line.lost = true → exec .lineWatchdogExpiry s = .next { s with line })
    ∧ (s.line.lost = false → ∃ u, exec .lineWatchdogExpiry s = .next (s.finish u) ∧ OnlyClaims s u
        ∧ u.line = { line with lost := true }
        ∧ TakeTargets s u (fun ch => (s.chan ch).motion.state ≠ .disabled ∨ (u.chan ch).slots ≠ (s.chan ch).slots)
        ∧ u.reports = (s.post { kind := .line, detail := { b5 := 1 } }).reports
        ∧ (∀ ch, (u.chan ch).airing = none ∧ (u.chan ch).slots.smoke = (s.chan ch).slots.smoke
            ∧ (u.chan ch).slots.service = (s.chan ch).slots.service
            ∧ (u.chan ch).slots.comfort = none ∧ (u.chan ch).slots.airing = none
            ∧ (∀ m, (s.chan ch).slots.manual = some m → m.origin = .line → (u.chan ch).slots.manual = none)
            ∧ ((∀ m, (s.chan ch).slots.manual = some m → m.origin ≠ .line) →
                (u.chan ch).slots.manual = (s.chan ch).slots.manual))
        ∧ (∀ ch, (s.chan ch).motion.state = .disabled →
            (u.chan ch).slots.fallback = (s.chan ch).slots.fallback ∧ (u.chan ch).motion.state = .disabled)
        ∧ ∀ ch, (s.chan ch).motion.state ≠ .disabled → Evaluated u.weather (u.chan ch)
            ∧ (u.chan ch).slots.fallback = some {
                origin := .line, group := none, expiry := none, tag := 0
                demand :=
                  if (s.chan ch).profile.failMoveTo then .level (s.chan ch).profile.moveToLevel
                  else .stay (if (s.chan ch).motion.referenced then
                    some (max 0 (min (s.chan ch).travel.position ((s.chan ch).profile.travel : Int))).toNat else none) })

/-- BEACON and a frame of unknown kind (R146, R148, R157): passed on unchanged. In LINE_OK nothing else changes; in LINE_LOST
the line is restored, one LINE report is posted, every FALLBACK claim goes with a re-target for its channel, and no other slot
changes (R19). Every command that brings a frame on the U-port has an act of its own, by which it acts in LINE_OK; in LINE_LOST
that act and LINE_OK are two events, each with its own admission evaluation, in an order that is a free value: the model's
choice (logs 4 and 5), and so is the timeout that a SETTINGS write's acceptance restarts the watchdog with (log 40). The act is
the same in both line states, but that page 0 of a STATUS_READ shows the line state it meets: that act is given whole, for a
frame that is passed on, dropped, or answered. -/
def Obligations.FrameRestoresTheLine : Prop :=
  (∀ (s : State) (c : Instr) (f : Frame),
    (∃ station tag p, c = .beacon station tag p ∧ f = ⟨0x04, station, tag, p⟩) ∨ c = .unknownKindFrame f →
    Receives s f.payload →
    (s.line.lost = false → exec c s = .next { s with line := passesOn (heard s) f false })
    ∧ (s.line.lost = true → ∃ u, exec c s = .next (s.finish u) ∧ OnlyClaims s u
        ∧ u.line = passesOn { heard s with lost := false } f false
        ∧ u.reports = (s.post { kind := .line, detail := { b5 := 0 } }).reports
        ∧ TakeTargets { s with freeCount := s.freeCount + 1 } u (fun ch => (s.chan ch).slots.fallback.isSome = true)
        ∧ (∀ ch, (s.chan ch).slots.fallback.isSome = true →
            (u.chan ch).slots = { (s.chan ch).slots with fallback := none } ∧ (u.chan ch).airing = (s.chan ch).airing
              ∧ Evaluated u.weather (u.chan ch))
        ∧ ∀ ch, (s.chan ch).slots.fallback = none → u.chan ch = s.chan ch))
  ∧ ∀ (c : Instr) (f : Frame), c.frame = some (.uPort, f) → ∃ act : State → State × Fate,
      (∀ s : State, Receives s f.payload → s.line.lost = false →
        exec c s = .next (State.hear { s with line := heard s } act))
      ∧ (∀ s : State, Receives s f.payload → s.line.lost = true →
          let b := { s with line := heard s, freeCount := s.freeCount + 1 }
          exec c s = .next (if Config.freeOrder s.freeCount then (b.finish b.lineOk).hear act
            else (b.hear act).finish (b.hear act).lineOk))
      ∧ ((∀ station tag, c ≠ .statusRead station tag [0]) → ∀ (s : State) (lost : Bool),
          act { s with line := { s.line with lost } } =
            ({ (act s).1 with line := { (act s).1.line with lost } }, (act s).2))
      ∧ ∀ station tag (s : State), c = .statusRead station tag [0] →
          (s.line.station = 0 ∨ station.toNat ≠ s.line.station → act s = (s, .forward f false))
          ∧ (s.line.station ≠ 0 → station.toNat = s.line.station → s.line.reply.isSome = true → act s = (s, .gone))
          ∧ (s.line.station ≠ 0 → station.toNat = s.line.station → s.line.reply = none →
              act s = ({ s with
                freshStart := false
                line := { s.line with
                  lineError := false
                  reply := some ⟨0x21, byteOf s.line.station, tag, 0 :: stationPage s⟩ } }, .gone))

/-! ### Airing -/

/-- AIRING_DWELL_EXPIRY (R23, R127 to R129): an OPEN phase turns to CLOSED; a CLOSED phase turns to OPEN with one cycle fewer,
or, when its cycles have run out, the claim leaves and AIRING DONE is posted with the cycles at creation and the winning rank
that remains. -/
def Obligations.AiringDwellTurns : Prop :=
  ∀ (s : State) (ch : Chan) (a : AiringRecord), (s.chan ch).airing = some a → a.dwell = 0 →
    ∃ u, exec (.airingDwellExpiry ch) s = .next (s.finish u) ∧ OnlyClaims s u ∧ KeepsOthers ch s u ∧ u.line = s.line
      ∧ Evaluated u.weather (u.chan ch) ∧ TakeTargets s u (· = ch)
      ∧ (a.phase = .openPhase → u.reports = s.reports
          ∧ (u.chan ch).airing = some { a with phase := .closedPhase, dwell := a.closedDwell * 1000 }
          ∧ (u.chan ch).slots = { (s.chan ch).slots with
              airing := (s.chan ch).slots.airing.map (fun k => { k with demand := .level 0 }) })
      ∧ (∀ left, a.phase = .closedPhase →
          (a.remaining = none ∧ left = none) ∨ (∃ n, 1 ≤ n ∧ a.remaining = some (n + 1) ∧ left = some n) →
          u.reports = s.reports
          ∧ (u.chan ch).airing =
              some { a with phase := .openPhase, dwell := a.openDwell * 1000, remaining := left }
          ∧ (u.chan ch).slots = { (s.chan ch).slots with
              airing := (s.chan ch).slots.airing.map (fun k => { k with demand := .level a.openLevel }) })
      ∧ (∀ n N, a.phase = .closedPhase → a.remaining = some n → n ≤ 1 → a.atCreation = some N →
          (u.chan ch).airing = none ∧ (u.chan ch).slots = { (s.chan ch).slots with airing := none }
          ∧ u.reports = (s.post {
              kind := .airingDone, chan := some ch, position := (s.chan ch).reported,
              rank := (u.chan ch).selected.winRank, detail := { b5 := byteOf N } }).reports)

/-- R130, Table 0.2: every step keeps an airing record present exactly while the rank-6 slot holds a claim, and FALLBACK claims
only while the line is lost. -/
def Obligations.ClaimInvariants : Prop :=
  (∀ s t : State, AiringOk s → step s = .next t → AiringOk t)
    ∧ ∀ s t : State, FallbackOk s → step s = .next t → FallbackOk t

/-! ### The weather unit and the target selector -/

/-- WEATHER of 4 payload bytes (R24 to R26, R29 to R31, R33): the record is overwritten, the wind state follows the speed with
the settings' limits, which come into force, and the release timer, the sector is settled, the rain state follows the wet
condition; a change of one of the three posts one WEATHER report and evaluates every channel, and no change touches no channel.
A WEATHER frame of another length is passed on unchanged and changes nothing else (R148). That a candidate reported again keeps
its timer when the settle time has become 0 is the model's choice (log 33). -/
def Obligations.WeatherFrameIsTaken : Prop :=
  ∀ (s : State) (station : Byte) (tag : Word16) (p : List Byte), Hears s p →
    (p.length ≠ 4 → exec (.weather station tag p) s =
      .next { s with line := passesOn (heard s) ⟨0x03, station, tag, p⟩ false })
    ∧ (p.length = 4 →
    let v := min (wordAt p 0) 700
    let b := (byteAt p 2).toNat
    let t := s.settings
    let w := s.weather
    ∃ u, exec (.weather station tag p) s = .next (s.finish u)
      ∧ OnlyClaims { s with weather := u.weather } u ∧ KeepsClaims s u
      ∧ u.line = passesOn (heard s) ⟨0x03, station, tag, p⟩ false
      ∧ u.weather.windSpeed = v ∧ u.weather.lastSpeed = v ∧ u.weather.lineWet = (byteAt p 3 != 0)
      ∧ u.weather.age = some 0 ∧ u.weather.staleAt = 1000 * t.staleTime
      ∧ u.weather.w1InForce = t.w1 ∧ u.weather.hystInForce = t.hysteresis
      ∧ (w.wind = .unknown ∨ w.wind = .calm → u.weather.releaseTimer = none
          ∧ u.weather.wind = if t.w2 ≤ v then .storm else if t.w1 ≤ v then .windy else .calm)
      ∧ (w.wind = .windy →
          (t.w2 ≤ v → u.weather.wind = .storm ∧ u.weather.releaseTimer = none)
          ∧ (v < t.w2 → t.w1 - t.hysteresis ≤ v → u.weather.wind = .windy ∧ u.weather.releaseTimer = none)
          ∧ (v < t.w2 → v < t.w1 - t.hysteresis → u.weather.wind = .windy
              ∧ u.weather.releaseTimer = some (w.releaseTimer.getD (1000 * t.releaseDelay))))
      ∧ (w.wind = .storm →
          (t.w2 - t.hysteresis ≤ v → u.weather.wind = .storm ∧ u.weather.releaseTimer = none)
          ∧ (v < t.w2 - t.hysteresis → u.weather.wind = .storm
              ∧ u.weather.releaseTimer = some (w.releaseTimer.getD (1000 * t.releaseDelay))))
      ∧ (16 ≤ b → u.weather.settled = w.settled ∧ u.weather.candidate = w.candidate
          ∧ u.weather.settleTimer = w.settleTimer)
      ∧ (b < 16 → w.settled = none ∨ (w.settled ≠ some b ∧ w.candidate ≠ some b ∧ t.settleTime = 0) →
          u.weather.settled = some b ∧ u.weather.candidate = none ∧ u.weather.settleTimer = none)
      ∧ (b < 16 → w.settled = some b →
          u.weather.settled = some b ∧ u.weather.candidate = none ∧ u.weather.settleTimer = none)
      ∧ (b < 16 → w.settled.isSome = true → w.settled ≠ some b → w.candidate = some b →
          u.weather.settled = w.settled ∧ u.weather.candidate = some b ∧ u.weather.settleTimer = w.settleTimer)
      ∧ (b < 16 → w.settled.isSome = true → w.settled ≠ some b → w.candidate ≠ some b → t.settleTime ≠ 0 →
          u.weather.settled = w.settled ∧ u.weather.candidate = some b
            ∧ u.weather.settleTimer = some (1000 * t.settleTime))
      ∧ FollowsWet s u ∧ HandsOn s u)

/-- RELEASE_TIMER_EXPIRY, SETTLE_TIMER_EXPIRY, RAIN_RELEASE_TIMER_EXPIRY and STALE_TIME_EXPIRY (R25, R27 to R29, R31, R33): the
wind state falls against the limits of the last WEATHER frame, the candidate is settled, the rain state becomes DRY, or the
record goes stale. That the limits of the last WEATHER frame, and not those of a settings write since, are in force at
RELEASE_TIMER_EXPIRY is the model's choice (log 31). -/
def Obligations.WeatherTimersExpire : Prop :=
  ∀ s : State,
    let w := s.weather
    let low := w.w1InForce - w.hystInForce
    (w.releaseTimer = some 0 → ∃ u, exec .releaseTimerExpiry s = .next (s.finish u)
        ∧ OnlyClaims { s with weather := u.weather } u ∧ KeepsClaims s u ∧ u.line = s.line ∧ HandsOn s u
        ∧ u.weather = { w with releaseTimer := none, wind :=
            if w.wind = .storm ∧ low ≤ w.lastSpeed then .windy
            else if w.wind = .storm ∨ w.wind = .windy then .calm else w.wind })
    ∧ (w.settleTimer = some 0 → ∃ u, exec .settleTimerExpiry s = .next (s.finish u)
        ∧ OnlyClaims { s with weather := u.weather } u ∧ KeepsClaims s u ∧ u.line = s.line ∧ HandsOn s u
        ∧ (w.candidate.isSome = true →
            u.weather = { w with settled := w.candidate, candidate := none, settleTimer := none }))
    ∧ (w.rainTimer = some 0 → ∃ u, exec .rainReleaseTimerExpiry s = .next (s.finish u)
        ∧ OnlyClaims { s with weather := u.weather } u ∧ KeepsClaims s u ∧ u.line = s.line ∧ HandsOn s u
        ∧ u.weather = { w with rainWet := false, rainTimer := none })
    ∧ ∀ a, w.age = some a → w.staleAt ≤ a → ∃ u, exec .staleTimeExpiry s = .next (s.finish u)
        ∧ OnlyClaims { s with weather := u.weather } u ∧ KeepsClaims s u ∧ u.line = s.line ∧ HandsOn s u
        ∧ u.weather = { w with wind := .unknown, releaseTimer := none, settled := none, candidate := none,
                               settleTimer := none, age := none, rainWet := u.weather.rainWet,
                               rainTimer := u.weather.rainTimer }
        ∧ FollowsWet s u

/-- R37, whole: a LEVEL demand d of 0..1000 gives (d × T + 500) div 1000 pulses, which lie within 0..T; 1000 gives T. The
conversion is made on a referenced channel; on an unreferenced one the demand stays the level d. -/
def Obligations.LevelInPulses : Prop :=
  (∀ d T : Nat, d ≤ 1000 → 100 ≤ T → T ≤ 60000 →
    toPulses d T = (d * T + 500) / 1000 ∧ toPulses d T ≤ T ∧ toPulses 1000 T = T ∧ toPulses 0 T = 0
      ∧ 2 * (1000 * toPulses d T) ≤ 2 * (d * T) + 1000 ∧ 2 * (d * T) < 2 * (1000 * toPulses d T) + 1001)
    ∧ ∀ (c : Channel) (d : Nat), (c.motion.referenced = true → asNumber c d = toPulses d c.profile.travel)
        ∧ (c.motion.referenced = false → asNumber c d = d)

/-- R44, whole: positions and targets reported in per mille: 0 up to 0 pulses, 1000 from the travel on, and between them
(p × 1000 + T div 2) div T; it is monotone, and from a travel of 1000 pulses it takes back the level a target came from, where
on shorter travels it need not. A report carries the position so on a referenced channel, and none on an unreferenced one. -/
def Obligations.PositionInPermille : Prop :=
  (∀ (p : Int) (T : Nat), p ≤ 0 → toPermille p T = 0)
    ∧ (∀ (p : Int) (T : Nat), 0 < p → (T : Int) ≤ p → toPermille p T = 1000)
    ∧ (∀ p T : Nat, 0 < p → p < T → toPermille p T = (p * 1000 + T / 2) / T ∧ toPermille p T ≤ 1000)
    ∧ (∀ (p q : Int) (T : Nat), 0 < T → p ≤ q → toPermille p T ≤ toPermille q T)
    ∧ (∀ d T : Nat, d ≤ 1000 → 1000 ≤ T → toPermille (toPulses d T) T = d)
    ∧ toPermille (toPulses 625 100) 100 = 630
    ∧ ∀ c : Channel, (c.motion.referenced = true → c.reported = some (toPermille c.travel.position c.profile.travel))
        ∧ (c.motion.referenced = false → c.reported = none)

/-- The selector's five stages (R34 to R42): with every slot empty the winning rank, target and queue rank are none; otherwise
the winner is the claim `claim` in the occupied slot of lowest rank, that of `cls`. -/
def Obligations.SelectorResult : Prop :=
  (∀ (w : Weather) (c : Channel), (∀ k, c.slots.get k = none) →
    evaluate w c = { winRank := none, target := .none, queueRank := none })
  ∧ ∀ (w : Weather) (c : Channel) (cls : ClaimClass) (claim : Claim), c.slots.get cls = some claim →
    (∀ k, classRank k < classRank cls → c.slots.get k = none) →
    let windy := w.wind = .windy ∨ w.wind = .storm
    let windward := ∃ b, w.settled = some b ∧ c.profile.windward.getLsbD b = true
    let conv := fun d => if c.motion.referenced then toPulses d c.profile.travel else d
    let form := fun n => if c.motion.referenced then Target.pulses n else Target.level n
    let raw : Option Nat := match claim.demand with
      | .level d => some (conv d)
      | .stay q => if c.motion.referenced then q else none
    (evaluate w c).winRank = some (classRank cls)
      ∧ (c.motion.state = .disabled → (evaluate w c).target = .none ∧ (evaluate w c).queueRank = none)
      ∧ (c.motion.state ≠ .disabled → cls = .service →
          (evaluate w c).queueRank = some 2 ∧ (evaluate w c).target = (raw.map form).getD .none)
      ∧ (c.motion.state ≠ .disabled → cls = .smoke → (evaluate w c).queueRank = some 1
          ∧ (c.profile.windDependent = true → windy → windward →
              (evaluate w c).target = form (conv c.profile.smokeWindward))
          ∧ (c.profile.windDependent = false ∨ ¬ windy ∨ ¬ windward →
              (evaluate w c).target = (raw.map form).getD .none))
      ∧ (c.motion.state ≠ .disabled → 3 ≤ classRank cls → raw = none →
          (evaluate w c).target = .none ∧ (evaluate w c).queueRank = none)
      ∧ (c.motion.state ≠ .disabled → 3 ≤ classRank cls → ∀ P, raw = some P → ∃ n r,
          (evaluate w c).target = form n ∧ (evaluate w c).queueRank = some r
          ∧ n ≤ P ∧ (w.wind = .storm → n ≤ conv c.profile.stormPosition)
          ∧ (w.rainWet = true → n ≤ conv c.profile.rainPosition)
          ∧ (windy → windward → n ≤ conv c.profile.windCeiling)
          ∧ (w.wind = .unknown → n ≤ conv c.profile.unknownCeiling)
          ∧ (n = P ∨ (w.wind = .storm ∧ n = conv c.profile.stormPosition)
              ∨ (w.rainWet = true ∧ n = conv c.profile.rainPosition)
              ∨ (windy ∧ windward ∧ n = conv c.profile.windCeiling)
              ∨ (w.wind = .unknown ∧ n = conv c.profile.unknownCeiling))
          ∧ (n < P → r = 3) ∧ (n = P → r = classRank cls))

/-! ### The channel motion engine -/

/-- R50: when a movement is needed, with which kind and in which direction, for each form of the target in hand. -/
def Obligations.MovementNeeded : Prop :=
  ∀ c : Channel,
    (c.motion.hand.target = .none → moveNeeded c = none)
      ∧ (∀ t : Nat, c.motion.hand.target = .pulses t → c.motion.referenced = true →
          ((c.profile.deadband : Int) < (t : Int) - c.travel.position → moveNeeded c = some (.positioned, .opening))
          ∧ ((c.profile.deadband : Int) < c.travel.position - (t : Int) → moveNeeded c = some (.positioned, .closing))
          ∧ (((t : Int) - c.travel.position ≤ c.profile.deadband ∧ c.travel.position - (t : Int) ≤ c.profile.deadband) →
              moveNeeded c = none))
      ∧ (∀ t : Nat, c.motion.hand.target = .pulses t → c.motion.referenced = false → moveNeeded c = none)
      ∧ (∀ d : Nat, c.motion.hand.target = .level d → c.motion.referenced = true → moveNeeded c = none)
      ∧ (∀ d : Nat, c.motion.hand.target = .level d → c.motion.referenced = false →
          (c.motion.hand.winRank = some 1 → 0 < d → c.motion.timedEst < d → moveNeeded c = some (.timed, .opening))
          ∧ (c.motion.hand.winRank = some 1 → 0 < d → d ≤ c.motion.timedEst → moveNeeded c = none)
          ∧ (c.motion.hand.winRank ≠ some 1 ∨ d = 0 → moveNeeded c = some (.reference, .closing)))

/-- A re-target outside MOVING (R46, R49, R51, R52): the target in hand is replaced and a changed one sets the retry count to 0;
IDLE tests it and may join the queue; WAITING re-sorts its entry, which keeps its entry time, or leaves the queue, and an entry
stands before the first that it precedes, by queue rank, then entry time, then channel number (R75); the other states store it;
and a share holder takes the new queue rank. That a DISABLED channel holds none in hand, while the selector's result stands, and
that the retry count goes to 0 in FAULTED too, is the model's choice (logs 26 and 34). -/
def Obligations.RetargetOutsideMoving : Prop :=
  (∀ a b : QueueEntry, queueBefore a b = true ↔ a.rank < b.rank ∨ (a.rank = b.rank
      ∧ (a.time < b.time ∨ (a.time = b.time ∧ chanIndex a.chan < chanIndex b.chan))))
  ∧ (∀ (e : QueueEntry) (q : List QueueEntry), ∃ a b, q = a ++ b ∧ insertEntry e q = a ++ e :: b
      ∧ (∀ x ∈ a, queueBefore e x = false) ∧ ∀ x rest, b = x :: rest → queueBefore e x = true)
  ∧ ∀ (s : State) (ch : Chan), (s.chan ch).motion.state ≠ .moving →
    let sel := evaluate s.weather (s.chan ch)
    let old := (s.chan ch).motion
    let u := s.retarget ch
    let c := { s.chan ch with
      selected := sel
      motion := { old with hand := sel, retry := if old.hand.target = sel.target then old.retry else 0 } }
    KeepsRest s u ∧ KeepsOthers ch s u ∧ u.reports = s.reports ∧ u.admission.budget = s.admission.budget
      ∧ u.admission.stagger = s.admission.stagger
      ∧ (old.state = .disabled →
          u.chan ch = { s.chan ch with selected := sel, motion := { old with hand := {} } } ∧ u.admission = s.admission)
      ∧ (old.state = .idle → u.chan ch = { c with motion := { c.motion with state := (u.chan ch).motion.state } }
          ∧ TestsTarget ch s.admission.queue u)
      ∧ (old.state = .waiting → (moveNeeded c).isSome = true → u.chan ch = c
          ∧ ∀ e, findChan ch s.admission.queue = some e → u.admission.queue =
              insertEntry { e with rank := sel.queueRank.getD 6 } (dropChan ch s.admission.queue))
      ∧ (old.state = .waiting → moveNeeded c = none →
          u.chan ch = { c with motion := { c.motion with state := .idle } }
          ∧ u.admission.queue = dropChan ch s.admission.queue)
      ∧ (old.state = .braking ∨ old.state = .dwell ∨ old.state = .backoff ∨ old.state = .faulted →
          u.chan ch = c ∧ u.admission.queue = s.admission.queue)
      ∧ (old.state ≠ .disabled → ∀ r, sel.queueRank = some r → u.admission.holders =
          s.admission.holders.map (fun e => if e.chan = ch then { e with rank := r } else e))

/-- A re-target in MOVING (R57 to R59): a positioned move follows a changed target in its direction, beyond the deadband, with
its new stop point still ahead, and brakes for any other; a reference run goes on for any target in another form than none that
R50 would not give to a timed move; a timed move takes the duration of a higher rank-1 level, and brakes for any other target. A
move that follows into the approach level takes the START phase out (R104). Where the move goes on, its share holder takes the
new queue rank, and the start queue stays (R49, R76, R82). That an unchanged target leaves a positioned move whole, that any
rank-1 level above 0 stops a reference run, and that the drive time of a move is kept for its estimate, and that the level is 0
as soon as drive is removed, is the model's choice (logs 8, 21, 14 and 38). -/
def Obligations.RetargetWhileMoving : Prop :=
  ∀ (s : State) (ch : Chan), (s.chan ch).motion.state = .moving →
    let sel := evaluate s.weather (s.chan ch)
    let old := (s.chan ch).motion
    let u := s.retarget ch
    let c := { s.chan ch with
      selected := sel
      motion := { old with hand := sel, retry := if old.hand.target = sel.target then old.retry else 0 } }
    let halts := HaltsMove ch c s u .stop
    ActsOn ch s u ∧ u.reports = s.reports ∧ u.admission.budget = s.admission.budget
      ∧ u.admission.stagger = s.admission.stagger
      ∧ ((u.chan ch).motion.state = .moving → u.admission.queue = s.admission.queue
          ∧ ∀ r, sel.queueRank = some r → u.admission.holders =
              s.admission.holders.map (fun e => if e.chan = ch then { e with rank := r } else e))
      ∧ (old.moveKind = some .positioned → ∀ dir, old.dir = some dir →
          (sel.target = old.hand.target → u.chan ch = c)
          ∧ (sel.target ≠ old.hand.target → ∀ t : Nat, sel.target = .pulses t →
              let stop := match dir with
                | .opening => StopPoint.atPosition ((t : Int) - c.motion.eOpen)
                | .closing => if t = 0 then .atEnd else .atPosition ((t : Int) + c.motion.eClose)
              let follows := match dir with
                | .opening => (c.profile.deadband : Int) < (t : Int) - c.travel.position
                    ∧ c.travel.position < (t : Int) - c.motion.eOpen
                | .closing => (c.profile.deadband : Int) < c.travel.position - (t : Int)
                    ∧ (t = 0 ∨ (t : Int) + c.motion.eClose < c.travel.position)
              (follows → (u.chan ch).motion = { c.motion with stop := some stop, minimum := false }
                  ∧ (u.chan ch).travel = c.travel
                  ∧ (u.chan ch).current = (if inApproach c dir stop then { c.current with startPhase := false }
                      else c.current)
                  ∧ (u.chan ch).drive = { c.drive with
                      phase := some (if inApproach c dir stop then .approach else .run) })
              ∧ (¬ follows → halts))
          ∧ (sel.target ≠ old.hand.target → (∀ t, sel.target ≠ .pulses t) → halts))
      ∧ (old.moveKind = some .reference →
          (sel.target = .none → halts)
          ∧ (∀ d, sel.target = .level d → sel.winRank = some 1 → 0 < d → halts)
          ∧ (∀ d, sel.target = .level d → sel.winRank ≠ some 1 ∨ d = 0 → u.chan ch = c))
      ∧ (old.moveKind = some .timed →
          ((∀ d, sel.target ≠ .level d) → halts)
          ∧ ∀ d, sel.target = .level d →
              let duration := (d - old.timedEst) * (s.chan ch).profile.fullTravelTime
              (sel.winRank ≠ some 1 ∨ d ≤ old.timedEst → halts)
              ∧ (sel.winRank = some 1 → old.timedEst < d → ∀ e, old.moveTimer = some e →
                  (e < duration → u.chan ch = { c with motion := { c.motion with duration } })
                  ∧ (duration ≤ e →
                      HaltsMove ch { c with motion := { c.motion with duration } } s u .arrive)))

/-- STAGGER_TIMER_EXPIRY with a head that fits (R53, R54, R80, R81, R104, R105, R112, R116, R119, R120, Table 6.6): the head
alone is admitted, the stagger timer starts again, and the channel enters MOVING with its move fixed from the target in hand,
its timers and counters started and its drive at the levels of its start; when a stop point lies ahead, and when a position lies
in its approach zone (R55, R57). The mark of a channel that a reset has stopped goes out, the model's choice (log 41). -/
def Obligations.AdmissionStartsAMove : Prop :=
  (∀ (c : Channel) (dir : Dir), stopAhead c dir .atEnd = true
      ∧ (inApproach c dir .atEnd = true ↔ c.travel.position ≤ c.profile.approachDist)
      ∧ ∀ q : Int,
          (stopAhead c .opening (.atPosition q) = true ↔ c.travel.position < q)
          ∧ (stopAhead c .closing (.atPosition q) = true ↔ q < c.travel.position)
          ∧ (inApproach c .opening (.atPosition q) = true ↔ q - c.profile.approachDist ≤ c.travel.position)
          ∧ (inApproach c .closing (.atPosition q) = true ↔ c.travel.position ≤ q + c.profile.approachDist))
  ∧ ∀ (s : State) (e : QueueEntry) (rest : List QueueEntry) (kind : MoveKind) (dir : Dir),
    s.admission.stagger = some 0 → s.settings.stagger ≠ 0 → s.admission.queue = e :: rest →
    (∀ x ∈ rest, x.chan ≠ e.chan) → 0 < s.admission.budget →
    (s.admission.holders = [] ∨ totalWeight s.admission.holders + e.weight ≤ s.admission.budget) →
    moveNeeded (s.chan e.chan) = some (kind, dir) →
    ∃ u, exec .staggerTimerExpiry s = .next u ∧ KeepsRest s u ∧ KeepsOthers e.chan s u ∧ u.reports = s.reports
      ∧ u.admission = { s.admission with
          queue := rest
          holders := s.admission.holders ++ [{ e with time := s.clock.now }]
          stagger := some s.settings.stagger }
      ∧ (let c := s.chan e.chan
         let d := u.chan e.chan
         let t : Nat := match c.motion.hand.target with | .pulses t => t | _ => 0
         let level : Nat := match c.motion.hand.target with | .level d => d | _ => 0
         let stop := match dir with
           | .opening => StopPoint.atPosition ((t : Int) - c.motion.eOpen)
           | .closing => if t = 0 then .atEnd else .atPosition ((t : Int) + c.motion.eClose)
         let minimum := kind = .positioned ∧ stopAhead c dir stop = false
         let approach := minimum ∨ kind = .reference ∨ (kind = .positioned ∧ inApproach c dir stop = true)
         d = { c with motion := d.motion, travel := d.travel, current := d.current, drive := d.drive }
          ∧ d.motion.state = .moving ∧ d.motion.moveKind = some kind ∧ d.motion.dir = some dir
          ∧ d.motion.stop = (if kind = .positioned then some stop else none)
          ∧ (d.motion.minimum = true ↔ minimum)
          ∧ (kind = .timed → d.motion.duration = (level - c.motion.timedEst) * c.profile.fullTravelTime)
          ∧ d.motion.moveTimer = some 0 ∧ d.motion.reason = none ∧ d.motion.haltCause = none
          ∧ d.motion.timedLimit = false ∧ d.motion.byReset = false ∧ d.motion.retry = c.motion.retry ∧ d.motion.hand = c.motion.hand
          ∧ d.motion.eOpen = c.motion.eOpen ∧ d.motion.eClose = c.motion.eClose
          ∧ d.motion.timedEst = c.motion.timedEst ∧ d.motion.referenced = c.motion.referenced
          ∧ d.travel = { c.travel with runCount := 0, drift := 0, stall := some (10 * c.profile.stallUnits) }
          ∧ d.current.sample = c.current.sample ∧ d.current.filter = none ∧ d.current.short = none
          ∧ d.current.blanking = (if c.profile.blanking = 0 then none else some c.profile.blanking)
          ∧ d.drive.level = (if minimum then c.profile.approachLevel else c.profile.startLevel)
          ∧ d.drive.phase = some (if approach then .approach else .run) ∧ d.drive.ramp = some 10
          ∧ (d.drive.runMark = true ↔ ¬ approach ∧ d.drive.level = c.profile.runLevel)
          ∧ (d.current.startPhase = true ↔ ¬ approach ∧ d.drive.level ≠ c.profile.runLevel)
          ∧ d.drive.legs = if s.clock.count = 199 then .startWait 2 else .startWait 1)

/-- PULSE (R60, R67, R95, R96, R98, R99): a high level of less than 20 µs counts nothing; any other moves the position counter
by one in the direction driven or last driven, holds it at its bounds, captures the period, and counts for the state it is seen
in. That the period is measured in whole steps of 0.1 ms of the time base, that the run count holds at T + 513, and that a rest
timer restarted by a pulse takes the brake settle of the profile in force, also after a PROFILE write on a FAULTED channel, is
the model's choice (logs 28, 36 and 47). Which of the two ends it takes is said in `PulseDecides`. -/
def Obligations.PulseIsCounted : Prop :=
  ∀ (s : State) (ch : Chan) (high : Nat),
    let c := s.chan ch
    (high < 20 → exec (.pulse ch high) s = .next s)
    ∧ (20 ≤ high → ∃ u, ActsOn ch s u
        ∧ (let t := s.finish u
           exec (.pulse ch high) s = .next t ∨ exec (.pulse ch high) s = .next (t.finish (t.retarget ch)))
        ∧ (c.motion.state ≠ .disabled → c.motion.dir = some .opening →
            (u.chan ch).travel.position = min (c.travel.position + 1) ((c.profile.travel : Int) + 512))
        ∧ (c.motion.state ≠ .disabled → c.motion.dir = some .closing →
            (u.chan ch).travel.position = max (c.travel.position - 1) (-512))
        ∧ (c.motion.state = .disabled ∨ c.motion.dir = none → (u.chan ch).travel.position = c.travel.position)
        ∧ (u.chan ch).travel.lastPulse = some (s.clock.now * 10 + s.clock.sub / 8000)
        ∧ (c.travel.lastPulse = none → (u.chan ch).travel.period = c.travel.period)
        ∧ (∀ p, c.travel.lastPulse = some p →
            (u.chan ch).travel.period = min 65535 (s.clock.now * 10 + s.clock.sub / 8000 - p))
        ∧ (u.chan ch).travel.runCount =
            (if c.motion.state = .moving then min (c.travel.runCount + 1) (c.profile.travel + 513) else c.travel.runCount)
        ∧ (u.chan ch).motion.backoffCount =
            (if c.motion.state = .backoff then c.motion.backoffCount + 1 else c.motion.backoffCount)
        ∧ (isDriven c.motion.state = true → isDriven (u.chan ch).motion.state = true →
            (u.chan ch).travel.stall = some (10 * c.profile.stallUnits))
        ∧ (c.motion.state = .braking → (u.chan ch).motion.state = .braking →
            (u.chan ch).motion.coast = c.motion.coast + 1
              ∧ (u.chan ch).motion.settleTimer = some (10 * c.profile.settleUnits))
        ∧ (c.motion.state = .faulted → (u.chan ch).motion.restTimer = some (10 * c.profile.settleUnits)))

/-- What a pulse decides (R55, R56, R67, R70, R73, R96, R104): TRAVEL at a bound or past a reference run's length; the arrival
of a positioned move at its stop point or of a minimum move at its first pulse; the approach zone, which takes the START phase
out; the end of a backoff; the loss of the reference past the drift limit, where the leave of the start queue and the re-target
are two events, each with its admission evaluation; and the start or the end of a wait to drive a drifted vent back. Any other
pulse is counted and does nothing else: one in BRAKING, FAULTED or DISABLED, in a reference run or a timed move, or at rest on
an unreferenced channel. The model's choice are the stop point and the move kind that a fault clears (log 16), the after-backoff
mark that it clears (log 15), the run and drift counts taken with the pulse that raises them (log 25), TRAVEL at a bound where
the counter already stood (log 35), the drive time kept (log 14), the level of 0 as drive is removed (log 38) and the two
evaluations (log 4). -/
def Obligations.PulseDecides : Prop :=
  ∀ (s : State) (ch : Chan) (high : Nat), 20 ≤ high →
    let c := (s.chan ch).countPulse s.clock.tenths
    let p := c.travel.position
    let T := c.profile.travel
    let bound := c.motion.state ≠ .disabled ∧ c.motion.state ≠ .faulted
      ∧ ((c.motion.referenced = true ∧ c.motion.dir.isSome = true ∧ (p = -512 ∨ p = (T : Int) + 512))
        ∨ (c.motion.state = .moving ∧ c.motion.moveKind = some .reference ∧ T + 512 < (s.chan ch).travel.runCount + 1))
    let lost := ¬ bound ∧ c.motion.referenced = true
      ∧ (c.motion.state = .idle ∨ c.motion.state = .waiting ∨ c.motion.state = .dwell)
      ∧ c.profile.driftLimit < (s.chan ch).travel.drift + 1
    ∃ u, ActsOn ch s u
      ∧ (¬ lost → exec (.pulse ch high) s = .next (s.finish u))
      ∧ (lost → exec (.pulse ch high) s = .next (let t := s.finish u; t.finish (t.retarget ch)))
      ∧ (bound → FaultsWith ch c s u .travel)
      ∧ (¬ bound → c.motion.state = .moving → c.motion.moveKind = some .positioned → ∀ dir stop,
          c.motion.dir = some dir → c.motion.stop = some stop →
          (c.motion.minimum = true ∨ stopAhead c dir stop = false → HaltsMove ch c s u .arrive)
          ∧ (c.motion.minimum = false → stopAhead c dir stop = true → inApproach c dir stop = true →
              u.admission = s.admission ∧ u.reports = s.reports ∧ u.chan ch = { c with
                drive := { c.drive with phase := some .approach }, current := { c.current with startPhase := false } })
          ∧ (c.motion.minimum = false → stopAhead c dir stop = true → inApproach c dir stop = false →
              u.chan ch = c ∧ u.admission = s.admission ∧ u.reports = s.reports))
      ∧ (¬ bound → c.motion.state = .backoff →
          (c.profile.backoffDist ≤ c.motion.backoffCount → HaltsMove ch c s u .stop true)
          ∧ (c.motion.backoffCount < c.profile.backoffDist →
              u.chan ch = c ∧ u.admission = s.admission ∧ u.reports = s.reports))
      ∧ (¬ bound →
          c.motion.state = .braking ∨ c.motion.state = .faulted ∨ c.motion.state = .disabled
            ∨ (c.motion.state = .moving
                ∧ (c.motion.moveKind ≠ some .positioned ∨ c.motion.dir = none ∨ c.motion.stop = none))
            ∨ (c.motion.referenced = false
                ∧ (c.motion.state = .idle ∨ c.motion.state = .waiting ∨ c.motion.state = .dwell)) →
          u.chan ch = c ∧ u.admission = s.admission ∧ u.reports = s.reports)
      ∧ (lost →
          u.chan ch = { c with
            motion := { c.motion with
              referenced := false, timedEst := 0, state := if c.motion.state = .waiting then .idle else c.motion.state }
            travel := { c.travel with drift := 0 } }
          ∧ u.admission = (if c.motion.state = .waiting then
              { s.admission with queue := dropChan ch s.admission.queue } else s.admission)
          ∧ u.reports = (s.post {
              kind := .drift, chan := some ch, position := none, rank := c.motion.hand.winRank,
              detail := { b5 := byteOf c.profile.driftLimit } }).reports)
      ∧ (¬ bound → ¬ lost → c.motion.referenced = true →
          c.motion.state = .idle ∨ c.motion.state = .waiting ∨ c.motion.state = .dwell →
          u.reports = s.reports ∧ (u.chan ch).motion.referenced = true
            ∧ u.admission = { s.admission with queue := u.admission.queue }
            ∧ u.chan ch = { c with motion := { c.motion with state := (u.chan ch).motion.state } }
            ∧ (u.chan ch).travel.drift = min ((s.chan ch).travel.drift + 1) 255
            ∧ (c.motion.state = .idle → TestsTarget ch s.admission.queue u)
            ∧ (c.motion.state = .waiting → moveNeeded c = none →
                (u.chan ch).motion.state = .idle ∧ u.admission.queue = dropChan ch s.admission.queue)
            ∧ (c.motion.state = .dwell ∨ (c.motion.state = .waiting ∧ moveNeeded c ≠ none) →
                u.chan ch = c ∧ u.admission = s.admission))

/-- STALL_TIMER_EXPIRY, FILTER_TIMER_EXPIRY and SHORT_FILTER_EXPIRY (R65, R67, R70, R100, R101, R107, R108, Tables 5.2 and 5.5):
in the end zone ahead of a positioned move and in a reference run they are end detection; elsewhere in a positioned move a stall
faults and an exceedance is an obstruction; they end a timed move and a backoff; a filtered short faults. That a fault clears
the stop point, the move kind and the after-backoff mark, that the drive time of a move is kept, and that the level is 0 as
drive is removed, is the model's choice (logs 16, 15, 14 and 38). -/
def Obligations.StallAndExceedance : Prop :=
  ∀ (s : State) (ch : Chan) (c : Channel), c = s.chan ch →
    let zone := fun dir => match dir with
      | Dir.closing => c.travel.position ≤ (c.profile.endZone : Int)
      | .opening => (c.profile.travel : Int) - c.profile.endZone ≤ c.travel.position
    (c.travel.stall = some 0 → ∃ u, exec (.stallTimerExpiry ch) s = .next (s.finish u) ∧ ActsOn ch s u
      ∧ (c.motion.state = .moving → c.motion.moveKind = some .reference → HaltsMove ch c s u .endReached)
      ∧ (c.motion.state = .moving → c.motion.moveKind = some .positioned → ∀ dir, c.motion.dir = some dir →
          (zone dir → HaltsMove ch c s u .endReached) ∧ (¬ zone dir → FaultsWith ch c s u .stalled))
      ∧ (c.motion.state = .moving → c.motion.moveKind = some .timed → HaltsMove ch c s u .arrive)
      ∧ (c.motion.state = .backoff → HaltsMove ch c s u .stop true))
    ∧ (c.current.filter = some 0 → ∃ u, exec (.filterTimerExpiry ch) s = .next (s.finish u) ∧ ActsOn ch s u
      ∧ (c.motion.state = .moving → c.motion.moveKind = some .reference → HaltsMove ch c s u .endReached)
      ∧ (c.motion.state = .moving → c.motion.moveKind = some .positioned → ∀ dir, c.motion.dir = some dir →
          (zone dir → HaltsMove ch c s u .endReached) ∧ (¬ zone dir → HaltsMove ch c s u .obstruct))
      ∧ (c.motion.state = .moving → c.motion.moveKind = some .timed →
          HaltsMove ch { c with motion := { c.motion with timedLimit := true } } s u .arrive)
      ∧ (c.motion.state = .backoff → HaltsMove ch c s u .stop true))
    ∧ (c.current.short = some 0 → isDriven c.motion.state = true →
        ∃ u, exec (.shortFilterExpiry ch) s = .next (s.finish u) ∧ ActsOn ch s u ∧ FaultsWith ch c s u .short)

/-- BRAKE_SETTLE_EXPIRY of BRAKING(ARRIVE) (R59, R61, R62): the overrun is learnt after a positioned move and the timed estimate
after a timed one, the retry count is 0, ARRIVED is posted, and the target in hand is tested, which is kept with the direction
last driven and all else of the channel but its leg. That the estimate takes the drive time kept when drive was removed, and
that the move kind goes with BRAKING and its stop point, is the model's choice (logs 14 and 16). -/
def Obligations.BrakingArrives : Prop :=
  ∀ (s : State) (ch : Chan) (c : Channel), c = s.chan ch → c.motion.state = .braking → c.motion.settleTimer = some 0 →
    c.motion.reason = some .arrive →
    let coast : Int := min (c.motion.coast : Int) 255
    let learn := fun e : Nat => (max 0 (min 255 ((e : Int) + Int.tdiv (coast - e) 4))).toNat
    ∃ u, exec (.brakeSettleExpiry ch) s = .next (s.finish u) ∧ ActsOn ch s u
      ∧ LeavesBraking c (u.chan ch) ∧ TestsTarget ch s.admission.queue u ∧ (u.chan ch).motion.retry = 0
      ∧ u.chan ch = { c with
          motion := { c.motion with
            state := (u.chan ch).motion.state, settleTimer := none, stop := none, moveKind := none, retry := 0,
            eOpen := (u.chan ch).motion.eOpen, eClose := (u.chan ch).motion.eClose,
            timedEst := (u.chan ch).motion.timedEst }
          drive := { c.drive with legs := (u.chan ch).drive.legs } }
      ∧ (u.chan ch).motion.referenced = c.motion.referenced ∧ (u.chan ch).travel.position = c.travel.position
      ∧ (u.chan ch).motion.eOpen =
          (if c.motion.moveKind = some .positioned ∧ c.motion.dir = some .opening then learn c.motion.eOpen
           else c.motion.eOpen)
      ∧ (u.chan ch).motion.eClose =
          (if c.motion.moveKind = some .positioned ∧ c.motion.dir = some .closing then learn c.motion.eClose
           else c.motion.eClose)
      ∧ (u.chan ch).motion.timedEst =
          (if c.motion.moveKind = some .timed then
            min 1000 (c.motion.timedEst + c.motion.driveTime / c.profile.fullTravelTime) else c.motion.timedEst)
      ∧ u.admission = { s.admission with queue := u.admission.queue }
      ∧ u.reports = (s.post {
          kind := .arrived, chan := some ch, position := c.reported, rank := c.motion.hand.winRank,
          detail := { b5 := if c.motion.timedLimit then 1 else 0 } }).reports

/-- BRAKE_SETTLE_EXPIRY of BRAKING(END) (R63): the counter stands at the end reached, the channel is referenced, and ARRIVED is
posted with 0 or 1000 per mille; after a reference run REFERENCED is posted too and the selector evaluates the channel; then the
target in hand is tested. The direction last driven, the overruns and all else of the channel but its leg are kept. -/
def Obligations.BrakingReachesTheEnd : Prop :=
  ∀ (s : State) (ch : Chan) (c : Channel), c = s.chan ch → c.motion.state = .braking → c.motion.settleTimer = some 0 →
    c.motion.reason = some .endReached → 0 < c.profile.travel →
    let arrived := s.post {
      kind := .arrived, chan := some ch, rank := c.motion.hand.winRank,
      position := some (if c.motion.dir = some .opening then 1000 else 0), detail := { b5 := 0 } }
    ∃ u, exec (.brakeSettleExpiry ch) s = .next (s.finish u) ∧ ActsOn ch s u
      ∧ LeavesBraking c (u.chan ch) ∧ (u.chan ch).motion.referenced = true
      ∧ (u.chan ch).travel.position = (if c.motion.dir = some .opening then (c.profile.travel : Int) else 0)
      ∧ (u.chan ch).motion.eOpen = c.motion.eOpen ∧ (u.chan ch).motion.eClose = c.motion.eClose
      ∧ (u.chan ch).motion.retry = 0
      ∧ TestsTarget ch s.admission.queue u
      ∧ u.chan ch = { c with
          selected := (u.chan ch).selected
          motion := { c.motion with
            state := (u.chan ch).motion.state, settleTimer := none, stop := none, moveKind := (u.chan ch).motion.moveKind,
            retry := 0, referenced := true, hand := (u.chan ch).motion.hand }
          travel := { c.travel with position := (u.chan ch).travel.position }
          drive := { c.drive with legs := (u.chan ch).drive.legs } }
      ∧ u.admission = { s.admission with queue := u.admission.queue, holders := u.admission.holders }
      ∧ (c.motion.moveKind ≠ some .reference ∨ (∀ e ∈ s.admission.holders, e.chan ≠ ch) →
          u.admission.holders = s.admission.holders)
      ∧ (c.motion.moveKind = some .reference → Evaluated u.weather (u.chan ch)
          ∧ u.reports = (arrived.post {
              kind := .referenced, chan := some ch, position := some 0, rank := c.motion.hand.winRank,
              detail := { b5 := 0 } }).reports)
      ∧ (c.motion.moveKind ≠ some .reference → (u.chan ch).motion.hand = c.motion.hand
          ∧ (u.chan ch).selected = c.selected ∧ u.reports = arrived.reports)

/-- BRAKE_SETTLE_EXPIRY of BRAKING(STOP) (R59, R64, R67, R170, R175): HALTED is posted when a halt cause is held, and ARRIVED
when a STATION RESET began the braking; after a backoff, or when the movement now needed is against the last direction, the
channel enters DWELL; in the same direction it joins the start queue; otherwise it is IDLE. The target in hand, the direction
last driven and all else of the channel but its leg are kept. Which brakings a reset begins is the model's choice (log 41), and
so are the drive time kept and the move kind that goes with the stop point (logs 14 and 16). -/
def Obligations.BrakingStops : Prop :=
  ∀ (s : State) (ch : Chan) (c : Channel), c = s.chan ch → c.motion.state = .braking → c.motion.settleTimer = some 0 →
    c.motion.reason = some .stop →
    ∃ u, exec (.brakeSettleExpiry ch) s = .next (s.finish u) ∧ ActsOn ch s u ∧ LeavesBraking c (u.chan ch)
      ∧ (u.chan ch).motion.haltCause = none ∧ (u.chan ch).motion.afterBackoff = false
      ∧ u.chan ch = { c with
          motion := { c.motion with
            state := (u.chan ch).motion.state, settleTimer := none, stop := none, moveKind := none, haltCause := none,
            afterBackoff := false, timedEst := (u.chan ch).motion.timedEst, dwellTimer := (u.chan ch).motion.dwellTimer }
          drive := { c.drive with legs := (u.chan ch).drive.legs } }
      ∧ u.admission = { s.admission with queue := u.admission.queue }
      ∧ (u.chan ch).motion.retry = c.motion.retry ∧ (u.chan ch).travel = c.travel ∧ (u.chan ch).motion.hand = c.motion.hand
      ∧ (u.chan ch).motion.timedEst =
          (if c.motion.moveKind = some .timed then
            min 1000 (c.motion.timedEst + c.motion.driveTime / c.profile.fullTravelTime) else c.motion.timedEst)
      ∧ (let halted := match c.motion.haltCause with
           | none => s
           | some cause => s.post {
               kind := .halted, chan := some ch, position := c.reported, rank := c.motion.hand.winRank,
               detail := { b5 := match cause with | .shed => 1 | .preempt => 2 | .supply => 3 | .thermal => 4 } }
         (c.motion.byReset = false → u.reports = halted.reports)
          ∧ (c.motion.byReset = true → u.reports = (halted.post {
              kind := .arrived, chan := some ch, position := c.reported, rank := c.motion.hand.winRank,
              detail := { b5 := 0 } }).reports))
      ∧ (c.motion.afterBackoff = true ∨ (∃ k d, moveNeeded (u.chan ch) = some (k, d) ∧ c.motion.dir ≠ some d) →
          (u.chan ch).motion.state = .dwell ∧ (u.chan ch).motion.dwellTimer = some (20 * c.profile.reverseUnits)
            ∧ u.admission = s.admission)
      ∧ (c.motion.afterBackoff = false → (∀ k d, moveNeeded (u.chan ch) = some (k, d) → c.motion.dir = some d) →
          TestsTarget ch s.admission.queue u ∧ (u.chan ch).motion.dwellTimer = c.motion.dwellTimer)

/-- BRAKE_SETTLE_EXPIRY of BRAKING(OBSTRUCT) (R66, R67): at the retry limit the channel faults with OBSTRUCTED; below it the
count rises by one and the channel backs off against the obstructed direction at the start level, keeping its share, or goes to
DWELL and releases it when the backoff distance is 0, with its target in hand and all else kept. That the fault clears the stop
point and the move kind, and the end of BRAKING the move kind with the stop point, is the model's choice (log 16), and so are
the after-backoff mark that the fault clears (log 15), the drive time kept (log 14) and the level of 0 as drive is removed (log
38). -/
def Obligations.BrakingObstructs : Prop :=
  ∀ (s : State) (ch : Chan) (c : Channel), c = s.chan ch → c.motion.state = .braking → c.motion.settleTimer = some 0 →
    c.motion.reason = some .obstruct →
    ∃ u, exec (.brakeSettleExpiry ch) s = .next (s.finish u) ∧ ActsOn ch s u
      ∧ (c.profile.retryLimit ≤ c.motion.retry →
          FaultsWith ch { c with motion := { c.motion with settleTimer := none } } s u .obstructed)
      ∧ (c.motion.retry < c.profile.retryLimit → LeavesBraking c (u.chan ch) ∧ u.reports = s.reports
          ∧ (u.chan ch).motion.retry = c.motion.retry + 1 ∧ u.admission.queue = s.admission.queue
          ∧ (c.profile.backoffDist = 0 →
              u.chan ch = { c with
                motion := { c.motion with
                  state := .dwell, dwellTimer := some (20 * c.profile.reverseUnits), retry := c.motion.retry + 1,
                  settleTimer := none, stop := none, moveKind := none }
                drive := { c.drive with legs := (u.chan ch).drive.legs } }
              ∧ u.admission = { s.admission with holders := dropChan ch s.admission.holders })
          ∧ (c.profile.backoffDist ≠ 0 →
              (c.motion.dir = some .opening → (u.chan ch).motion.dir = some .closing)
              ∧ (c.motion.dir = some .closing → (u.chan ch).motion.dir = some .opening)
              ∧ u.chan ch = { c with
                motion := { c.motion with
                  state := .backoff, backoffCount := 0, dir := (u.chan ch).motion.dir, retry := c.motion.retry + 1,
                  settleTimer := none, stop := none, moveKind := none }
                travel := { c.travel with stall := some (10 * c.profile.stallUnits) }
                current := { c.current with
                  startPhase := false, filter := none, short := none,
                  blanking := if c.profile.blanking = 0 then none else some c.profile.blanking }
                drive := { level := c.profile.startLevel, phase := some .start, ramp := none, runMark := false,
                           legs := if s.clock.count = 199 then .startWait 2 else .startWait 1 } }
              ∧ u.admission = s.admission))

/-- REVERSE_DWELL_EXPIRY, TIMED_DURATION_REACHED, REST_TIMER_EXPIRY, BLANKING_TIMER_EXPIRY and PULSE_PERIOD_TIMEOUT (R59, R68,
R71, R98, R105). That a timed duration not yet reached and a pulse-period bound not yet passed change nothing is the model's
choice (log 2). That the time since the last pulse is measured in whole steps of 0.1 ms, that the drive time of the timed move
is kept, and that the level is 0 as drive is removed, is the model's choice too (logs 28, 14 and 38). -/
def Obligations.SmallTimersExpire : Prop :=
  ∀ (s : State) (ch : Chan) (c : Channel), c = s.chan ch →
    (c.motion.state = .dwell → c.motion.dwellTimer = some 0 →
      ∃ u, exec (.reverseDwellExpiry ch) s = .next (s.finish u) ∧ ActsOn ch s u ∧ u.reports = s.reports
        ∧ u.chan ch = { c with motion := { c.motion with dwellTimer := none, state := (u.chan ch).motion.state } }
        ∧ TestsTarget ch s.admission.queue u ∧ u.admission = { s.admission with queue := u.admission.queue })
    ∧ (∀ e, c.motion.state = .moving → c.motion.moveKind = some .timed → c.motion.moveTimer = some e →
        (c.motion.duration ≤ e → ∃ u, exec (.timedDurationReached ch) s = .next (s.finish u) ∧ ActsOn ch s u
          ∧ HaltsMove ch c s u .arrive)
        ∧ (e < c.motion.duration → exec (.timedDurationReached ch) s = .next s))
    ∧ (c.motion.restTimer = some 0 → exec (.restTimerExpiry ch) s =
        .next { s with chans := s.chans.set ch { c with motion := { c.motion with restTimer := none } } })
    ∧ (c.current.blanking = some 0 → exec (.blankingTimerExpiry ch) s =
        .next { s with chans := s.chans.set ch { c with current := { c.current with blanking := none } } })
    ∧ ∀ p, c.travel.lastPulse = some p →
        (p + 65535 ≤ s.clock.now * 10 + s.clock.sub / 8000 → exec (.pulsePeriodTimeout ch) s =
          .next { s with chans := s.chans.set ch { c with travel := { c.travel with period := 65535 } } })
        ∧ (s.clock.now * 10 + s.clock.sub / 8000 < p + 65535 → exec (.pulsePeriodTimeout ch) s = .next s)

/-- CURRENT_SAMPLE (R101, R102, R103, R105, R106, R108, Table 5.4): the sample is stored; on a driven channel it is compared
with the active limit, unless blanking runs, and with the short limit, blanking or not; above a limit the filter starts or runs
on, and otherwise it stops; on a channel that is not driven no filter is touched. The last sampled current is 0 until the first
PWM period after power-on reset has run (R102); that a sample of that period becomes it as the period ends is the model's
inference (log 44). -/
def Obligations.CurrentIsSupervised : Prop :=
  ∀ (s : State) (ch : Chan) (v : Nat) (c : Channel), c = s.chan ch → v ≤ 255 →
    ∃ u d, exec (.currentSample ch v) s = .next u ∧ u = { s with chans := s.chans.set ch { c with current := d } }
      ∧ u.lastSampled ch = (if s.clock.firstRun then v else 0)
      ∧ d.sample = v ∧ d.startPhase = c.current.startPhase ∧ d.blanking = c.current.blanking
      ∧ (isDriven c.motion.state = false → d = { c.current with sample := v })
      ∧ (isDriven c.motion.state = true →
          d.short = (if c.profile.shortLimit < v then some (c.current.short.getD 1) else none))
      ∧ ∀ limit : Nat,
          (c.motion.state = .backoff ∧ limit = c.profile.startLimit)
          ∨ (c.motion.state = .moving ∧ c.motion.moveKind = some .reference ∧ limit = c.profile.endLimit)
          ∨ (c.motion.state = .moving ∧ c.motion.moveKind = some .timed
              ∧ limit = if c.current.startPhase then c.profile.startLimit else c.profile.runLimit)
          ∨ (c.motion.state = .moving ∧ c.motion.moveKind = some .positioned ∧ ∃ dir, c.motion.dir = some dir
              ∧ limit = if (match dir with
                  | .closing => decide (c.travel.position ≤ c.profile.endZone)
                  | .opening => decide ((c.profile.travel : Int) - c.profile.endZone ≤ c.travel.position))
                then c.profile.endLimit
                  else if c.current.startPhase then c.profile.startLimit else c.profile.runLimit) →
          (c.current.blanking.isSome = true → d.filter = none)
          ∧ (c.current.blanking = none → d.filter =
              if limit < v then some (c.current.filter.getD c.profile.filter) else none)

/-- Every step keeps the motion engines, the drive generators and the admission unit in agreement (R46, R47, R71, R75 to R77,
R80, R99, R105, R106, R108, R115, R118). That the drive level is 0 from the transition on is the model's choice (log 38), and so
is the clearing of the stop point by a fault (log 16); so is the mark of a braking that a STATION RESET began, which no share
holder has (log 41). -/
def Obligations.MotionInvariant : Prop :=
  ∀ s t : State, MotionOk s → RangesOk s → step s = .next t → MotionOk t

/-- R47: after a step, no channel is driven while the supply state is CUT or OVER or the thermal state is SHUT. That its drive
level is then 0 at once is the model's choice (log 38). -/
def Obligations.NoDriveWithoutSupply : Prop :=
  ∀ s t : State, MotionOk s → RangesOk s → step s = .next t →
    t.supply.state = .cut ∨ t.supply.state = .overVolt ∨ t.thermal.state = .shut →
    ∀ ch, isDriven (t.chan ch).motion.state = false ∧ (t.chan ch).driveDir = none
      ∧ (t.chan ch).drive.legs.isDriving = false ∧ (t.chan ch).drive.level = 0

/-- Every step keeps the stored values in the ranges of their tables (Tables 1.1, 1.2, 2.1, 2.4, 3.2, 5.1, 5.3, 6.1, 7.1, 8.1, 10.2
and 10.3), and with them the limits and thresholds in force (log 31). -/
def Obligations.StoredValuesInRange : Prop :=
  ∀ s t : State, MotionOk s → RangesOk s → step s = .next t → RangesOk t

/-! ### The admission unit, the supply and the temperature -/

/-- R79 to R81: the evaluation that ends an event admits, preempts and sheds, and does nothing else; with the stagger timer
running or the budget 0 it does nothing; after it the head, if any, fails one of the conditions of R80; and STAGGER_TIMER_EXPIRY
raises one. That it comes once, at the end of the event, and only when the event changed the admission unit, is the model's choice
(log 4). -/
def Obligations.EvaluationStartsAndSheds : Prop :=
  (∀ s u : State, StartsAndSheds u (s.finish u) ∧ (s.admission = u.admission → s.finish u = u))
    ∧ (∀ s : State, s.admission.stagger.isSome = true ∨ s.admission.budget = 0 → s.evaluateAdmission = s)
    ∧ (∀ (s : State) (e : QueueEntry) (rest : List QueueEntry), s.evaluateAdmission.admission.queue = e :: rest →
        let v := s.evaluateAdmission
        v.admission.stagger.isSome = true ∨ v.admission.budget = 0
          ∨ (v.admission.holders ≠ [] ∧ v.admission.budget < totalWeight v.admission.holders + e.weight))
    ∧ ∀ s : State, s.admission.stagger = some 0 → exec .staggerTimerExpiry s =
        .next { s with admission := { s.admission with stagger := none } }.evaluateAdmission

/-- R69, R77, R78, R80 and R83: the effective budget of Table 4.2. Shed order is the highest queue rank first, then the latest
admission, then the highest channel number. A budget that falls sheds in it until the law of R76 holds again, and no further:
every channel shed was needed, and above a budget of 0 a holder is left. A head of queue rank 1 that fails for room alone
preempts: holders of queue rank 4 to 6 alone are shed, in shed order, until the head fits or none is left, and no further, with
the cause PREEMPT; then it is admitted if it fits. A head of another rank that fails preempts none. Every channel shed brakes
with its cause, and every other stands. That the drive level of a channel shed is 0 at once, and that its drive time is kept, is
the model's choice (logs 38 and 14). -/
def Obligations.ShedsInShedOrder : Prop :=
  (∀ a b : QueueEntry, shedBefore a b = true ↔ b.rank < a.rank ∨ (a.rank = b.rank
      ∧ (b.time < a.time ∨ (a.time = b.time ∧ chanIndex b.chan < chanIndex a.chan))))
  ∧ (∀ (t : Settings) (p : SupplyState) (h : ThermalState), budgetOf t p h =
      match h, p with
      | .shut, _ => 0
      | _, .cut => 0
      | _, .overVolt => 0
      | .normal, .normal => t.normalBudget
      | .normal, .low => t.lowBudget
      | .warn, .normal => t.normalBudget / 2
      | .warn, .low => t.lowBudget / 2)
    ∧ (∀ (s : State) (cause : HaltCause), s.admission.holders.Pairwise (fun a b => a.chan ≠ b.chan) →
        let u := s.rebudget cause
        let fits := fun l : List QueueEntry =>
          l = [] ∨ (0 < u.admission.budget ∧ (l.length ≤ 1 ∨ totalWeight l ≤ u.admission.budget))
        u = { s with chans := u.chans, admission := u.admission } ∧ KeepsClaims s u
          ∧ u.admission.budget = budgetOf s.settings s.supply.state s.thermal.state
          ∧ u.admission.queue = s.admission.queue ∧ u.admission.stagger = s.admission.stagger
          ∧ u.admission.holders.Sublist s.admission.holders
          ∧ (s.admission.budget ≤ u.admission.budget → u.chans = s.chans ∧ u.admission.holders = s.admission.holders)
          ∧ (u.admission.budget < s.admission.budget → fits u.admission.holders)
          ∧ (0 < u.admission.budget → s.admission.holders ≠ [] → u.admission.holders ≠ [])
          ∧ (∀ e ∈ s.admission.holders, e ∉ u.admission.holders →
              (∀ f ∈ u.admission.holders, shedBefore e f = true)
              ∧ ¬ fits (s.admission.holders.filter (fun f => f = e ∨ shedBefore e f = true))
              ∧ IsShed cause (s.chan e.chan) (u.chan e.chan))
          ∧ ∀ ch, (∀ e ∈ s.admission.holders, e.chan = ch → e ∈ u.admission.holders) → u.chan ch = s.chan ch)
    ∧ (∀ (s : State) (e : QueueEntry), s.admission.holders.Pairwise (fun a b => a.chan ≠ b.chan) →
        let u := s.preempt e
        u = { s with chans := u.chans, admission := { s.admission with holders := u.admission.holders } }
          ∧ u.admission.holders.Sublist s.admission.holders
          ∧ (u.admission.holders = [] ∨ totalWeight u.admission.holders + e.weight ≤ u.admission.budget
              ∨ ∀ h ∈ u.admission.holders, h.rank < 4)
          ∧ (∀ h ∈ s.admission.holders, h ∉ u.admission.holders → 4 ≤ h.rank
              ∧ (∀ f ∈ u.admission.holders, 4 ≤ f.rank → shedBefore h f = true)
              ∧ s.admission.budget < e.weight + totalWeight
                  (s.admission.holders.filter (fun f => f.rank < 4 ∨ f = h ∨ shedBefore h f = true))
              ∧ IsShed .preempt (s.chan h.chan) (u.chan h.chan))
          ∧ ∀ ch, (∀ h ∈ s.admission.holders, h.chan = ch → h ∈ u.admission.holders) → u.chan ch = s.chan ch)
    ∧ ∀ (s : State) (e : QueueEntry) (rest : List QueueEntry), s.admission.queue = e :: rest →
        (∀ x ∈ rest, x.chan ≠ e.chan) → s.admission.stagger = none → 0 < s.admission.budget → s.admission.holders ≠ [] →
        s.admission.budget < totalWeight s.admission.holders + e.weight →
        let v := s.preempt e
        let fits := v.admission.holders = [] ∨ totalWeight v.admission.holders + e.weight ≤ v.admission.budget
        (e.rank ≠ 1 → s.evaluateAdmission = s)
          ∧ (e.rank = 1 → ¬ fits → s.evaluateAdmission = v)
          ∧ (e.rank = 1 → fits → s.evaluateAdmission = (v.admitHead e).evaluateAdmission)

/-- FIRST_SUPPLY_MEASUREMENT, SUPPLY_MEASUREMENT, HOLD_OFF_EXPIRY and THERMAL_MEASUREMENT (R77, R78, R86 to R89, R91 to R93,
Tables 4.2 and 4.4): the measurement, the state it gives, the hold-off and the latch, the thresholds that come into force with
it, the report of a change with its detail bytes (Table 11.2) and the budget it brings, with the cause of the sheds. That the
first measurement leaves the latch as it stands, under LATCHED too, and that the level of a channel shed is 0 at once, is the
model's choice (logs 23 and 38), and so is that HOLD_OFF_EXPIRY compares with the thresholds of the last measurement, not with
those of a settings write since (log 31). -/
def Obligations.MonitorsFollowMeasurements : Prop :=
  ∀ s : State,
    (∀ a b c d : Nat, s.supply.formed = false → a ≤ 400 → b ≤ 400 → c ≤ 400 → d ≤ 400 →
      let m := (a + b + c + d) / 4
      let state : SupplyState := if m < s.settings.cutVolt then .cut else if s.settings.overVolt ≤ m then .overVolt
        else if m < s.settings.lowVolt then .low else .normal
      ∃ u, exec (.firstSupplyMeasurement a b c d) s = .next (s.finish u)
        ∧ u.supply = { s.supply with
            samples := [d, c, b, a], measured := m, formed := true, state, cutInForce := s.settings.cutVolt
            lowInForce := s.settings.lowVolt, overInForce := s.settings.overVolt }
        ∧ BudgetFollows { s with supply := u.supply } (if state = .cut ∨ state = .overVolt then .supply else .shed) u
        ∧ u.reports = (if state = .normal then s.reports else (s.post { kind := .supply, detail := {
            b5 := match state with | .normal => 0 | .low => 1 | .cut => 2 | .overVolt => 3
            b6 := byteOf (m / 256), b7 := byteOf m, b8 := if s.supply.latch then 1 else 0 } }).reports))
    ∧ (∀ v : Nat, s.supply.formed = true → v ≤ 400 →
      let samples := v :: s.supply.samples.take 3
      let m := samples.sum / 4
      let t := s.settings
      let p := { s.supply with
        samples, measured := m, cutInForce := t.cutVolt, lowInForce := t.lowVolt, overInForce := t.overVolt }
      let next : SupplyState := match s.supply.state with
        | .normal => if t.overVolt ≤ m then .overVolt else if m < t.cutVolt then .cut else if m < t.lowVolt then .low
            else .normal
        | .low => if t.overVolt ≤ m then .overVolt else if m < t.cutVolt then .cut
            else if t.lowVolt + 5 ≤ m then .normal else .low
        | .overVolt => if m < t.cutVolt then .cut else if t.overVolt ≤ m + 5 then .overVolt
            else if m < t.lowVolt then .low else .normal
        | .cut => .cut
      (s.supply.state ≠ .cut → next = s.supply.state → exec (.supplyMeasurement v) s = .next { s with supply := p })
      ∧ (s.supply.state ≠ .cut → next ≠ s.supply.state →
          ∃ u, exec (.supplyMeasurement v) s = .next (s.finish u) ∧ SupplyBecomes { s with supply := p } next u)
      ∧ (s.supply.state = .cut → m < t.cutVolt + 5 →
          exec (.supplyMeasurement v) s = .next { s with supply := { p with holdOff := none } })
      ∧ (s.supply.state = .cut → t.cutVolt + 5 ≤ m → s.supply.latch = true ∨ s.supply.holdOff.isSome = true →
          exec (.supplyMeasurement v) s = .next { s with supply := p })
      ∧ (s.supply.state = .cut → t.cutVolt + 5 ≤ m → s.supply.latch = false → s.supply.holdOff = none →
          (t.holdOff ≠ 0 → exec (.supplyMeasurement v) s = .next { s with supply := { p with holdOff := some t.holdOff } })
          ∧ (t.holdOff = 0 → ∃ u, exec (.supplyMeasurement v) s = .next (s.finish u)
              ∧ SupplyBecomes { s with supply := p }
                  (if t.overVolt ≤ m then .overVolt else if m < t.lowVolt then .low else .normal) u)))
    ∧ (s.supply.state = .cut → s.supply.holdOff = some 0 →
        ∃ u, exec .holdOffExpiry s = .next (s.finish u) ∧ SupplyBecomes s
          (if s.supply.overInForce ≤ s.supply.measured then .overVolt
           else if s.supply.measured < s.supply.lowInForce then .low else .normal) u)
    ∧ ∀ t : Int, -55 ≤ t → t ≤ 200 →
        let next : ThermalState := match s.thermal.formed, s.thermal.state with
          | true, .warn => if 150 ≤ t then .shut else if t < 120 then .normal else .warn
          | true, .shut => if t < 120 then .normal else if t < 140 then .warn else .shut
          | _, _ => if 150 ≤ t then .shut else if 130 ≤ t then .warn else .normal
        let thermal := { state := next, temperature := t, formed := true }
        (next = s.thermal.state → exec (.thermalMeasurement t) s = .next { s with thermal })
        ∧ (next ≠ s.thermal.state → ∃ u, exec (.thermalMeasurement t) s = .next (s.finish u)
            ∧ BudgetFollows { s with thermal } (if next = .shut then .thermal else .shed) u
            ∧ (∃ hi lo : Byte, (hi ++ lo : BitVec 16).toInt = t ∧ u.reports = (s.post { kind := .thermal, detail := {
                b5 := match next with | .normal => 0 | .warn => 1 | .shut => 2
                b6 := hi, b7 := lo } }).reports)
            ∧ (next = .shut → AllHoldersBrake s .thermal u))

/-! ### The local inputs and the FAULT pin -/

/-- INPUT_SAMPLE (R133): each entry that is in use compares the sample with its debounced state: equal stops the debounce timer,
different starts it when it is stopped. -/
def Obligations.InputsAreSampled : Prop :=
  ∀ (s : State) (h1 h2 h3 h4 : Bool), ∃ u, exec (.inputSample h1 h2 h3 h4) s = .next u ∧ u = { s with inputs := u.inputs }
    ∧ ∀ n,
        let high := match n with | InputNo.in1 => h1 | .in2 => h2 | .in3 => h3 | .in4 => h4
        let e := s.input n
        (u.input n).pinHigh = high
          ∧ u.input n = { e with timer := (u.input n).timer, pinHigh := (u.input n).pinHigh }
          ∧ (e.function = .unused → (u.input n).timer = e.timer)
          ∧ (e.function ≠ .unused → ((high = e.activeHigh) ↔ e.active = true) → (u.input n).timer = none)
          ∧ (e.function ≠ .unused → ¬ ((high = e.activeHigh) ↔ e.active = true) →
              (u.input n).timer = some (e.timer.getD (10 * e.debounce)))

/-- DEBOUNCE_TIMER_EXPIRY (R13, R14, R133, R135 to R139): a change of the debounced state acts under the entry's function and
posts one INPUT report: a placement under the class and demand of the function, the removal of a service switch's claims, or
the local rain. That the debounced state takes the value of the pin's last sample is the model's choice (log 29). -/
def Obligations.DebouncedInputActs : Prop :=
  ∀ (s : State) (n : InputNo) (e : InputEntry) (a : Bool), s.input n = e → e.timer = some 0 →
    a = (e.pinHigh == e.activeHigh) →
    let inputs := s.inputs.set n { e with timer := none, active := a }
    let report := fun (outcome : Byte) => { kind := .input, detail := {
      b5 := byteOf (inputIndex n), b6 := if a then 1 else 0, b7 := outcome, b8 := activeByte inputs } : Report }
    let both := ∃ m, m ≠ n ∧ (s.input m).group = e.group ∧ (s.input m).active = true
      ∧ ((e.function = .manualOpen ∧ (s.input m).function = .manualClose)
        ∨ (e.function = .manualClose ∧ (s.input m).function = .manualOpen))
    (a = e.active → exec (.debounceTimerExpiry n) s =
        .next { s with inputs := s.inputs.set n { e with timer := none } })
    ∧ (a ≠ e.active → ∃ u, exec (.debounceTimerExpiry n) s = .next (s.finish u)
      ∧ OnlyClaims { s with inputs, weather := u.weather } u ∧ u.line = s.line
      ∧ (e.function = .rainContact → ∃ v, HandsOn s v ∧ FollowsWet s v ∧ KeepsClaims s v ∧ u = v.post (report 0)
          ∧ v.weather = { s.weather with rainWet := v.weather.rainWet, rainTimer := v.weather.rainTimer })
      ∧ (e.function ≠ .rainContact → u.weather = s.weather)
      ∧ (a = false → e.function = .fireContact ∨ e.function = .manualOpen ∨ e.function = .manualClose →
          u.chans = s.chans ∧ u.admission = s.admission ∧ u.reports = (s.post (report 0)).reports)
      ∧ (a = false → e.function = .serviceSwitch → u.reports = (s.post (report 0)).reports
          ∧ TakeTargets s u (fun ch => ∃ c, (s.chan ch).slots.service = some c ∧ c.origin = .input n)
          ∧ (∀ ch, (∃ c, (s.chan ch).slots.service = some c ∧ c.origin = .input n) →
              (u.chan ch).slots = { (s.chan ch).slots with service := none } ∧ Evaluated u.weather (u.chan ch)
                ∧ (u.chan ch).airing = (s.chan ch).airing)
          ∧ ∀ ch, (∀ c, (s.chan ch).slots.service = some c → c.origin ≠ .input n) → u.chan ch = s.chan ch)
      ∧ ∀ cls : ClaimClass, a = true →
          (e.function = .fireContact ∧ cls = .smoke) ∨ (e.function = .serviceSwitch ∧ cls = .service)
            ∨ ((e.function = .manualOpen ∨ e.function = .manualClose) ∧ cls = .manual) →
          ((∀ g, lookupGroup s.groups e.group = some g → g.admitted.admits cls = false) →
            u.chans = s.chans ∧ u.admission = s.admission ∧ u.reports = (s.post (report 32)).reports)
          ∧ ∀ g, lookupGroup s.groups e.group = some g → g.admitted.admits cls = true →
            u.reports = (s.post (report (byteOf (16 + (allChans.filter (fun c =>
                g.members.get c && (s.chan c).motion.state != .disabled)).length)))).reports
            ∧ TakeTargets s u (fun ch => g.members.get ch = true ∧ (s.chan ch).motion.state ≠ .disabled)
            ∧ (∀ ch, g.members.get ch = true → (s.chan ch).motion.state ≠ .disabled →
                Evaluated u.weather (u.chan ch) ∧ (u.chan ch).airing = (s.chan ch).airing
                ∧ ∃ d, (u.chan ch).slots = (s.chan ch).slots.set cls (some {
                    origin := .input n, group := some e.group, tag := 0, demand := d,
                    expiry := if cls = .manual then some (1000 * e.hold) else none })
                  ∧ (cls = .smoke ∨ (e.function = .manualOpen ∧ ¬ both) → d = .level e.level)
                  ∧ (e.function = .manualClose ∧ ¬ both → d = .level 0)
                  ∧ (cls = .service ∨ (cls = .manual ∧ both) →
                      d = .stay (if (s.chan ch).motion.referenced then
                        some (max 0 (min (s.chan ch).travel.position ((s.chan ch).profile.travel : Int))).toNat
                       else none)))
            ∧ ∀ ch, g.members.get ch = false ∨ (s.chan ch).motion.state = .disabled → u.chan ch = s.chan ch)

/-- R141, R142 and Table 8.3: the fault condition holds while an enabled source holds; the pin is pulled low while active under
active level LOW and while inactive under active level HIGH, and released otherwise; during power-on reset it is released. That
power-on reset lasts while POWER_ON_RESET stands at the front of the queue is the model's choice (log 32). -/
def Obligations.FaultPinFollowsItsSources : Prop :=
  ∀ s : State,
    let t := s.settings
    let condition := (t.faultChannel = true ∧ ∃ ch, (s.chan ch).motion.state = .faulted)
      ∨ (t.faultSupply = true ∧ (s.supply.state = .cut ∨ s.supply.state = .overVolt))
      ∨ (t.faultThermal = true ∧ s.thermal.state = .shut) ∨ (t.faultLine = true ∧ s.line.lost = true)
    ((∃ rest, s.pending = .powerOnReset :: rest) → faultPin s = .released)
      ∧ ((∀ rest, s.pending ≠ .powerOnReset :: rest) →
          (faultPin s = .pulledLow ↔ (condition ↔ t.faultHigh = false))
          ∧ (faultPin s = .released ↔ (condition ↔ t.faultHigh = true)))

/-! ### The line interface and the frame processor -/

/-- Link changes and reception (R143 to R145, R151, R153, R154, R156): what the checker asks of a frame (a byte error, fewer
than 7 bytes, a length byte above 48, a byte count other than 7 more, or a CRC that does not match fails it), the ready outputs,
the place of a frame from its first byte, the discarding of bad frames and of frames against the handshake, acceptance on the
D-port, and a port that goes DOWN, which keeps the frame cut in its transmission until it is sent again; a port that is DOWN
already changes nothing. That an ECHO made as the D-port goes DOWN carries the station number held at that moment is the model's
choice (log 42), and so are that a frame against the handshake sets the line error indicator at its end (log 43) and that it
holds no place for the ready outputs before (log 45). -/
def Obligations.PortsReceiveFrames : Prop :=
  ∀ s : State,
    (∀ bytes err, frameChecks bytes err = true ↔ err = false ∧ 7 ≤ bytes.length ∧ (byteAt bytes 1).toNat ≤ 48
        ∧ bytes.length = 7 + (byteAt bytes 1).toNat
        ∧ (crc16 (bytes.take (bytes.length - 2))).toNat =
            (byteAt bytes (bytes.length - 2)).toNat * 256 + (byteAt bytes (bytes.length - 1)).toNat)
    ∧ (readyU s = true ↔ s.line.uUp = true ∧ s.line.downQueue.length + (if s.line.uRx = some .underReady then 1 else 0) < 4
        ∧ (s.line.dUp = false → s.line.upQueue.length < 8))
    ∧ (readyD s = true ↔ s.line.dUp = true ∧ s.line.upQueue.length + (if s.line.dRx = some .underReady then 1 else 0) < 8)
    ∧ (s.line.uUp = true → s.line.uRx = none → exec (.frameFirstByte .uPort) s = .next { s with
        line := { s.line with uRx := some (if readyU s then .underReady else .againstHandshake) } })
    ∧ (s.line.dUp = true → s.line.dRx = none → exec (.frameFirstByte .dPort) s = .next { s with
        line := { s.line with dRx := some (if readyD s then .underReady else .againstHandshake) } })
    ∧ (s.line.uUp = false → exec (.frameFirstByte .uPort) s = .next s)
    ∧ (s.line.dUp = false → exec (.frameFirstByte .dPort) s = .next s)
    ∧ (∀ bytes err, s.line.uUp = true →
        (s.line.uRx = some .underReady ∧ frameChecks bytes err = false) ∨ s.line.uRx = some .againstHandshake →
        exec (.frameDiscarded .uPort bytes err) s =
          .next { s with line := { s.line with uRx := none, lineError := true } })
    ∧ (∀ bytes err, s.line.dUp = true →
        (s.line.dRx = some .underReady ∧ frameChecks bytes err = false) ∨ s.line.dRx = some .againstHandshake →
        exec (.frameDiscarded .dPort bytes err) s =
          .next { s with line := { s.line with dRx := none, lineError := true } })
    ∧ (∀ f, s.line.dUp = true → s.line.dRx = some .underReady → f.payload.length ≤ 48 →
        exec (.upstreamFrameAccepted f) s =
          .next { s with line := { s.line with dRx := none, upQueue := s.line.upQueue ++ [f] } })
    ∧ (∀ f, s.line.dUp = true → s.line.dRx = some .againstHandshake → exec (.upstreamFrameAccepted f) s =
        .next { s with line := { s.line with dRx := none, lineError := true } })
    ∧ (∀ c f, c.frame = some (.uPort, f) → s.line.uUp = true → s.line.uRx = some .againstHandshake →
        exec c s = .next { s with line := { s.line with uRx := none, lineError := true } })
    ∧ (∀ c p f, c.frame = some (p, f) → s.portUp p = false → exec c s = .next s)
    ∧ exec (.portUp .uPort) s = .next { s with line := { s.line with uUp := true } }
    ∧ exec (.portUp .dPort) s = .next { s with line := { s.line with dUp := true } }
    ∧ (s.line.uUp = true → s.line.uCut = none → exec (.portDown .uPort) s = .next { s with
        line := { s.line with uUp := false, uRx := none, uTx := none, uCut := s.line.uTx,
                              lineError := s.line.lineError || s.line.uRx.isSome } })
    ∧ (∀ t, s.line.uUp = true → s.line.uTx = none → s.line.uCut = some t → exec (.portDown .uPort) s = .next { s with
        line := { s.line with uUp := false, uRx := none, uCut := some t,
                              lineError := s.line.lineError || s.line.uRx.isSome } })
    ∧ (∀ p, s.portUp p = false → exec (.portDown p) s = .next s)
    ∧ (s.line.dUp = true → s.line.upQueue.length ≤ 8 →
        let echoes := (s.line.downQueue.filter (fun d => d.acted)).map (fun d => echoOf s.line.station d.frame)
        exec (.portDown .dPort) s = .next { s with
          line := { s.line with
            dUp := false, dRx := none, dSending := false, downQueue := []
            upQueue := (s.line.upQueue ++ echoes).take 8
            lineError := s.line.lineError || s.line.dRx.isSome
              || decide (8 < s.line.upQueue.length + echoes.length) } })

/-- D_PORT_TRANSMIT_START, D_PORT_FRAME_SENT, U_PORT_TRANSMIT_CHOICE and U_PORT_FRAME_SENT (R146, R150, R154 to R156, R174): the
order of the choices, the REPORT frame built from the oldest records with the bytes of each (Table 9.8: the kind's code, FFh for
no channel, FFFFh for no position, 0 for no rank, the four detail bytes; a channel that is not referenced reports no position,
Table 11.1), and what leaves its queue or slot when it is sent. -/
def Obligations.PortsTransmitFrames : Prop :=
  (∀ r : Report, reportBytes r =
    [(match r.kind with
        | .arrived => 1 | .halted => 2 | .fault => 3 | .cleared => 4 | .referenced => 5 | .drift => 6 | .airingDone => 7
        | .input => 8 | .weather => 9 | .supply => 10 | .thermal => 11 | .line => 12 | .freshStart => 13 : Byte),
      (match r.chan with
        | none => 0xFF | some .ch0 => 0 | some .ch1 => 1 | some .ch2 => 2 | some .ch3 => 3 | some .ch4 => 4 | some .ch5 => 5)]
    ++ (match r.position with | none => [0xFF, 0xFF] | some p => [byteOf (p / 256), byteOf p])
    ++ [byteOf (r.rank.getD 0), r.detail.b5, r.detail.b6, r.detail.b7, r.detail.b8])
  ∧ (∀ c : Channel,
      (c.motion.referenced = true → c.reported = some (toPermille c.travel.position c.profile.travel))
      ∧ (c.motion.referenced = false → c.reported = none))
  ∧ ∀ s : State,
    (s.line.dUp = true → s.line.dSending = false → s.line.downQueue ≠ [] →
      exec (.dPortTransmitStart true) s = .next { s with line := { s.line with dSending := true } })
    ∧ exec (.dPortTransmitStart false) s = .next s
    ∧ (s.line.dSending = true → exec .dPortFrameSent s =
        .next { s with line := { s.line with dSending := false, downQueue := s.line.downQueue.tail } })
    ∧ exec (.uPortTransmitChoice false) s = .next s
    ∧ (s.line.uUp = true → s.line.uTx = none →
        (∀ t, s.line.uCut = some t → exec (.uPortTransmitChoice true) s =
          .next { s with line := { s.line with uTx := some t, uCut := none } })
        ∧ (s.line.uCut = none → (∀ r, s.line.reply = some r → exec (.uPortTransmitChoice true) s =
            .next { s with line := { s.line with uTx := some ⟨.reply, r⟩ } })
          ∧ (s.line.reply = none →
              (s.reports.records ≠ [] → 4 ≤ s.line.forwardedRun ∨ s.line.upQueue = [] →
                exec (.uPortTransmitChoice true) s = .next { s with
                  reports := { records := s.reports.records.drop 5, lost := false }
                  line := { s.line with
                    forwardedRun := 0, reportNumber := (s.line.reportNumber + 1) % 65536
                    uTx := some ⟨.report, {
                      kind := 0x20, station := byteOf s.line.station, tag := BitVec.ofNat 16 s.line.reportNumber,
                      payload := (if s.reports.lost then 1 else 0)
                        :: (s.reports.records.take 5).flatMap reportBytes }⟩ } })
              ∧ (∀ f rest, s.line.upQueue = f :: rest → s.line.forwardedRun < 4 ∨ s.reports.records = [] →
                exec (.uPortTransmitChoice true) s = .next { s with
                  line := { s.line with uTx := some ⟨.forwarded, f⟩, forwardedRun := min 4 (s.line.forwardedRun + 1) } })
              ∧ (s.line.upQueue = [] → s.reports.records = [] → exec (.uPortTransmitChoice true) s = .next s))))
    ∧ (∀ f, s.line.uTx = some ⟨.reply, f⟩ → exec .uPortFrameSent s =
        .next { s with line := { s.line with uTx := none, reply := none } })
    ∧ (∀ f, s.line.uTx = some ⟨.forwarded, f⟩ → exec .uPortFrameSent s =
        .next { s with line := { s.line with uTx := none, upQueue := s.line.upQueue.tail } })
    ∧ (∀ f, s.line.uTx = some ⟨.report, f⟩ → exec .uPortFrameSent s =
        .next { s with line := { s.line with uTx := none } })

/-- ENUMERATE (R149): NEXT of 1 to 32 becomes the station number and goes on as NEXT + 1; 0 or above 32 makes the station
unnumbered and goes on unchanged; a payload of another length goes on and keeps the number. Power-on reset sets it to 0, and
STATION RESET keeps it. -/
def Obligations.EnumerateNumbersTheStation : Prop :=
  (∀ (s : State) (station : Byte) (tag : Word16) (p : List Byte), Hears s p →
    (∀ n : Nat, 1 ≤ n → n ≤ 32 → p = [byteOf n] → exec (.enumerate station tag p) s = .next { s with
      line := passesOn { heard s with station := n } ⟨0x05, station, tag, [byteOf (n + 1)]⟩ true })
    ∧ (∀ b : Byte, b.toNat = 0 ∨ 32 < b.toNat → p = [b] → exec (.enumerate station tag p) s = .next { s with
        line := passesOn { heard s with station := 0 } ⟨0x05, station, tag, [b]⟩ true })
    ∧ (p.length ≠ 1 → exec (.enumerate station tag p) s =
        .next { s with line := passesOn (heard s) ⟨0x05, station, tag, p⟩ false }))
    ∧ (∀ s : State, ∃ t, exec .powerOnReset s = .next t ∧ t.line.station = 0)
    ∧ ∀ (s t : State) (station : Byte) (tag : Word16) (p : List Byte),
        exec (.stationReset station tag p) s = .next t → t.line.station = s.line.station

/-- R145, Table 9.4: the CRC, bit by bit from the most significant, by its generator and initial value; the bytes of a frame on
the wire; and a frame as it stands on the wire is read as the command it carries, for every command the line can deliver, and
with a byte error it is discarded. Which command a TABLE WRITE without payload is, and that the CLEAR FAULT with the one byte
80h is CLEAR_SUPPLY, is the model's choice (log 17). -/
def Obligations.FramesReadAsTheirCommands : Prop :=
  (crc16 [] = 0xFFFF ∧ ∀ (l : List Byte) (b : Byte), crc16 (l ++ [b]) =
    [7, 6, 5, 4, 3, 2, 1, 0].foldl (fun (c : Word16) (i : Nat) =>
      if c.msb = b.getLsbD i then c <<< 1 else (c <<< 1) ^^^ 0x1021) (crc16 l))
  ∧ (∀ f : Frame,
      let body := [f.kind, byteOf f.payload.length, f.station, byteOf (f.tag.toNat / 256), byteOf f.tag.toNat] ++ f.payload
      f.wire = body ++ [byteOf ((crc16 body).toNat / 256), byteOf (crc16 body).toNat])
  ∧ ∀ (c : Instr) (p : Port) (f : Frame), c.wf = true → c.frame = some (p, f) →
    receivedCommand p f.wire false = c ∧ receivedCommand p f.wire true = .frameDiscarded p f.wire true

/-! ### The management unit -/

/-- R150: an addressed frame for another station, or at an unnumbered one, goes on unchanged; one for this station is dropped
while the reply slot is occupied. Nothing else of the station changes. -/
def Obligations.AddressedFramesPassOn : Prop :=
  ∀ (s : State) (c : Instr) (f : Frame), c.frame = some (.uPort, f) →
    f.kind = 0x10 ∨ f.kind = 0x11 ∨ f.kind = 0x12 ∨ f.kind = 0x13 ∨ f.kind = 0x14 →
    (∀ g, c ≠ .unknownKindFrame g) → Hears s f.payload →
    (s.line.station = 0 ∨ f.station.toNat ≠ s.line.station →
      exec c s = .next { s with line := passesOn (heard s) f false })
    ∧ (s.line.station ≠ 0 → f.station.toNat = s.line.station → s.line.reply.isSome = true →
        exec c s = .next { s with line := heard s })

/-- TABLE_READ and STATUS_READ (R158, R159, R166 to R168, R171): the record or the page is answered with DONE and nothing
changes but the line error indicator and the fresh-start flag, which a status read clears; an index that names nothing gives
NO-SUCH, and a payload of another length FORMAT. The bytes of the two kinds of page are those of Table 9.13; that the last
sampled current of a channel page is that of a first-period sample as that period ends is the model's inference (log 44). -/
def Obligations.ReadsAreAnswered : Prop :=
  (∀ (s : State) (station : Byte) (tag : Word16) (p : List Byte), Consumes s station p →
    (∀ sel r, p = [sel] →
      (sel.toNat < 64 ∧ r = groupBytes (s.groups.getD sel.toNat {}))
      ∨ (∃ ch, sel.toNat = 64 + chanIndex ch ∧ r = profileBytes (s.chan ch).profile)
      ∨ (∃ n, sel.toNat = 128 + inputIndex n ∧ r = inputBytes (s.input n))
      ∨ (sel.toNat = 192 ∧ r = settingsBytes s.settings) →
      exec (.tableRead station tag p) s = .next { s with line := answered s tag 0 r })
    ∧ (∀ sel : Byte, p = [sel] → (69 < sel.toNat ∧ sel.toNat ≤ 128) ∨ (132 < sel.toNat ∧ sel.toNat ≠ 192) →
      exec (.tableRead station tag p) s = .next { s with line := answered s tag 4 [] })
    ∧ (p.length ≠ 1 → exec (.tableRead station tag p) s = .next { s with line := answered s tag 6 [] })
    ∧ (p = [0] → exec (.statusRead station tag p) s = .next { s with
        freshStart := false, line := { answered s tag 0 (stationPage s) with lineError := false } })
    ∧ (∀ ch, p = [byteOf (chanIndex ch + 1)] → exec (.statusRead station tag p) s = .next { s with
        line := { answered s tag 0 (channelPage s ch) with lineError := false } })
    ∧ (∀ b : Byte, p = [b] → 6 < b.toNat →
        exec (.statusRead station tag p) s = .next { s with line := answered s tag 4 [] })
    ∧ (p.length ≠ 1 → exec (.statusRead station tag p) s = .next { s with line := answered s tag 6 [] }))
  ∧ (∀ s : State, -55 ≤ s.thermal.temperature → s.thermal.temperature ≤ 200 → ∃ flags hi lo : Byte,
      stationPage s = [byteOf s.line.station, flags,
        (match s.supply.state with | .normal => 0 | .low => 1 | .cut => 2 | .overVolt => 3),
        byteOf (s.supply.measured / 256), byteOf s.supply.measured,
        (match s.thermal.state with | .normal => 0 | .warn => 1 | .shut => 2), hi, lo,
        (match s.weather.wind with | .calm => 0 | .windy => 1 | .storm => 2 | .unknown => 3),
        (if s.weather.rainWet then 1 else 0),
        (match s.weather.settled with | none => 0xFF | some b => byteOf b),
        byteOf (s.weather.windSpeed / 256), byteOf s.weather.windSpeed]
      ∧ (hi ++ lo : BitVec 16).toInt = s.thermal.temperature
      ∧ ∀ i, flags.getLsbD i = (match i with
          | 0 => s.freshStart | 1 => s.line.lineError | 2 => s.line.lost | 3 => s.supply.latch | 4 => s.reports.lost
          | _ => false))
  ∧ ∀ (s : State) (ch : Chan),
      let c := s.chan ch
      let two := fun n : Nat => [byteOf (n / 256), byteOf n]
      ∃ ranks : Byte, channelPage s ch =
        ([(match c.motion.state with
            | .disabled => 0 | .idle => 1 | .waiting => 2 | .moving => 3 | .braking => 4 | .dwell => 5 | .backoff => 6
            | .faulted => 7),
          (if c.motion.referenced then 1 else 0),
          (match c.motion.fault with
            | none => 0 | some .short => 1 | some .stalled => 2 | some .obstructed => 3 | some .travel => 4)] : List Byte)
        ++ (if c.motion.referenced then two (toPermille c.travel.position c.profile.travel) else [0xFF, 0xFF])
        ++ (match c.selected.target with
            | .none => [0xFF, 0xFF] | .pulses q => two (toPermille q c.profile.travel) | .level d => two d)
        ++ [byteOf (c.selected.winRank.getD 0), byteOf (c.selected.queueRank.getD 0), 
            byteOf (if s.clock.firstRun then c.current.sample else 0)]
        ++ two c.travel.period ++ [byteOf c.motion.eOpen, byteOf c.motion.eClose, ranks]
        ++ two ((c.slots.smoke.map (·.tag)).getD 0) ++ two ((c.slots.service.map (·.tag)).getD 0)
        ++ two ((c.slots.fallback.map (·.tag)).getD 0) ++ two ((c.slots.manual.map (·.tag)).getD 0)
        ++ two ((c.slots.comfort.map (·.tag)).getD 0) ++ two ((c.slots.airing.map (·.tag)).getD 0)
      ∧ ∀ i, ranks.getLsbD i = (match i with
          | 0 => c.slots.smoke.isSome | 1 => c.slots.service.isSome | 2 => c.slots.fallback.isSome
          | 3 => c.slots.manual.isSome | 4 => c.slots.comfort.isSome | 5 => c.slots.airing.isSome | _ => false)

/-- GROUP_WRITE and SETTINGS_WRITE (R77, R90, R158, R160, R164, R165): the tests in their order, the entry or the record that is
written, and the budget when one of its two settings changes. A TABLE WRITE with no payload is answered FORMAT; that it is
spelled GROUP_WRITE, and answered so under every name, is the model's choice (log 17). The two records have the bytes of Tables
9.9 and 9.12: each field is read from its place, and a record written back reads as it was, with 0 in the ignored bits. That the
acceptance of a SETTINGS write restarts the watchdog with the timeout that stood before it is the model's choice too (log 40).
-/
def Obligations.GroupAndSettingsWrites : Prop :=
  (∀ (s : State) (station : Byte) (tag : Word16) (sel : Byte) (r : List Byte), Consumes s station (sel :: r) →
    let i := sel.toNat % 64
    let e := groupOf r
    let elsewhere := ∃ j, j ≠ i ∧ j < s.groups.length ∧ (s.groups.getD j {}).number = e.number
    let replies := fun result => { s with line := answered s tag result [] }
    (r.length ≠ 4 → exec (.groupWrite station tag (sel :: r)) s = .next (replies 6))
    ∧ (r.length = 4 → e.number = 0 → exec (.groupWrite station tag (sel :: r)) s =
        .next { replies 0 with groups := s.groups.set i {} })
    ∧ (r.length = 4 → 1023 < e.number ∨ (e.number ≠ 0 ∧ ∀ ch, e.members.get ch = false) →
        exec (.groupWrite station tag (sel :: r)) s = .next (replies 2))
    ∧ (r.length = 4 → e.number ≠ 0 → e.number ≤ 1023 → (∃ ch, e.members.get ch = true) →
        (elsewhere → exec (.groupWrite station tag (sel :: r)) s = .next (replies 3))
        ∧ (¬ elsewhere → exec (.groupWrite station tag (sel :: r)) s =
            .next { replies 0 with groups := s.groups.set i e }))
    ∧ (r.length ≠ 32 → exec (.settingsWrite station tag (sel :: r)) s = .next (replies 6))
    ∧ (r.length = 32 → i ≠ 0 → exec (.settingsWrite station tag (sel :: r)) s = .next (replies 4))
    ∧ (r.length = 32 → i = 0 → settingsOf r = none ∨ (∃ t, settingsOf r = some t ∧ settingsInRange t = false) →
        exec (.settingsWrite station tag (sel :: r)) s = .next (replies 2))
    ∧ ∀ t, r.length = 32 → i = 0 → settingsOf r = some t → settingsInRange t = true →
        let latch := if s.settings.latched = true ∧ t.latched = false then false else s.supply.latch
        let u₀ := { replies 0 with settings := t, supply := { s.supply with latch } }
        (t.normalBudget = s.settings.normalBudget → t.lowBudget = s.settings.lowBudget →
          exec (.settingsWrite station tag (sel :: r)) s = .next u₀)
        ∧ (t.normalBudget ≠ s.settings.normalBudget ∨ t.lowBudget ≠ s.settings.lowBudget →
            ∃ u, exec (.settingsWrite station tag (sel :: r)) s = .next (s.finish u) ∧ BudgetFollows u₀ .shed u
              ∧ u.reports = s.reports))
  ∧ (∀ (s : State) (station : Byte) (tag : Word16), Consumes s station [] →
      ∀ c ∈ [Instr.groupWrite station tag [], .profileWrite station tag [], .inputWrite station tag [],
          .settingsWrite station tag []], exec c s = .next { s with line := answered s tag 6 [] })
  ∧ (∀ a b m k : Byte,
      let e := groupOf [a, b, m, k]
      e.number = a.toNat * 256 + b.toNat ∧ (∀ ch, e.members.get ch = m.getLsbD (chanIndex ch))
        ∧ e.admitted = { smoke := k.getLsbD 0, service := k.getLsbD 1, manual := k.getLsbD 2, comfort := k.getLsbD 3,
                         airing := k.getLsbD 4 })
  ∧ (∀ e : GroupEntry, e.number ≤ 1023 → groupOf (groupBytes e) = e ∧ (groupBytes e).length = 4
      ∧ (byteAt (groupBytes e) 2).toNat < 64 ∧ (byteAt (groupBytes e) 3).toNat < 32)
  ∧ (∀ (r : List Byte) (t : Settings), settingsOf r = some t →
      (∀ x ∈ [(t.defaultHold, 0), (t.w1, 2), (t.w2, 4), (t.releaseDelay, 7), (t.staleTime, 9), (t.settleTime, 11),
          (t.rainDelay, 13), (t.stagger, 17), (t.cutVolt, 19), (t.lowVolt, 21), (t.overVolt, 23), (t.holdOff, 25)],
          x.1 = (byteAt r x.2).toNat * 256 + (byteAt r (x.2 + 1)).toNat)
        ∧ (∀ x ∈ [(t.hysteresis, 6), (t.normalBudget, 15), (t.lowBudget, 16), (t.watchdog, 27)], x.1 = (byteAt r x.2).toNat)
        ∧ (∀ i, t.reportMask.getLsbD i =
            if i < 8 then (byteAt r 29).getLsbD i else decide (i < 13) && (byteAt r 28).getLsbD (i - 8))
        ∧ t.latched = (byteAt r 30).getLsbD 0
        ∧ (byteAt r 30).toNat / 2 % 4 = (match t.freq with | .khz16 => 0 | .khz20 => 1 | .khz25 => 2)
        ∧ t.faultHigh = (byteAt r 30).getLsbD 3 ∧ t.faultChannel = (byteAt r 31).getLsbD 0
        ∧ t.faultSupply = (byteAt r 31).getLsbD 1 ∧ t.faultThermal = (byteAt r 31).getLsbD 2
        ∧ t.faultLine = (byteAt r 31).getLsbD 3)
  ∧ (∀ r : List Byte, settingsOf r = none ↔ (byteAt r 30).toNat / 2 % 4 = 3)
  ∧ ∀ t : Settings, settingsInRange t = true → settingsOf (settingsBytes t) = some t ∧ (settingsBytes t).length = 32
      ∧ (byteAt (settingsBytes t) 28).toNat < 32 ∧ (byteAt (settingsBytes t) 30).toNat < 16
      ∧ (byteAt (settingsBytes t) 31).toNat < 16

/-- PROFILE_WRITE and INPUT_WRITE (R22, R48, R96, R97, R134, R158, R161 to R163): the tests in their order; an accepted profile
takes the channel's reference, its drift and retry counts, and its fault when it disables, keeps its claims, and has the channel
evaluated, the share holders, the budget and the stagger timer being as before (a channel at rest holds no share, as
MotionInvariant has it), and the pulse period, the run count, the current and the drive too; an accepted input entry starts
afresh when its function or active level changes, with the end of its old function. The two records have the bytes of Tables
9.10 and 9.11: each field is read from its place, and a record written back reads as it was, with 0 in the ignored bits. -/
def Obligations.ProfileAndInputWrites : Prop :=
  (∀ (s : State) (station : Byte) (tag : Word16) (sel : Byte) (r : List Byte), Consumes s station (sel :: r) →
    let i := sel.toNat % 64
    let replies := fun result => { s with line := answered s tag result [] }
    (r.length ≠ 47 → exec (.profileWrite station tag (sel :: r)) s = .next (replies 6))
    ∧ (r.length = 47 → 6 ≤ i → exec (.profileWrite station tag (sel :: r)) s = .next (replies 4))
    ∧ (∀ ch, r.length = 47 → i = chanIndex ch →
        let m := (s.chan ch).motion
        let rest := m.state = .disabled ∨ m.state = .idle ∨ m.state = .faulted
        let p := profileOf r
        (¬ rest → exec (.profileWrite station tag (sel :: r)) s = .next (replies 1))
        ∧ (rest → profileInRange p = false → exec (.profileWrite station tag (sel :: r)) s = .next (replies 2))
        ∧ (rest → profileInRange p = true →
            ∃ u, exec (.profileWrite station tag (sel :: r)) s = .next (s.finish u)
              ∧ u = { replies 0 with chans := u.chans, admission := u.admission, freeCount := u.freeCount }
              ∧ KeepsOthers ch s u ∧ (u.chan ch).profile = p ∧ Evaluated u.weather (u.chan ch)
              ∧ u.admission.budget = s.admission.budget ∧ u.admission.stagger = s.admission.stagger
              ∧ ((∀ e ∈ s.admission.holders, e.chan ≠ ch) → u.admission.holders = s.admission.holders)
              ∧ (p.enable = false ∨ m.state = .faulted → u.admission.queue = s.admission.queue)
              ∧ (∀ k, (u.chan ch).slots.get k = ((s.chan ch).slots.get k).map (fun c => { c with
                  demand := match c.demand with
                    | .stay (some q) =>
                      .stay (some (if p.travel = (s.chan ch).profile.travel then q else min q p.travel))
                    | d => d }))
              ∧ (u.chan ch).airing = (s.chan ch).airing
              ∧ (u.chan ch).motion.referenced = false ∧ (u.chan ch).motion.eOpen = p.initOpen
              ∧ (u.chan ch).motion.eClose = p.initClose ∧ (u.chan ch).motion.timedEst = 0
              ∧ (u.chan ch).motion.retry = 0
              ∧ (u.chan ch).travel = { (s.chan ch).travel with
                  drift := 0
                  position := max (-512) (min (s.chan ch).travel.position ((p.travel : Int) + 512)) }
              ∧ (u.chan ch).current = (s.chan ch).current ∧ (u.chan ch).drive = (s.chan ch).drive
              ∧ (u.chan ch).motion = { m with
                  state := (u.chan ch).motion.state, fault := (u.chan ch).motion.fault,
                  restTimer := (u.chan ch).motion.restTimer, hand := (u.chan ch).motion.hand,
                  referenced := false, eOpen := p.initOpen, eClose := p.initClose, timedEst := 0, retry := 0 }
              ∧ (p.enable = false → (u.chan ch).motion.state = .disabled ∧ (u.chan ch).motion.fault = none
                  ∧ (u.chan ch).motion.restTimer = none)
              ∧ (p.enable = true → (u.chan ch).motion.fault = m.fault ∧ (u.chan ch).motion.restTimer = m.restTimer
                  ∧ (m.state = .faulted → (u.chan ch).motion.state = .faulted)
                  ∧ (m.state ≠ .faulted → TestsTarget ch s.admission.queue u))))
    ∧ (r.length ≠ 8 → exec (.inputWrite station tag (sel :: r)) s = .next (replies 6))
    ∧ (r.length = 8 → i = 0 ∨ 5 ≤ i → exec (.inputWrite station tag (sel :: r)) s = .next (replies 4))
    ∧ ∀ n, r.length = 8 → i = inputIndex n →
        (inputOf r (s.input n) = none ∨ (∃ e, inputOf r (s.input n) = some e ∧ inputInRange e = false) →
          exec (.inputWrite station tag (sel :: r)) s = .next (replies 2))
        ∧ ∀ e, inputOf r (s.input n) = some e → inputInRange e = true →
            let old := s.input n
            (old.function = e.function → old.activeHigh = e.activeHigh →
              exec (.inputWrite station tag (sel :: r)) s = .next { replies 0 with inputs := s.inputs.set n e })
            ∧ (old.function ≠ e.function ∨ old.activeHigh ≠ e.activeHigh →
                ∃ u, exec (.inputWrite station tag (sel :: r)) s = .next (s.finish u)
                  ∧ u.inputs = s.inputs.set n { e with active := false, timer := none }
                  ∧ OnlyClaims { s with inputs := u.inputs, weather := u.weather } u
                  ∧ u.line = answered s tag 0 [] ∧ FollowsWet s u
                  ∧ u.weather = { s.weather with rainWet := u.weather.rainWet, rainTimer := u.weather.rainTimer }
                  ∧ ((old.function ≠ .rainContact ∧ old.function ≠ .serviceSwitch) ∨ old.active = false →
                      u = { replies 0 with inputs := u.inputs })
                  ∧ (old.function = .rainContact → HandsOn s u ∧ KeepsClaims s u)
                  ∧ (old.function = .serviceSwitch → old.active = true →
                      let placed := fun ch => ∃ c, (s.chan ch).slots.service = some c ∧ c.origin = .input n
                      u.reports = s.reports ∧ u.weather = s.weather ∧ TakeTargets s u placed
                        ∧ (∀ ch, placed ch → (u.chan ch).slots = { (s.chan ch).slots with service := none }
                            ∧ (u.chan ch).airing = (s.chan ch).airing ∧ Evaluated u.weather (u.chan ch))
                        ∧ ∀ ch, ¬ placed ch → u.chan ch = s.chan ch)))
  ∧ (∀ r : List Byte,
      let p := profileOf r
      (∀ x ∈ [(p.travel, 1), (p.fullTravelTime, 3), (p.approachDist, 6), (p.startLevel, 8), (p.runLevel, 10),
          (p.approachLevel, 12), (p.rampRate, 14), (p.endZone, 25), (p.backoffDist, 27), (p.windward.toNat, 33),
          (p.smokeWindward, 35), (p.windCeiling, 37), (p.rainPosition, 39), (p.stormPosition, 41), (p.unknownCeiling, 43),
          (p.moveToLevel, 45)], x.1 = (byteAt r x.2).toNat * 256 + (byteAt r (x.2 + 1)).toNat)
        ∧ (∀ x ∈ [(p.deadband, 5), (p.weight, 16), (p.stallUnits, 17), (p.settleUnits, 18), (p.startLimit, 19),
            (p.runLimit, 20), (p.endLimit, 21), (p.shortLimit, 22), (p.blanking, 23), (p.filter, 24), (p.reverseUnits, 29),
            (p.driftLimit, 30), (p.initOpen, 31), (p.initClose, 32)], x.1 = (byteAt r x.2).toNat)
        ∧ (∀ x ∈ [(p.enable, 0), (p.brakeMode, 1), (p.windDependent, 2), (p.failMoveTo, 3)],
            x.1 = (byteAt r 0).getLsbD x.2)
        ∧ p.retryLimit = (byteAt r 0).toNat / 16 % 4)
  ∧ (∀ p : Profile, profileInRange p = true → profileOf (profileBytes p) = p ∧ (profileBytes p).length = 47
      ∧ (byteAt (profileBytes p) 0).toNat < 64)
  ∧ (∀ (r : List Byte) (old e : InputEntry), inputOf r old = some e →
      (match e.function with
        | .unused => 0 | .fireContact => 1 | .manualOpen => 2 | .manualClose => 3 | .rainContact => 4 | .serviceSwitch => 5)
        = (byteAt r 0).toNat % 8
      ∧ e.activeHigh = (byteAt r 0).getLsbD 7 ∧ e.debounce = (byteAt r 1).toNat
      ∧ (∀ x ∈ [(e.group, 2), (e.level, 4), (e.hold, 6)], x.1 = (byteAt r x.2).toNat * 256 + (byteAt r (x.2 + 1)).toNat)
      ∧ e.active = old.active ∧ e.timer = old.timer ∧ e.pinHigh = old.pinHigh)
  ∧ (∀ (r : List Byte) (old : InputEntry), inputOf r old = none ↔ 5 < (byteAt r 0).toNat % 8)
  ∧ ∀ e : InputEntry, inputInRange e = true → inputOf (inputBytes e) e = some e ∧ (inputBytes e).length = 8
      ∧ ∀ i, 3 ≤ i → i ≤ 6 → (byteAt (inputBytes e) 0).getLsbD i = false

/-- CLEAR_FAULT and CLEAR_SUPPLY (R72, R89, R90, R169): an accepted clear makes the channel IDLE, referenced only after
OBSTRUCTED, posts CLEARED with the code cleared and has the channel evaluated; one whose cause has not gone is NOT-CLEARED; a
CUT latch is cleared at cut + 5 or more, by the thresholds of the last measurement, and the hold-off starts. That the clear, the
evaluation and the joining of the queue are one command, so that a PROFILE write after it may find the channel WAITING, is the
model's choice (log 46). That a sample of the first PWM period becomes the last sampled current, which the test for SHORT reads,
as that period ends is the model's inference (log 44), and that this test reads the RUN limit of the profile in force, also
after a PROFILE write on the FAULTED channel, is its choice (log 48). That a hold-off of 0 leaves CUT in the same command is the
model's choice too (log 22), and so is that CLEAR_SUPPLY compares with the thresholds of the last measurement, not with those of
a settings write since (log 31). -/
def Obligations.FaultsAndLatchAreCleared : Prop :=
  ∀ (s : State) (station : Byte) (tag : Word16) (p : List Byte), Consumes s station p →
    let replies := fun result => { s with line := answered s tag result [] }
    (∀ ch, p = [byteOf (chanIndex ch)] →
      let c := s.chan ch
      let gone := (c.motion.fault = some .short ∧ (if s.clock.firstRun then c.current.sample else 0) < c.profile.runLimit)
        ∨ (c.motion.fault ≠ some .short ∧ c.motion.restTimer = none)
      (c.motion.state ≠ .faulted → exec (.clearFault station tag p) s = .next (replies 0))
      ∧ (c.motion.state = .faulted → ¬ gone → exec (.clearFault station tag p) s = .next (replies 5))
      ∧ (c.motion.state = .faulted → gone → ∀ f, c.motion.fault = some f →
          ∃ u, exec (.clearFault station tag p) s = .next (s.finish u)
            ∧ u = { replies 0 with
                chans := u.chans, admission := u.admission, reports := u.reports, freeCount := u.freeCount }
            ∧ KeepsOthers ch s u ∧ KeepsClaims s u ∧ Evaluated u.weather (u.chan ch)
            ∧ TestsTarget ch s.admission.queue u
            ∧ (u.chan ch).motion.fault = none ∧ (u.chan ch).motion.retry = 0 ∧ (u.chan ch).motion.restTimer = none
            ∧ (u.chan ch).motion.referenced = (if f = .obstructed then c.motion.referenced else false)
            ∧ (u.chan ch).motion.timedEst = (if f = .obstructed then c.motion.timedEst else 0)
            ∧ (u.chan ch).motion.eOpen = c.motion.eOpen ∧ (u.chan ch).motion.eClose = c.motion.eClose
            ∧ (u.chan ch).travel = c.travel ∧ (u.chan ch).current = c.current ∧ (u.chan ch).drive = c.drive
            ∧ u.admission = { s.admission with queue := u.admission.queue, holders := u.admission.holders }
            ∧ ((∀ e ∈ s.admission.holders, e.chan ≠ ch) → u.admission.holders = s.admission.holders)
            ∧ u.reports = (s.post {
                kind := .cleared, chan := some ch, rank := c.motion.hand.winRank
                position := if f = .obstructed then c.reported else none,
                detail := { b5 := match f with | .short => 1 | .stalled => 2 | .obstructed => 3 | .travel => 4 } }).reports))
    ∧ (∀ b : Byte, p = [b] → 6 ≤ b.toNat → b ≠ 0x80 → exec (.clearFault station tag p) s = .next (replies 4))
    ∧ (p.length ≠ 1 → exec (.clearFault station tag p) s = .next (replies 6))
    ∧ (p = [0x80] →
        (s.supply.state ≠ .cut ∨ s.supply.latch = false → exec (.clearSupply station tag) s = .next (replies 0))
        ∧ (s.supply.state = .cut → s.supply.latch = true →
            (s.supply.measured < s.supply.cutInForce + 5 → exec (.clearSupply station tag) s = .next (replies 5))
            ∧ (s.supply.cutInForce + 5 ≤ s.supply.measured → s.settings.holdOff ≠ 0 →
                exec (.clearSupply station tag) s = .next { replies 0 with
                  supply := { s.supply with latch := false, holdOff := some s.settings.holdOff } })
            ∧ (s.supply.cutInForce + 5 ≤ s.supply.measured → s.settings.holdOff = 0 →
                ∃ u, exec (.clearSupply station tag) s = .next (s.finish u)
                  ∧ SupplyBecomes { replies 0 with supply := { s.supply with latch := false } }
                      (if s.supply.overInForce ≤ s.supply.measured then .overVolt
                       else if s.supply.measured < s.supply.lowInForce then .low else .normal) u)))

/-- STATION_RESET (R20, R74, R94, R110, R170, Table 10.4): every slot but rank 1 is emptied with the airing records and the
report queue, the holders give up their shares and brake without a halt cause, with the reason STOP but where the re-target
taken first has just ended a timed move with ARRIVE, waiting and dwelling channels test their targets again and join the start
queue with a new entry time, each channel whose slots were emptied is evaluated and holds the evaluation in hand, and the
tables, the settings, the weather, the monitors, the inputs and each channel's reference, fault, estimates, run count, drift
count, pulse period and last sampled current stay. That each channel meets the reset and its re-target in an order that is a
free value, all before one admission evaluation, is the model's choice (logs 4 and 6), and so are the level of 0 as drive is
removed (log 38) and that a channel found driven, in either order, is marked as stopped by the reset, whose braking ends with
ARRIVED (log 41). -/
def Obligations.StationResetStopsTheMotion : Prop :=
  ∀ (s : State) (station : Byte) (tag : Word16) (p : List Byte), Consumes s station p →
    (p ≠ [] → exec (.stationReset station tag p) s = .next { s with line := answered s tag 6 [] })
    ∧ (p = [] → ∃ u, exec (.stationReset station tag p) s = .next (s.finish u)
        ∧ OnlyClaims s u ∧ u.line = answered s tag 0 [] ∧ u.reports = { s.reports with records := [] }
        ∧ (MotionOk s → u.admission.holders = [])
        ∧ ∀ ch,
            let m := (s.chan ch).motion
            let d := (u.chan ch).motion
            let target := (u.chan ch).selected
            let emptied := (s.chan ch).slots ≠ { smoke := (s.chan ch).slots.smoke }
            (u.chan ch).slots = { smoke := (s.chan ch).slots.smoke } ∧ (u.chan ch).airing = none
              ∧ (emptied → Evaluated u.weather (u.chan ch))
              ∧ (¬ emptied → (u.chan ch).selected = (s.chan ch).selected ∧ d.hand = m.hand)
              ∧ d.retry = 0 ∧ d.afterBackoff = false
              ∧ d.eOpen = m.eOpen ∧ d.eClose = m.eClose ∧ d.timedEst = m.timedEst
              ∧ (m.state = .moving ∨ m.state = .backoff → d.state = .braking ∧ d.haltCause = none
                  ∧ d.settleTimer = some (10 * (s.chan ch).profile.settleUnits) ∧ d.coast = 0 ∧ DriveIsOff (u.chan ch)
                  ∧ (d.reason = some .stop
                    ∨ (d.reason = some .arrive ∧ emptied ∧ m.state = .moving ∧ m.moveKind = some .timed
                      ∧ ∃ l, target.target = .level l ∧ target.winRank = some 1 ∧ m.timedEst < l
                        ∧ (l - m.timedEst) * (s.chan ch).profile.fullTravelTime ≤ m.moveTimer.getD 0)))
              ∧ d.byReset = (m.byReset || isDriven m.state)
              ∧ (m.state = .braking → d.state = .braking
                  ∧ (m.reason = some .obstruct → d.reason = some .stop ∧ d.haltCause = none)
                  ∧ (m.reason ≠ some .obstruct → d.reason = m.reason ∧ d.haltCause = m.haltCause))
              ∧ (m.state = .waiting ∨ m.state = .dwell →
                  d.state = if (moveNeeded (u.chan ch)).isSome then .waiting else .idle)
              ∧ (m.state = .idle → d.state = if emptied ∧ (moveNeeded (u.chan ch)).isSome then .waiting else .idle)
              ∧ (m.state = .waiting ∨ m.state = .dwell ∨ m.state = .idle → d.state = .waiting →
                  findChan ch u.admission.queue = some {
                    chan := ch, rank := d.hand.queueRank.getD 6, time := s.clock.now, weight := (s.chan ch).profile.weight })
              ∧ (m.state = .waiting → d.state = .idle → ∀ e ∈ u.admission.queue, e.chan ≠ ch)
              ∧ (isDriven m.state = false → (u.chan ch).travel = (s.chan ch).travel
                  ∧ (u.chan ch).current = (s.chan ch).current ∧ (u.chan ch).drive = (s.chan ch).drive)
              ∧ (m.state = .faulted → d.state = .faulted) ∧ (m.state = .disabled → d.state = .disabled))

/-! ### Reports, and the invariants of the line and of reset -/

/-- R173, whole: what the report queue does with a report: nothing for a kind that the mask disables; the record of its pair of
channel and kind replaced in its place; appended; or discarded with the lost flag set, at 16 records. And every step keeps at
most 16 records, at most one for any pair. -/
def Obligations.ReportQueueLaw : Prop :=
  (∀ (s : State) (r : Report), s.settings.reportMask.getLsbD (reportCode r.kind - 1) = false → s.post r = s)
    ∧ (∀ (s : State) (r : Report), s.settings.reportMask.getLsbD (reportCode r.kind - 1) = true →
        (∀ a b old, s.reports.records = a ++ old :: b → old.kind = r.kind → old.chan = r.chan →
          (∀ x ∈ a ++ b, x.kind ≠ r.kind ∨ x.chan ≠ r.chan) →
          s.post r = { s with reports := { records := a ++ r :: b, lost := s.reports.lost } })
        ∧ ((∀ x ∈ s.reports.records, x.kind ≠ r.kind ∨ x.chan ≠ r.chan) →
            (s.reports.records.length < 16 →
              s.post r = { s with reports := { records := s.reports.records ++ [r], lost := s.reports.lost } })
            ∧ (16 ≤ s.reports.records.length → s.post r = { s with reports := { s.reports with lost := true } })))
    ∧ ∀ s t : State, ReportsOk s → step s = .next t → ReportsOk t

/-- Table 9.1, R143, R144, R150, R153, R154: every step keeps the line interface's counts in their ranges and its queues within
their places, leaves nothing in reception or transmission on a port that is DOWN, and keeps a frame in transmission in its queue
or slot; a frame in reception under an active ready output holds one place. That a frame in reception against the handshake
holds no place in its queue is the model's choice (log 45). -/
def Obligations.LineInvariant : Prop :=
  ∀ s t : State, LineOk s → step s = .next t → LineOk t

/-- The machine after reset meets every invariant that the steps keep. -/
def Obligations.ResetMeetsTheInvariants : Prop :=
  GroupsOk State.reset ∧ AiringOk State.reset ∧ FallbackOk State.reset ∧ MotionOk State.reset ∧ RangesOk State.reset
    ∧ ReportsOk State.reset ∧ LineOk State.reset
end

