-- ==== Sys2Proof/Laws/State.lean ====
section
/-! SUPPORT. One lemma per field per update of the state, so that no proof unfolds a record update. -/

namespace Sys2Proof.Machine

/-! ### Channels and inputs -/

@[simp] theorem PerChan.get_set_self {α : Type} (p : PerChan α) (c : Chan) (x : α) : (p.set c x).get c = x := by
  cases c <;> rfl

theorem PerChan.get_set_ne {α : Type} (p : PerChan α) {c d : Chan} (x : α) (h : d ≠ c) : (p.set c x).get d = p.get d := by
  cases c <;> cases d <;> first | rfl | exact absurd rfl h

@[simp] theorem PerChan.get_map {α : Type} (f : α → α) (p : PerChan α) (c : Chan) : (p.map f).get c = f (p.get c) := by
  cases c <;> rfl

/-- Two families agree when they agree on every channel. -/
theorem PerChan.ext_get {α : Type} {p q : PerChan α} (h : ∀ c, p.get c = q.get c) : p = q := by
  cases p; cases q
  have h0 := h .ch0; have h1 := h .ch1; have h2 := h .ch2
  have h3 := h .ch3; have h4 := h .ch4; have h5 := h .ch5
  simp only [PerChan.get] at h0 h1 h2 h3 h4 h5
  subst h0; subst h1; subst h2; subst h3; subst h4; subst h5; rfl

@[simp] theorem PerInput.get_set_self {α : Type} (p : PerInput α) (n : InputNo) (x : α) : (p.set n x).get n = x := by
  cases n <;> rfl

theorem PerInput.get_set_ne {α : Type} (p : PerInput α) {n m : InputNo} (x : α) (h : m ≠ n) :
    (p.set n x).get m = p.get m := by
  cases n <;> cases m <;> first | rfl | exact absurd rfl h

@[simp] theorem PerInput.get_map {α : Type} (f : α → α) (p : PerInput α) (n : InputNo) : (p.map f).get n = f (p.get n) := by
  cases n <;> rfl

@[simp] theorem ClaimSlots.get_set_self (s : ClaimSlots) (k : ClaimClass) (x : Option Claim) : (s.set k x).get k = x := by
  cases k <;> rfl

theorem ClaimSlots.get_set_ne (s : ClaimSlots) {k j : ClaimClass} (x : Option Claim) (h : j ≠ k) :
    (s.set k x).get j = s.get j := by
  cases k <;> cases j <;> first | rfl | exact absurd rfl h

@[simp] theorem ClaimSlots.get_map (f : Claim → Claim) (s : ClaimSlots) (k : ClaimClass) :
    (s.map f).get k = (s.get k).map f := by
  cases k <;> rfl

theorem mem_allChans (c : Chan) : c ∈ allChans := by cases c <;> decide

theorem mem_allInputs (n : InputNo) : n ∈ allInputs := by cases n <;> decide

@[simp] theorem State.chan_modChan_self (s : State) (c : Chan) (f : Channel → Channel) :
    (s.modChan c f).chan c = f (s.chan c) := by
  simp [State.modChan, State.chan]

theorem State.chan_modChan_ne (s : State) {c d : Chan} (f : Channel → Channel) (h : d ≠ c) :
    (s.modChan c f).chan d = s.chan d := by
  simp [State.modChan, State.chan, PerChan.get_set_ne _ _ h]

@[simp] theorem State.input_setInput_self (s : State) (n : InputNo) (e : InputEntry) : (s.setInput n e).input n = e := by
  simp [State.setInput, State.input]

/-- The channel record is that of the family; reads of a state whose channels are unchanged rewrite through this. -/
theorem State.chan_congr {s u : State} (h : u.chans = s.chans) (c : Chan) : u.chan c = s.chan c := by
  simp [State.chan, h]

/-! ### `State.modChan` -/
@[simp] theorem State.modChan_pending (s : State) (c : Chan) (f : Channel → Channel) : (s.modChan c f).pending = s.pending := rfl
@[simp] theorem State.modChan_groups (s : State) (c : Chan) (f : Channel → Channel) : (s.modChan c f).groups = s.groups := rfl
@[simp] theorem State.modChan_inputs (s : State) (c : Chan) (f : Channel → Channel) : (s.modChan c f).inputs = s.inputs := rfl
@[simp] theorem State.modChan_settings (s : State) (c : Chan) (f : Channel → Channel) : (s.modChan c f).settings = s.settings := rfl
@[simp] theorem State.modChan_freshStart (s : State) (c : Chan) (f : Channel → Channel) : (s.modChan c f).freshStart = s.freshStart := rfl
@[simp] theorem State.modChan_weather (s : State) (c : Chan) (f : Channel → Channel) : (s.modChan c f).weather = s.weather := rfl
@[simp] theorem State.modChan_supply (s : State) (c : Chan) (f : Channel → Channel) : (s.modChan c f).supply = s.supply := rfl
@[simp] theorem State.modChan_thermal (s : State) (c : Chan) (f : Channel → Channel) : (s.modChan c f).thermal = s.thermal := rfl
@[simp] theorem State.modChan_admission (s : State) (c : Chan) (f : Channel → Channel) : (s.modChan c f).admission = s.admission := rfl
@[simp] theorem State.modChan_line (s : State) (c : Chan) (f : Channel → Channel) : (s.modChan c f).line = s.line := rfl
@[simp] theorem State.modChan_reports (s : State) (c : Chan) (f : Channel → Channel) : (s.modChan c f).reports = s.reports := rfl
@[simp] theorem State.modChan_clock (s : State) (c : Chan) (f : Channel → Channel) : (s.modChan c f).clock = s.clock := rfl
@[simp] theorem State.modChan_freeCount (s : State) (c : Chan) (f : Channel → Channel) : (s.modChan c f).freeCount = s.freeCount := rfl

/-! ### `State.setInput` -/
@[simp] theorem State.setInput_pending (s : State) (n : InputNo) (e : InputEntry) : (s.setInput n e).pending = s.pending := rfl
@[simp] theorem State.setInput_chans (s : State) (n : InputNo) (e : InputEntry) : (s.setInput n e).chans = s.chans := rfl
@[simp] theorem State.setInput_groups (s : State) (n : InputNo) (e : InputEntry) : (s.setInput n e).groups = s.groups := rfl
@[simp] theorem State.setInput_settings (s : State) (n : InputNo) (e : InputEntry) : (s.setInput n e).settings = s.settings := rfl
@[simp] theorem State.setInput_freshStart (s : State) (n : InputNo) (e : InputEntry) : (s.setInput n e).freshStart = s.freshStart := rfl
@[simp] theorem State.setInput_weather (s : State) (n : InputNo) (e : InputEntry) : (s.setInput n e).weather = s.weather := rfl
@[simp] theorem State.setInput_supply (s : State) (n : InputNo) (e : InputEntry) : (s.setInput n e).supply = s.supply := rfl
@[simp] theorem State.setInput_thermal (s : State) (n : InputNo) (e : InputEntry) : (s.setInput n e).thermal = s.thermal := rfl
@[simp] theorem State.setInput_admission (s : State) (n : InputNo) (e : InputEntry) : (s.setInput n e).admission = s.admission := rfl
@[simp] theorem State.setInput_line (s : State) (n : InputNo) (e : InputEntry) : (s.setInput n e).line = s.line := rfl
@[simp] theorem State.setInput_reports (s : State) (n : InputNo) (e : InputEntry) : (s.setInput n e).reports = s.reports := rfl
@[simp] theorem State.setInput_clock (s : State) (n : InputNo) (e : InputEntry) : (s.setInput n e).clock = s.clock := rfl
@[simp] theorem State.setInput_freeCount (s : State) (n : InputNo) (e : InputEntry) : (s.setInput n e).freeCount = s.freeCount := rfl

/-! ### `State.setQueue` -/
@[simp] theorem State.setQueue_pending (s : State) (q : List QueueEntry) : (s.setQueue q).pending = s.pending := rfl
@[simp] theorem State.setQueue_chans (s : State) (q : List QueueEntry) : (s.setQueue q).chans = s.chans := rfl
@[simp] theorem State.setQueue_groups (s : State) (q : List QueueEntry) : (s.setQueue q).groups = s.groups := rfl
@[simp] theorem State.setQueue_inputs (s : State) (q : List QueueEntry) : (s.setQueue q).inputs = s.inputs := rfl
@[simp] theorem State.setQueue_settings (s : State) (q : List QueueEntry) : (s.setQueue q).settings = s.settings := rfl
@[simp] theorem State.setQueue_freshStart (s : State) (q : List QueueEntry) : (s.setQueue q).freshStart = s.freshStart := rfl
@[simp] theorem State.setQueue_weather (s : State) (q : List QueueEntry) : (s.setQueue q).weather = s.weather := rfl
@[simp] theorem State.setQueue_supply (s : State) (q : List QueueEntry) : (s.setQueue q).supply = s.supply := rfl
@[simp] theorem State.setQueue_thermal (s : State) (q : List QueueEntry) : (s.setQueue q).thermal = s.thermal := rfl
@[simp] theorem State.setQueue_line (s : State) (q : List QueueEntry) : (s.setQueue q).line = s.line := rfl
@[simp] theorem State.setQueue_reports (s : State) (q : List QueueEntry) : (s.setQueue q).reports = s.reports := rfl
@[simp] theorem State.setQueue_clock (s : State) (q : List QueueEntry) : (s.setQueue q).clock = s.clock := rfl
@[simp] theorem State.setQueue_freeCount (s : State) (q : List QueueEntry) : (s.setQueue q).freeCount = s.freeCount := rfl

/-! ### `State.setHolders` -/
@[simp] theorem State.setHolders_pending (s : State) (h : List QueueEntry) : (s.setHolders h).pending = s.pending := rfl
@[simp] theorem State.setHolders_chans (s : State) (h : List QueueEntry) : (s.setHolders h).chans = s.chans := rfl
@[simp] theorem State.setHolders_groups (s : State) (h : List QueueEntry) : (s.setHolders h).groups = s.groups := rfl
@[simp] theorem State.setHolders_inputs (s : State) (h : List QueueEntry) : (s.setHolders h).inputs = s.inputs := rfl
@[simp] theorem State.setHolders_settings (s : State) (h : List QueueEntry) : (s.setHolders h).settings = s.settings := rfl
@[simp] theorem State.setHolders_freshStart (s : State) (h : List QueueEntry) : (s.setHolders h).freshStart = s.freshStart := rfl
@[simp] theorem State.setHolders_weather (s : State) (h : List QueueEntry) : (s.setHolders h).weather = s.weather := rfl
@[simp] theorem State.setHolders_supply (s : State) (h : List QueueEntry) : (s.setHolders h).supply = s.supply := rfl
@[simp] theorem State.setHolders_thermal (s : State) (h : List QueueEntry) : (s.setHolders h).thermal = s.thermal := rfl
@[simp] theorem State.setHolders_line (s : State) (h : List QueueEntry) : (s.setHolders h).line = s.line := rfl
@[simp] theorem State.setHolders_reports (s : State) (h : List QueueEntry) : (s.setHolders h).reports = s.reports := rfl
@[simp] theorem State.setHolders_clock (s : State) (h : List QueueEntry) : (s.setHolders h).clock = s.clock := rfl
@[simp] theorem State.setHolders_freeCount (s : State) (h : List QueueEntry) : (s.setHolders h).freeCount = s.freeCount := rfl

/-! ### `State.leaveQueue` -/
@[simp] theorem State.leaveQueue_pending (s : State) (c : Chan) : (s.leaveQueue c).pending = s.pending := rfl
@[simp] theorem State.leaveQueue_chans (s : State) (c : Chan) : (s.leaveQueue c).chans = s.chans := rfl
@[simp] theorem State.leaveQueue_groups (s : State) (c : Chan) : (s.leaveQueue c).groups = s.groups := rfl
@[simp] theorem State.leaveQueue_inputs (s : State) (c : Chan) : (s.leaveQueue c).inputs = s.inputs := rfl
@[simp] theorem State.leaveQueue_settings (s : State) (c : Chan) : (s.leaveQueue c).settings = s.settings := rfl
@[simp] theorem State.leaveQueue_freshStart (s : State) (c : Chan) : (s.leaveQueue c).freshStart = s.freshStart := rfl
@[simp] theorem State.leaveQueue_weather (s : State) (c : Chan) : (s.leaveQueue c).weather = s.weather := rfl
@[simp] theorem State.leaveQueue_supply (s : State) (c : Chan) : (s.leaveQueue c).supply = s.supply := rfl
@[simp] theorem State.leaveQueue_thermal (s : State) (c : Chan) : (s.leaveQueue c).thermal = s.thermal := rfl
@[simp] theorem State.leaveQueue_line (s : State) (c : Chan) : (s.leaveQueue c).line = s.line := rfl
@[simp] theorem State.leaveQueue_reports (s : State) (c : Chan) : (s.leaveQueue c).reports = s.reports := rfl
@[simp] theorem State.leaveQueue_clock (s : State) (c : Chan) : (s.leaveQueue c).clock = s.clock := rfl
@[simp] theorem State.leaveQueue_freeCount (s : State) (c : Chan) : (s.leaveQueue c).freeCount = s.freeCount := rfl

/-! ### `State.joinQueue` -/
@[simp] theorem State.joinQueue_pending (s : State) (c : Chan) : (s.joinQueue c).pending = s.pending := rfl
@[simp] theorem State.joinQueue_chans (s : State) (c : Chan) : (s.joinQueue c).chans = s.chans := rfl
@[simp] theorem State.joinQueue_groups (s : State) (c : Chan) : (s.joinQueue c).groups = s.groups := rfl
@[simp] theorem State.joinQueue_inputs (s : State) (c : Chan) : (s.joinQueue c).inputs = s.inputs := rfl
@[simp] theorem State.joinQueue_settings (s : State) (c : Chan) : (s.joinQueue c).settings = s.settings := rfl
@[simp] theorem State.joinQueue_freshStart (s : State) (c : Chan) : (s.joinQueue c).freshStart = s.freshStart := rfl
@[simp] theorem State.joinQueue_weather (s : State) (c : Chan) : (s.joinQueue c).weather = s.weather := rfl
@[simp] theorem State.joinQueue_supply (s : State) (c : Chan) : (s.joinQueue c).supply = s.supply := rfl
@[simp] theorem State.joinQueue_thermal (s : State) (c : Chan) : (s.joinQueue c).thermal = s.thermal := rfl
@[simp] theorem State.joinQueue_line (s : State) (c : Chan) : (s.joinQueue c).line = s.line := rfl
@[simp] theorem State.joinQueue_reports (s : State) (c : Chan) : (s.joinQueue c).reports = s.reports := rfl
@[simp] theorem State.joinQueue_clock (s : State) (c : Chan) : (s.joinQueue c).clock = s.clock := rfl
@[simp] theorem State.joinQueue_freeCount (s : State) (c : Chan) : (s.joinQueue c).freeCount = s.freeCount := rfl

/-! ### `State.releaseShare` -/
@[simp] theorem State.releaseShare_pending (s : State) (c : Chan) : (s.releaseShare c).pending = s.pending := rfl
@[simp] theorem State.releaseShare_chans (s : State) (c : Chan) : (s.releaseShare c).chans = s.chans := rfl
@[simp] theorem State.releaseShare_groups (s : State) (c : Chan) : (s.releaseShare c).groups = s.groups := rfl
@[simp] theorem State.releaseShare_inputs (s : State) (c : Chan) : (s.releaseShare c).inputs = s.inputs := rfl
@[simp] theorem State.releaseShare_settings (s : State) (c : Chan) : (s.releaseShare c).settings = s.settings := rfl
@[simp] theorem State.releaseShare_freshStart (s : State) (c : Chan) : (s.releaseShare c).freshStart = s.freshStart := rfl
@[simp] theorem State.releaseShare_weather (s : State) (c : Chan) : (s.releaseShare c).weather = s.weather := rfl
@[simp] theorem State.releaseShare_supply (s : State) (c : Chan) : (s.releaseShare c).supply = s.supply := rfl
@[simp] theorem State.releaseShare_thermal (s : State) (c : Chan) : (s.releaseShare c).thermal = s.thermal := rfl
@[simp] theorem State.releaseShare_line (s : State) (c : Chan) : (s.releaseShare c).line = s.line := rfl
@[simp] theorem State.releaseShare_reports (s : State) (c : Chan) : (s.releaseShare c).reports = s.reports := rfl
@[simp] theorem State.releaseShare_clock (s : State) (c : Chan) : (s.releaseShare c).clock = s.clock := rfl
@[simp] theorem State.releaseShare_freeCount (s : State) (c : Chan) : (s.releaseShare c).freeCount = s.freeCount := rfl

/-! ### `State.rankHolder` -/
@[simp] theorem State.rankHolder_pending (s : State) (c : Chan) (r : Nat) : (s.rankHolder c r).pending = s.pending := rfl
@[simp] theorem State.rankHolder_chans (s : State) (c : Chan) (r : Nat) : (s.rankHolder c r).chans = s.chans := rfl
@[simp] theorem State.rankHolder_groups (s : State) (c : Chan) (r : Nat) : (s.rankHolder c r).groups = s.groups := rfl
@[simp] theorem State.rankHolder_inputs (s : State) (c : Chan) (r : Nat) : (s.rankHolder c r).inputs = s.inputs := rfl
@[simp] theorem State.rankHolder_settings (s : State) (c : Chan) (r : Nat) : (s.rankHolder c r).settings = s.settings := rfl
@[simp] theorem State.rankHolder_freshStart (s : State) (c : Chan) (r : Nat) : (s.rankHolder c r).freshStart = s.freshStart := rfl
@[simp] theorem State.rankHolder_weather (s : State) (c : Chan) (r : Nat) : (s.rankHolder c r).weather = s.weather := rfl
@[simp] theorem State.rankHolder_supply (s : State) (c : Chan) (r : Nat) : (s.rankHolder c r).supply = s.supply := rfl
@[simp] theorem State.rankHolder_thermal (s : State) (c : Chan) (r : Nat) : (s.rankHolder c r).thermal = s.thermal := rfl
@[simp] theorem State.rankHolder_line (s : State) (c : Chan) (r : Nat) : (s.rankHolder c r).line = s.line := rfl
@[simp] theorem State.rankHolder_reports (s : State) (c : Chan) (r : Nat) : (s.rankHolder c r).reports = s.reports := rfl
@[simp] theorem State.rankHolder_clock (s : State) (c : Chan) (r : Nat) : (s.rankHolder c r).clock = s.clock := rfl
@[simp] theorem State.rankHolder_freeCount (s : State) (c : Chan) (r : Nat) : (s.rankHolder c r).freeCount = s.freeCount := rfl

/-! ### `State.resortQueue` -/
@[simp] theorem State.resortQueue_pending (s : State) (c : Chan) (r : Nat) : (s.resortQueue c r).pending = s.pending := by
  unfold State.resortQueue; split <;> rfl
@[simp] theorem State.resortQueue_chans (s : State) (c : Chan) (r : Nat) : (s.resortQueue c r).chans = s.chans := by
  unfold State.resortQueue; split <;> rfl
@[simp] theorem State.resortQueue_groups (s : State) (c : Chan) (r : Nat) : (s.resortQueue c r).groups = s.groups := by
  unfold State.resortQueue; split <;> rfl
@[simp] theorem State.resortQueue_inputs (s : State) (c : Chan) (r : Nat) : (s.resortQueue c r).inputs = s.inputs := by
  unfold State.resortQueue; split <;> rfl
@[simp] theorem State.resortQueue_settings (s : State) (c : Chan) (r : Nat) : (s.resortQueue c r).settings = s.settings := by
  unfold State.resortQueue; split <;> rfl
@[simp] theorem State.resortQueue_freshStart (s : State) (c : Chan) (r : Nat) : (s.resortQueue c r).freshStart = s.freshStart := by
  unfold State.resortQueue; split <;> rfl
@[simp] theorem State.resortQueue_weather (s : State) (c : Chan) (r : Nat) : (s.resortQueue c r).weather = s.weather := by
  unfold State.resortQueue; split <;> rfl
@[simp] theorem State.resortQueue_supply (s : State) (c : Chan) (r : Nat) : (s.resortQueue c r).supply = s.supply := by
  unfold State.resortQueue; split <;> rfl
@[simp] theorem State.resortQueue_thermal (s : State) (c : Chan) (r : Nat) : (s.resortQueue c r).thermal = s.thermal := by
  unfold State.resortQueue; split <;> rfl
@[simp] theorem State.resortQueue_line (s : State) (c : Chan) (r : Nat) : (s.resortQueue c r).line = s.line := by
  unfold State.resortQueue; split <;> rfl
@[simp] theorem State.resortQueue_reports (s : State) (c : Chan) (r : Nat) : (s.resortQueue c r).reports = s.reports := by
  unfold State.resortQueue; split <;> rfl
@[simp] theorem State.resortQueue_clock (s : State) (c : Chan) (r : Nat) : (s.resortQueue c r).clock = s.clock := by
  unfold State.resortQueue; split <;> rfl
@[simp] theorem State.resortQueue_freeCount (s : State) (c : Chan) (r : Nat) : (s.resortQueue c r).freeCount = s.freeCount := by
  unfold State.resortQueue; split <;> rfl

/-! ### `State.post` -/
@[simp] theorem State.post_pending (s : State) (r : Report) : (s.post r).pending = s.pending := by
  unfold State.post; split <;> rfl
@[simp] theorem State.post_chans (s : State) (r : Report) : (s.post r).chans = s.chans := by
  unfold State.post; split <;> rfl
@[simp] theorem State.post_groups (s : State) (r : Report) : (s.post r).groups = s.groups := by
  unfold State.post; split <;> rfl
@[simp] theorem State.post_inputs (s : State) (r : Report) : (s.post r).inputs = s.inputs := by
  unfold State.post; split <;> rfl
@[simp] theorem State.post_settings (s : State) (r : Report) : (s.post r).settings = s.settings := by
  unfold State.post; split <;> rfl
@[simp] theorem State.post_freshStart (s : State) (r : Report) : (s.post r).freshStart = s.freshStart := by
  unfold State.post; split <;> rfl
@[simp] theorem State.post_weather (s : State) (r : Report) : (s.post r).weather = s.weather := by
  unfold State.post; split <;> rfl
@[simp] theorem State.post_supply (s : State) (r : Report) : (s.post r).supply = s.supply := by
  unfold State.post; split <;> rfl
@[simp] theorem State.post_thermal (s : State) (r : Report) : (s.post r).thermal = s.thermal := by
  unfold State.post; split <;> rfl
@[simp] theorem State.post_admission (s : State) (r : Report) : (s.post r).admission = s.admission := by
  unfold State.post; split <;> rfl
@[simp] theorem State.post_line (s : State) (r : Report) : (s.post r).line = s.line := by
  unfold State.post; split <;> rfl
@[simp] theorem State.post_clock (s : State) (r : Report) : (s.post r).clock = s.clock := by
  unfold State.post; split <;> rfl
@[simp] theorem State.post_freeCount (s : State) (r : Report) : (s.post r).freeCount = s.freeCount := by
  unfold State.post; split <;> rfl

/-! ### `State.postChan` -/
@[simp] theorem State.postChan_pending (s : State) (c : Chan) (k : ReportKind) (p : Option Nat) (b : Byte) : (s.postChan c k p b).pending = s.pending := by
  unfold State.postChan; simp
@[simp] theorem State.postChan_chans (s : State) (c : Chan) (k : ReportKind) (p : Option Nat) (b : Byte) : (s.postChan c k p b).chans = s.chans := by
  unfold State.postChan; simp
@[simp] theorem State.postChan_groups (s : State) (c : Chan) (k : ReportKind) (p : Option Nat) (b : Byte) : (s.postChan c k p b).groups = s.groups := by
  unfold State.postChan; simp
@[simp] theorem State.postChan_inputs (s : State) (c : Chan) (k : ReportKind) (p : Option Nat) (b : Byte) : (s.postChan c k p b).inputs = s.inputs := by
  unfold State.postChan; simp
@[simp] theorem State.postChan_settings (s : State) (c : Chan) (k : ReportKind) (p : Option Nat) (b : Byte) : (s.postChan c k p b).settings = s.settings := by
  unfold State.postChan; simp
@[simp] theorem State.postChan_freshStart (s : State) (c : Chan) (k : ReportKind) (p : Option Nat) (b : Byte) : (s.postChan c k p b).freshStart = s.freshStart := by
  unfold State.postChan; simp
@[simp] theorem State.postChan_weather (s : State) (c : Chan) (k : ReportKind) (p : Option Nat) (b : Byte) : (s.postChan c k p b).weather = s.weather := by
  unfold State.postChan; simp
@[simp] theorem State.postChan_supply (s : State) (c : Chan) (k : ReportKind) (p : Option Nat) (b : Byte) : (s.postChan c k p b).supply = s.supply := by
  unfold State.postChan; simp
@[simp] theorem State.postChan_thermal (s : State) (c : Chan) (k : ReportKind) (p : Option Nat) (b : Byte) : (s.postChan c k p b).thermal = s.thermal := by
  unfold State.postChan; simp
@[simp] theorem State.postChan_admission (s : State) (c : Chan) (k : ReportKind) (p : Option Nat) (b : Byte) : (s.postChan c k p b).admission = s.admission := by
  unfold State.postChan; simp
@[simp] theorem State.postChan_line (s : State) (c : Chan) (k : ReportKind) (p : Option Nat) (b : Byte) : (s.postChan c k p b).line = s.line := by
  unfold State.postChan; simp
@[simp] theorem State.postChan_clock (s : State) (c : Chan) (k : ReportKind) (p : Option Nat) (b : Byte) : (s.postChan c k p b).clock = s.clock := by
  unfold State.postChan; simp
@[simp] theorem State.postChan_freeCount (s : State) (c : Chan) (k : ReportKind) (p : Option Nat) (b : Byte) : (s.postChan c k p b).freeCount = s.freeCount := by
  unfold State.postChan; simp

/-! ### Channels of a state whose channels are unchanged -/
@[simp] theorem State.chan_setInput (s : State) (n : InputNo) (e : InputEntry) (d : Chan) : (s.setInput n e).chan d = s.chan d :=
  State.chan_congr (by simp) d
@[simp] theorem State.chan_setQueue (s : State) (q : List QueueEntry) (d : Chan) : (s.setQueue q).chan d = s.chan d :=
  State.chan_congr (by simp) d
@[simp] theorem State.chan_setHolders (s : State) (h : List QueueEntry) (d : Chan) : (s.setHolders h).chan d = s.chan d :=
  State.chan_congr (by simp) d
@[simp] theorem State.chan_leaveQueue (s : State) (c : Chan) (d : Chan) : (s.leaveQueue c).chan d = s.chan d :=
  State.chan_congr (by simp) d
@[simp] theorem State.chan_joinQueue (s : State) (c : Chan) (d : Chan) : (s.joinQueue c).chan d = s.chan d :=
  State.chan_congr (by simp) d
@[simp] theorem State.chan_releaseShare (s : State) (c : Chan) (d : Chan) : (s.releaseShare c).chan d = s.chan d :=
  State.chan_congr (by simp) d
@[simp] theorem State.chan_rankHolder (s : State) (c : Chan) (r : Nat) (d : Chan) : (s.rankHolder c r).chan d = s.chan d :=
  State.chan_congr (by simp) d
@[simp] theorem State.chan_resortQueue (s : State) (c : Chan) (r : Nat) (d : Chan) : (s.resortQueue c r).chan d = s.chan d :=
  State.chan_congr (by simp) d
@[simp] theorem State.chan_post (s : State) (r : Report) (d : Chan) : (s.post r).chan d = s.chan d :=
  State.chan_congr (by simp) d
@[simp] theorem State.chan_postChan (s : State) (c : Chan) (k : ReportKind) (p : Option Nat) (b : Byte) (d : Chan) : (s.postChan c k p b).chan d = s.chan d :=
  State.chan_congr (by simp) d

/-! ### The start queue and the share holders -/

@[simp] theorem State.setQueue_queue (s : State) (q : List QueueEntry) : (s.setQueue q).admission.queue = q := rfl
@[simp] theorem State.setQueue_holders (s : State) (q : List QueueEntry) :
    (s.setQueue q).admission.holders = s.admission.holders := rfl
@[simp] theorem State.setQueue_stagger (s : State) (q : List QueueEntry) :
    (s.setQueue q).admission.stagger = s.admission.stagger := rfl
@[simp] theorem State.setQueue_budget (s : State) (q : List QueueEntry) :
    (s.setQueue q).admission.budget = s.admission.budget := rfl
@[simp] theorem State.setHolders_queue (s : State) (h : List QueueEntry) :
    (s.setHolders h).admission.queue = s.admission.queue := rfl
@[simp] theorem State.setHolders_holders (s : State) (h : List QueueEntry) : (s.setHolders h).admission.holders = h := rfl
@[simp] theorem State.setHolders_stagger (s : State) (h : List QueueEntry) :
    (s.setHolders h).admission.stagger = s.admission.stagger := rfl
@[simp] theorem State.setHolders_budget (s : State) (h : List QueueEntry) :
    (s.setHolders h).admission.budget = s.admission.budget := rfl

end Sys2Proof.Machine
end

