-- ==== Sys2Proof/Laws/Frames.lean ====
section
/-! SUPPORT. What the operations of the motion engine and the admission unit leave alone, one lemma per operation. -/

namespace Sys2Proof.Machine

/-! ### The frames compose -/

theorem KeepsRest.refl (s : State) : KeepsRest s s := rfl

theorem KeepsRest.trans {s u v : State} (h : KeepsRest s u) (k : KeepsRest u v) : KeepsRest s v := by
  unfold KeepsRest at *; rw [k, h]

theorem KeepsRest.of_fields {s u : State} (h1 : u.pending = s.pending) (h2 : u.groups = s.groups)
    (h3 : u.inputs = s.inputs) (h4 : u.settings = s.settings) (h5 : u.freshStart = s.freshStart)
    (h6 : u.weather = s.weather) (h7 : u.supply = s.supply) (h8 : u.thermal = s.thermal) (h9 : u.line = s.line)
    (h10 : u.clock = s.clock) : KeepsRest s u := by
  unfold KeepsRest; cases u; cases s; simp_all

theorem KeepsRest.fields {s u : State} (h : KeepsRest s u) :
    u.pending = s.pending ∧ u.groups = s.groups ∧ u.inputs = s.inputs ∧ u.settings = s.settings
      ∧ u.freshStart = s.freshStart ∧ u.weather = s.weather ∧ u.supply = s.supply ∧ u.thermal = s.thermal
      ∧ u.line = s.line ∧ u.clock = s.clock := by
  unfold KeepsRest at h; rw [h]; simp

theorem KeepsOthers.refl (ch : Chan) (s : State) : KeepsOthers ch s s := fun _ _ => rfl

theorem KeepsOthers.trans {ch : Chan} {s u v : State} (h : KeepsOthers ch s u) (k : KeepsOthers ch u v) :
    KeepsOthers ch s v := fun d hd => (k d hd).trans (h d hd)

theorem KeepsClaims.refl (s : State) : KeepsClaims s s := fun _ => ⟨rfl, rfl, rfl⟩

theorem KeepsClaims.trans {s u v : State} (h : KeepsClaims s u) (k : KeepsClaims u v) : KeepsClaims s v := fun d =>
  ⟨(k d).1.trans (h d).1, (k d).2.1.trans (h d).2.1, (k d).2.2.trans (h d).2.2⟩

theorem ActsOn.refl (ch : Chan) (s : State) : ActsOn ch s s := ⟨.refl s, .refl ch s, .refl s⟩

theorem ActsOn.trans {ch : Chan} {s u v : State} (h : ActsOn ch s u) (k : ActsOn ch u v) : ActsOn ch s v :=
  ⟨h.1.trans k.1, h.2.1.trans k.2.1, h.2.2.trans k.2.2⟩

theorem ActsOn.after {ch : Chan} {s u v : State} (k : ActsOn ch u v) (h : ActsOn ch s u) : ActsOn ch s v := h.trans k

/-- A change with the channels untouched and the rest kept concerns any channel. -/
theorem ActsOn.of_chans {ch : Chan} {s u : State} (hr : KeepsRest s u) (hc : u.chans = s.chans) : ActsOn ch s u :=
  ⟨hr, fun d _ => State.chan_congr hc d, fun d => by simp [State.chan_congr hc d]⟩

/-- A change of the record of `ch` that keeps its profile, claims and airing record. -/
theorem ActsOn.modChan (ch : Chan) (s : State) (f : Channel → Channel)
    (h : ∀ c, (f c).profile = c.profile ∧ (f c).slots = c.slots ∧ (f c).airing = c.airing) :
    ActsOn ch s (s.modChan ch f) := by
  refine ⟨rfl, fun d hd => State.chan_modChan_ne s f hd, fun d => ?_⟩
  by_cases hd : d = ch
  · subst hd; simp [h]
  · simp [State.chan_modChan_ne s f hd]

/-! ### The small operations -/

theorem ActsOn.setQueue (ch : Chan) (s : State) (q : List QueueEntry) : ActsOn ch s (s.setQueue q) := .of_chans rfl rfl

theorem ActsOn.setHolders (ch : Chan) (s : State) (h : List QueueEntry) : ActsOn ch s (s.setHolders h) := .of_chans rfl rfl

theorem ActsOn.leaveQueue (ch d : Chan) (s : State) : ActsOn ch s (s.leaveQueue d) := .setQueue ..

theorem ActsOn.joinQueue (ch d : Chan) (s : State) : ActsOn ch s (s.joinQueue d) := .setQueue ..

theorem ActsOn.resortQueue (ch d : Chan) (r : Nat) (s : State) : ActsOn ch s (s.resortQueue d r) := by
  unfold State.resortQueue; split
  · exact .refl _ _
  · exact .setQueue ..

theorem ActsOn.releaseShare (ch d : Chan) (s : State) : ActsOn ch s (s.releaseShare d) := .setHolders ..

theorem ActsOn.rankHolder (ch d : Chan) (r : Nat) (s : State) : ActsOn ch s (s.rankHolder d r) := .setHolders ..

theorem ActsOn.post (ch : Chan) (s : State) (r : Report) : ActsOn ch s (s.post r) := by
  unfold State.post; split
  · exact .of_chans rfl rfl
  · exact .refl _ _

theorem ActsOn.postChan (ch d : Chan) (s : State) (k : ReportKind) (p : Option Nat) (b : Byte) :
    ActsOn ch s (s.postChan d k p b) := .post ..

theorem ActsOn.passRank (ch d : Chan) (s : State) (r : Option Nat) : ActsOn ch s (s.passRank d r) := by
  unfold State.passRank; split
  · split
    · exact .rankHolder ..
    · exact ActsOn.trans (u := s.freeRank.2) (.of_chans rfl rfl) (.rankHolder ..)
  · exact .refl _ _

/-! ### Channel records: what keeps the profile, the claims and the airing record -/

/-- A channel record keeps its profile, its claims and its airing record. -/
def Channel.Kept (c d : Channel) : Prop := d.profile = c.profile ∧ d.slots = c.slots ∧ d.airing = c.airing

theorem Channel.kept_refl (c : Channel) : c.Kept c := ⟨rfl, rfl, rfl⟩

theorem Channel.Kept.trans {c d e : Channel} (h : c.Kept d) (k : d.Kept e) : c.Kept e :=
  ⟨k.1.trans h.1, k.2.1.trans h.2.1, k.2.2.trans h.2.2⟩

theorem Channel.kept_enterMoving (c : Channel) (n : Nat) (k : MoveKind) (d : Dir) : c.Kept (c.enterMoving n k d) :=
  ⟨rfl, rfl, rfl⟩

theorem Channel.kept_enterBackoff (c : Channel) (n : Nat) : c.Kept (c.enterBackoff n) := ⟨rfl, rfl, rfl⟩

theorem Channel.kept_driveOff (c : Channel) (l : LegStage) : c.Kept (c.driveOff l) := ⟨rfl, rfl, rfl⟩

theorem Channel.kept_enterBraking (c : Channel) (r : BrakingReason) (h : Option HaltCause) (b : Bool) :
    c.Kept (c.enterBraking r h b) := ⟨rfl, rfl, rfl⟩

theorem Channel.kept_leaveBraking (c : Channel) (m : MotionState) : c.Kept (c.leaveBraking m) := ⟨rfl, rfl, rfl⟩

theorem Channel.kept_enterFaulted (c : Channel) (f : FaultCode) : c.Kept (c.enterFaulted f) := ⟨rfl, rfl, rfl⟩

theorem Channel.kept_setPhase (c : Channel) (p : PhaseLevel) : c.Kept (c.setPhase p) := ⟨rfl, rfl, rfl⟩

theorem Channel.kept_follow (c : Channel) (d : Dir) (t : Nat) : c.Kept (c.follow d t) := ⟨rfl, rfl, rfl⟩

theorem Channel.kept_learn (c : Channel) : c.Kept c.learn := by
  unfold Channel.learn; split <;> exact ⟨rfl, rfl, rfl⟩

theorem Channel.kept_timeMove (c : Channel) : c.Kept c.timeMove := by
  unfold Channel.timeMove; split <;> exact ⟨rfl, rfl, rfl⟩

theorem Channel.kept_countPulse (c : Channel) (n : Nat) : c.Kept (c.countPulse n) := ⟨rfl, rfl, rfl⟩

theorem Channel.kept_rampStep (c : Channel) : c.Kept c.rampStep := by
  unfold Channel.rampStep; split <;> exact ⟨rfl, rfl, rfl⟩

theorem Channel.kept_sampleCurrent (c : Channel) (v : Nat) : c.Kept (c.sampleCurrent v) := by
  unfold Channel.sampleCurrent; split <;> exact ⟨rfl, rfl, rfl⟩

theorem Channel.kept_clearFault (c : Channel) : c.Kept c.clearFault := ⟨rfl, rfl, rfl⟩

/-! ### The motion engine -/

theorem ActsOn.brake (ch : Chan) (s : State) (r : BrakingReason) (h : Option HaltCause) (b : Bool) :
    ActsOn ch s (s.brake ch r h b) := by
  have h1 : ActsOn ch s (s.modChan ch (fun c => c.enterBraking r h b)) := .modChan _ _ _ fun c => c.kept_enterBraking r h b
  unfold State.brake; split
  · exact h1
  · exact h1.trans (.releaseShare ..)

theorem ActsOn.settleAtRest (ch : Chan) (s : State) : ActsOn ch s (s.settleAtRest ch) := by
  unfold State.settleAtRest; split
  · exact ActsOn.after (.joinQueue ..) (ActsOn.modChan _ _ _ fun _ => ⟨rfl, rfl, rfl⟩)
  · exact .modChan _ _ _ fun _ => ⟨rfl, rfl, rfl⟩

theorem ActsOn.enterDwell (ch : Chan) (s : State) : ActsOn ch s (s.enterDwell ch) :=
  .modChan _ _ _ fun _ => ⟨rfl, rfl, rfl⟩

theorem ActsOn.faultChannel (ch : Chan) (s : State) (f : FaultCode) : ActsOn ch s (s.faultChannel ch f) := by
  unfold State.faultChannel; split
  · exact .refl _ _
  · exact ActsOn.after (.postChan ..) (ActsOn.after (.leaveQueue ..) (ActsOn.after (.releaseShare ..)
      (ActsOn.modChan _ _ _ fun c => c.kept_enterFaulted f)))

theorem ActsOn.retargetMoving (ch : Chan) (s : State) (b : Bool) : ActsOn ch s (s.retargetMoving ch b) := by
  unfold State.retargetMoving
  dsimp only
  split
  · split
    · split
      · split
        · exact .modChan _ _ _ fun c => c.kept_follow ..
        · exact .brake ..
      · exact .brake ..
    · exact .refl _ _
  · split
    · split
      · have h1 := fun (n : Nat) => ActsOn.modChan ch s (fun c => { c with motion := { c.motion with duration := n } })
          fun _ => ⟨rfl, rfl, rfl⟩
        split
        · exact (h1 _).trans (.brake ..)
        · exact h1 _
      · exact .brake ..
    · exact .brake ..
  · split
    · exact .brake ..
    · split
      · exact .brake ..
      · exact .refl _ _
    · exact .refl _ _

theorem ActsOn.actOnTarget (ch : Chan) (s : State) (b : Bool) : ActsOn ch s (s.actOnTarget ch b) := by
  unfold State.actOnTarget
  split
  · split
    · exact ActsOn.after (.joinQueue ..) (ActsOn.modChan _ _ _ fun _ => ⟨rfl, rfl, rfl⟩)
    · exact .refl _ _
  · split
    · exact .resortQueue ..
    · exact ActsOn.after (.leaveQueue ..) (ActsOn.modChan _ _ _ fun _ => ⟨rfl, rfl, rfl⟩)
  · exact .retargetMoving ..
  · exact .refl _ _

theorem ActsOn.takeTarget (ch : Chan) (s : State) (sel : Selection) : ActsOn ch s (s.takeTarget ch sel) := by
  unfold State.takeTarget; dsimp only; split
  · exact .modChan _ _ _ fun _ => ⟨rfl, rfl, rfl⟩
  · exact ActsOn.after (.passRank ..) (ActsOn.after (.actOnTarget ..) (ActsOn.modChan _ _ _ fun _ => ⟨rfl, rfl, rfl⟩))

theorem ActsOn.retarget (ch : Chan) (s : State) : ActsOn ch s (s.retarget ch) :=
  ActsOn.after (.takeTarget ..) (ActsOn.modChan _ _ _ fun _ => ⟨rfl, rfl, rfl⟩)

theorem ActsOn.shedChannel (ch : Chan) (s : State) (h : HaltCause) : ActsOn ch s (s.shedChannel ch h) := by
  unfold State.shedChannel; split
  · exact .brake ..
  · exact .brake ..
  · split
    · exact ActsOn.after (.releaseShare ..) (ActsOn.modChan _ _ _ fun _ => ⟨rfl, rfl, rfl⟩)
    · exact .refl _ _
  · exact .refl _ _

theorem ActsOn.endArrive (ch : Chan) (s : State) : ActsOn ch s (s.endArrive ch) := by
  unfold State.endArrive; dsimp only
  refine ActsOn.after (.settleAtRest ..) (ActsOn.after (.postChan ..) (ActsOn.modChan _ _ _ fun c => ?_))
  exact ((Channel.kept_learn c).trans (Channel.kept_timeMove _)).trans
    (Channel.Kept.trans (Channel.kept_leaveBraking _ .idle) ⟨rfl, rfl, rfl⟩)

theorem ActsOn.endAtEnd (ch : Chan) (s : State) : ActsOn ch s (s.endAtEnd ch) := by
  unfold State.endAtEnd; dsimp only
  split
  · exact ActsOn.after (.retarget ..) (ActsOn.after (.postChan ..) (ActsOn.after (.postChan ..) (ActsOn.modChan _ _ _ fun _ => ⟨rfl, rfl, rfl⟩)))
  · exact ActsOn.after (.settleAtRest ..) (ActsOn.after (.postChan ..) (ActsOn.modChan _ _ _ fun _ => ⟨rfl, rfl, rfl⟩))

/-- The reports of a braking that ends change the report queue alone. -/
theorem ActsOn.postStopped (ch : Chan) (cause : Option HaltCause) (byReset : Bool) (s : State) :
    ActsOn ch s (s.postStopped ch cause byReset) := by
  cases cause <;> cases byReset <;> simp only [State.postStopped, Bool.false_eq_true, if_false, if_true]
  · exact .refl ..
  · exact .postChan ..
  · exact .postChan ..
  · exact ActsOn.after (.postChan ..) (.postChan ..)

theorem ActsOn.endStop (ch : Chan) (s : State) : ActsOn ch s (s.endStop ch) := by
  unfold State.endStop; dsimp only
  have posted := fun u => ActsOn.postStopped ch (s.chan ch).motion.haltCause (s.chan ch).motion.byReset u
  have left : ActsOn ch s (s.modChan ch (fun c =>
      { (c.timeMove.leaveBraking .idle) with
        motion := { (c.timeMove.leaveBraking .idle).motion with haltCause := none, afterBackoff := false } })) :=
    .modChan _ _ _ fun c => (Channel.kept_timeMove c).trans
      (Channel.Kept.trans (Channel.kept_leaveBraking _ .idle) ⟨rfl, rfl, rfl⟩)
  split
  · exact (left.trans (posted _)).trans (.enterDwell ..)
  · split
    · exact left.trans (posted _)
    · split
      · exact (left.trans (posted _)).trans (.settleAtRest ..)
      · exact (left.trans (posted _)).trans (.enterDwell ..)

theorem ActsOn.endObstruct (ch : Chan) (s : State) : ActsOn ch s (s.endObstruct ch) := by
  unfold State.endObstruct; dsimp only; split
  · exact .faultChannel ..
  · split
    · exact ActsOn.after (.enterDwell ..) (ActsOn.after (.releaseShare ..) (ActsOn.modChan _ _ _ fun _ => ⟨rfl, rfl, rfl⟩))
    · exact ActsOn.after (.modChan _ _ _ fun c => c.kept_enterBackoff _) (ActsOn.modChan _ _ _ fun _ => ⟨rfl, rfl, rfl⟩)

theorem ActsOn.endBraking (ch : Chan) (s : State) : ActsOn ch s (s.endBraking ch) := by
  unfold State.endBraking; split
  · exact .endArrive ..
  · exact .endAtEnd ..
  · exact .endObstruct ..
  · exact .endStop ..
  · exact .endStop ..

theorem ActsOn.settleExpired (ch : Chan) (s : State) : ActsOn ch s (s.settleExpired ch) := by
  have h1 := ActsOn.modChan ch s (fun c => { c with motion := { c.motion with settleTimer := none } })
    fun _ => ⟨rfl, rfl, rfl⟩
  unfold State.settleExpired; split
  · dsimp only; split
    · exact h1.trans (.endBraking ..)
    · exact h1
  · exact .refl _ _

theorem ActsOn.dwellExpired (ch : Chan) (s : State) : ActsOn ch s (s.dwellExpired ch) := by
  have h1 := ActsOn.modChan ch s (fun c => { c with motion := { c.motion with dwellTimer := none } })
    fun _ => ⟨rfl, rfl, rfl⟩
  unfold State.dwellExpired; split
  · dsimp only; split
    · exact h1.trans (.settleAtRest ..)
    · exact h1
  · exact .refl _ _

theorem ActsOn.timedArrives (ch : Chan) (s : State) : ActsOn ch s (s.timedArrives ch) := by
  unfold State.timedArrives; split
  · exact .brake ..
  · exact .refl _ _

/-! ### Travel sensing and current supervision -/

theorem ActsOn.dropReference (ch : Chan) (s : State) : ActsOn ch s (s.dropReference ch) := by
  unfold State.dropReference; dsimp only; split
  · exact ActsOn.after (.leaveQueue ..) (ActsOn.after (.postChan ..) (ActsOn.modChan _ _ _ fun _ => ⟨rfl, rfl, rfl⟩))
  · exact ActsOn.after (.postChan ..) (ActsOn.modChan _ _ _ fun _ => ⟨rfl, rfl, rfl⟩)

theorem ActsOn.driftPulse (ch : Chan) (s : State) : ActsOn ch s (s.driftPulse ch) := by
  unfold State.driftPulse; dsimp only; split
  · exact .settleAtRest ..
  · exact ActsOn.after (.leaveQueue ..) (ActsOn.modChan _ _ _ fun _ => ⟨rfl, rfl, rfl⟩)
  · exact .refl _ _

theorem ActsOn.actOnPulse (ch : Chan) (s : State) : ActsOn ch s (s.actOnPulse ch) := by
  unfold State.actOnPulse; dsimp only; split
  · split
    · split
      · exact .brake ..
      · split
        · exact .modChan _ _ _ fun c => c.kept_setPhase _
        · exact .refl _ _
    · exact .refl _ _
  · split
    · exact .brake ..
    · exact .refl _ _
  · split
    · exact .driftPulse ..
    · exact .refl _ _
  · split
    · exact .driftPulse ..
    · exact .refl _ _
  · split
    · exact .driftPulse ..
    · exact .refl _ _
  · exact .refl _ _

theorem ActsOn.takePulse (ch : Chan) (s : State) : ActsOn ch s (s.takePulse ch) := by
  have h1 := ActsOn.modChan ch s (fun c => c.countPulse s.clock.tenths) fun c => c.kept_countPulse _
  unfold State.takePulse; dsimp only; split
  · exact h1.trans (.faultChannel ..)
  · split
    · exact h1.trans (.dropReference ..)
    · exact h1.trans (.actOnPulse ..)

theorem ActsOn.resistance (ch : Chan) (s : State) (f : State → State) (h : ActsOn ch s (f s)) :
    ActsOn ch s (s.resistance ch f) := by
  unfold State.resistance; dsimp only; split
  · split
    · exact .brake ..
    · split
      · exact .brake ..
      · exact h
    · exact .brake ..
  · exact .brake ..
  · exact .refl _ _

theorem ActsOn.stallExpires (ch : Chan) (s : State) : ActsOn ch s (s.stallExpires ch) := by
  unfold State.stallExpires; split
  · exact ActsOn.after (.resistance _ _ _ (.faultChannel ..)) (ActsOn.modChan _ _ _ fun _ => ⟨rfl, rfl, rfl⟩)
  · exact .refl _ _

theorem ActsOn.filterExpires (ch : Chan) (s : State) : ActsOn ch s (s.filterExpires ch) := by
  unfold State.filterExpires; split
  · exact ActsOn.after (.resistance _ _ _ (.brake ..)) (ActsOn.modChan _ _ _ fun _ => ⟨rfl, rfl, rfl⟩)
  · exact .refl _ _

theorem ActsOn.shortExpires (ch : Chan) (s : State) : ActsOn ch s (s.shortExpires ch) := by
  have h1 := ActsOn.modChan ch s (fun c => { c with current := { c.current with short := none } })
    fun _ => ⟨rfl, rfl, rfl⟩
  unfold State.shortExpires; split
  · dsimp only; split
    · exact h1.trans (.faultChannel ..)
    · exact h1
  · exact .refl _ _

end Sys2Proof.Machine
end

