-- ==== Sys2Proof/Laws/Admission.lean ====
section
/-! SUPPORT. What the admission unit's operations can do: admissions, sheds, preemptions, the evaluation and the budget. -/

namespace Sys2Proof.Machine

/-! ### Lists of entries -/

theorem mem_dropChan {c : Chan} {l : List QueueEntry} {e : QueueEntry} : e ∈ dropChan c l ↔ e ∈ l ∧ e.chan ≠ c := by
  simp [dropChan]

theorem mem_insertEntry {e x : QueueEntry} {l : List QueueEntry} : x ∈ insertEntry e l ↔ x = e ∨ x ∈ l := by
  induction l with
  | nil => simp [insertEntry]
  | cons y ys ih =>
    unfold insertEntry
    split
    · simp
    · simp only [List.mem_cons, ih]; tauto

theorem firstShed_mem {l : List QueueEntry} {e : QueueEntry} (h : firstShed l = some e) : e ∈ l := by
  induction l generalizing e with
  | nil => simp [firstShed] at h
  | cons x xs ih =>
    unfold firstShed at h
    split at h
    · simp_all
    · split at h
      · rename_i y hy _; exact List.mem_cons_of_mem _ (ih (by simp_all))
      · simp_all

/-- In a non-empty list there is a first in shed order. -/
theorem firstShed_isSome {l : List QueueEntry} (h : l ≠ []) : ∃ e, firstShed l = some e := by
  cases l with
  | nil => exact absurd rfl h
  | cons x xs =>
    unfold firstShed
    split
    · exact ⟨_, rfl⟩
    · split <;> exact ⟨_, rfl⟩

/-! ### The relation composes -/

theorem StartsAndSheds.refl (s : State) : StartsAndSheds s s :=
  ⟨rfl, .refl s, fun _ => ⟨rfl, rfl, rfl, rfl⟩, fun _ => ⟨rfl, rfl, rfl, rfl⟩, fun _ h => h,
    fun e h => ⟨e, .inr h, rfl⟩, rfl, fun _ _ _ => rfl⟩

theorem StartsAndSheds.trans {s u v : State} (h : StartsAndSheds s u) (k : StartsAndSheds u v) : StartsAndSheds s v := by
  obtain ⟨h1, h2, h3, h4, h5, h6, h7, h8⟩ := h
  obtain ⟨k1, k2, k3, k4, k5, k6, k7, k8⟩ := k
  refine ⟨by rw [k1, h1], h2.trans k2, fun d => ?_, fun d => ?_, fun e he => h5 e (k5 e he), ?_, k7.trans h7, ?_⟩
  · have a := h3 d; have b := k3 d
    exact ⟨b.1.trans a.1, b.2.1.trans a.2.1, b.2.2.1.trans a.2.2.1, b.2.2.2.trans a.2.2.2⟩
  · have a := h4 d; have b := k4 d
    exact ⟨b.1.trans a.1, b.2.1.trans a.2.1, b.2.2.1.trans a.2.2.1, b.2.2.2.trans a.2.2.2⟩
  · intro e he
    obtain ⟨f, hf, hc⟩ := k6 e he
    rcases hf with hf | hf
    · exact ⟨f, .inl (h5 f hf), hc⟩
    · obtain ⟨g, hg, hgc⟩ := h6 f hf
      exact ⟨g, hg, hgc.trans hc⟩
  · intro d hq hh
    refine (k8 d (fun e he => hq e (h5 e he)) fun e he => ?_).trans (h8 d hq hh)
    obtain ⟨f, hf, hc⟩ := h6 e he
    rcases hf with hf | hf
    · rw [← hc]; exact hq f hf
    · rw [← hc]; exact hh f hf

/-- Everything but the channels and the admission unit is as before. -/
theorem StartsAndSheds.fields {s u : State} (h : StartsAndSheds s u) :
    u.pending = s.pending ∧ u.groups = s.groups ∧ u.inputs = s.inputs ∧ u.settings = s.settings
      ∧ u.freshStart = s.freshStart ∧ u.weather = s.weather ∧ u.supply = s.supply ∧ u.thermal = s.thermal
      ∧ u.line = s.line ∧ u.reports = s.reports ∧ u.clock = s.clock ∧ u.freeCount = s.freeCount := by
  rw [h.1]; simp

theorem StartsAndSheds.keepsRest {s u : State} (h : StartsAndSheds s u) : KeepsRest s u := by
  obtain ⟨a, b, c, d, e, f, g, i, j, _, l, _⟩ := h.fields
  exact .of_fields a b c d e f g i j l

/-- A change of one channel's motion, with the queue and the holders no larger than before. -/
theorem StartsAndSheds.of_modChan {s : State} {e : QueueEntry} (he : e ∈ s.admission.queue ∨ e ∈ s.admission.holders)
    (f : Channel → Channel)
    (hk : ∀ c : Channel, c.Kept (f c)) (hs : ∀ c : Channel, (f c).travel.position = c.travel.position ∧ (f c).travel.period = c.travel.period
      ∧ (f c).travel.lastPulse = c.travel.lastPulse ∧ (f c).current.sample = c.current.sample)
    (hm : ∀ c : Channel, (f c).selected = c.selected ∧ (f c).motion.hand = c.motion.hand
      ∧ (f c).motion.referenced = c.motion.referenced ∧ (f c).motion.retry = c.motion.retry) :
    StartsAndSheds s (s.modChan e.chan f) := by
  refine ⟨rfl, fun d => ?_, fun d => ?_, fun d => ?_, fun _ h => h, fun x h => ⟨x, .inr h, rfl⟩, rfl, fun d hq hh => ?_⟩
  · by_cases hd : d = e.chan
    · subst hd; simpa [Channel.Kept] using hk (s.chan e.chan)
    · simp [State.chan_modChan_ne s f hd]
  · by_cases hd : d = e.chan
    · subst hd; simpa using hs (s.chan e.chan)
    · simp [State.chan_modChan_ne s f hd]
  · by_cases hd : d = e.chan
    · subst hd; simpa using hm (s.chan e.chan)
    · simp [State.chan_modChan_ne s f hd]
  · refine State.chan_modChan_ne s f ?_
    rintro rfl
    rcases he with he | he
    · exact hq e he rfl
    · exact hh e he rfl

/-- A change of the queue, the holders and the stagger timer by entries already there. -/
theorem StartsAndSheds.of_admission {s u : State} (h : u = { s with admission := u.admission })
    (hb : u.admission.budget = s.admission.budget)
    (hq : ∀ e ∈ u.admission.queue, e ∈ s.admission.queue)
    (hh : ∀ e ∈ u.admission.holders, ∃ f, (f ∈ s.admission.queue ∨ f ∈ s.admission.holders) ∧ f.chan = e.chan) :
    StartsAndSheds s u := by
  have hc : u.chans = s.chans := by rw [h]
  refine ⟨by rw [hc]; exact h, fun d => ?_, fun d => ?_, fun d => ?_, hq, hh, hb, fun d _ _ => State.chan_congr hc d⟩ <;>
    simp [State.chan_congr hc d]

/-! ### Sheds -/

theorem StartsAndSheds.releaseShare (s : State) (c : Chan) : StartsAndSheds s (s.releaseShare c) :=
  .of_admission rfl rfl (fun _ h => h) fun e h => ⟨e, .inr (mem_dropChan.1 h).1, rfl⟩

/-- A shed of a channel that has an entry; `s.releaseShare` has already taken the share away. -/
theorem StartsAndSheds.shedChannel {s : State} {e : QueueEntry}
    (he : e ∈ s.admission.queue ∨ e ∈ s.admission.holders) (cause : HaltCause) :
    StartsAndSheds s (s.shedChannel e.chan cause) := by
  have hb : StartsAndSheds s (s.brake e.chan .stop (some cause) false) := by
    have h1 : StartsAndSheds s (s.modChan e.chan (fun c => c.enterBraking .stop (some cause) false)) :=
      .of_modChan he _ (fun c => c.kept_enterBraking ..) (fun _ => ⟨rfl, rfl, rfl, rfl⟩) fun _ => ⟨rfl, rfl, rfl, rfl⟩
    exact h1.trans (.releaseShare ..)
  unfold State.shedChannel
  split
  · exact hb
  · exact hb
  · split
    · exact (StartsAndSheds.of_modChan he (fun c =>
        { c with motion := { c.motion with reason := some .stop, haltCause := some cause } })
        (fun _ => ⟨rfl, rfl, rfl⟩) (fun _ => ⟨rfl, rfl, rfl, rfl⟩) fun _ => ⟨rfl, rfl, rfl, rfl⟩).trans (.releaseShare ..)
    · exact .refl _
  · exact .refl _

theorem StartsAndSheds.shed {s : State} {e : QueueEntry} (he : e ∈ s.admission.holders) (cause : HaltCause) :
    StartsAndSheds s (s.shed e cause) := by
  -- the share goes first, so the channel's entry is read in `s`
  have key : s.shed e cause = (s.shedChannel e.chan cause).releaseShare e.chan := by
    have hdrop : ∀ l, dropChan e.chan (dropChan e.chan l) = dropChan e.chan l := fun l => by simp [dropChan]
    have hr : ((s.releaseShare e.chan).releaseShare e.chan) = s.releaseShare e.chan := by
      simp [State.releaseShare, State.setHolders, hdrop]
    unfold State.shed State.shedChannel
    simp only [State.chan_releaseShare]
    split
    · simp [State.brake, State.releaseShare, State.setHolders, State.modChan, hdrop]
    · simp [State.brake, State.releaseShare, State.setHolders, State.modChan, hdrop]
    · split
      · simp [State.releaseShare, State.setHolders, State.modChan, hdrop]
      · rfl
    · rfl
  rw [key]
  exact (StartsAndSheds.shedChannel (.inr he) cause).trans (.releaseShare ..)

theorem StartsAndSheds.shedLoop (cause : HaltCause) (n : Nat) (s : State) : StartsAndSheds s (shedLoop cause n s) := by
  induction n generalizing s with
  | zero => exact .refl s
  | succ n ih =>
    unfold Sys2Proof.Machine.shedLoop
    split
    · exact .refl s
    · split
      · exact .refl s
      · rename_i h hh
        exact (StartsAndSheds.shed (firstShed_mem hh) cause).trans (ih _)

theorem StartsAndSheds.preemptLoop (e : QueueEntry) (n : Nat) (s : State) : StartsAndSheds s (preemptLoop e n s) := by
  induction n generalizing s with
  | zero => exact .refl s
  | succ n ih =>
    unfold Sys2Proof.Machine.preemptLoop
    split
    · exact .refl s
    · split
      · exact .refl s
      · rename_i h hh
        have hm := firstShed_mem hh
        exact (StartsAndSheds.shed (by simp [candidates] at hm; exact hm.1) .preempt).trans (ih _)

theorem StartsAndSheds.preempt (e : QueueEntry) (s : State) : StartsAndSheds s (s.preempt e) := .preemptLoop ..

/-! ### Admission -/

theorem StartsAndSheds.admitHead {s : State} {e : QueueEntry} (he : e ∈ s.admission.queue) :
    StartsAndSheds s (s.admitHead e) := by
  have h1 : StartsAndSheds s { s with admission := { s.admission with
      queue := dropChan e.chan s.admission.queue, holders := s.admission.holders ++ [{ e with time := s.clock.now }],
      stagger := timerOf s.settings.stagger } } := by
    refine .of_admission rfl rfl (fun x hx => (mem_dropChan.1 hx).1) fun x hx => ?_
    rcases List.mem_append.1 hx with hx | hx
    · exact ⟨x, .inr hx, rfl⟩
    · simp only [List.mem_singleton] at hx
      exact ⟨e, .inl he, by rw [hx]⟩
  have hin : (⟨e.chan, e.rank, s.clock.now, e.weight⟩ : QueueEntry) ∈
      (s.admission.holders ++ [{ e with time := s.clock.now }] : List QueueEntry) := by simp
  unfold State.admitHead; dsimp only
  split
  · exact h1.trans (StartsAndSheds.of_modChan (e := ⟨e.chan, e.rank, s.clock.now, e.weight⟩) (.inr hin) _
      (fun c => c.kept_enterMoving ..) (fun _ => ⟨rfl, rfl, rfl, rfl⟩) fun _ => ⟨rfl, rfl, rfl, rfl⟩)
  · refine StartsAndSheds.trans ?_ (.releaseShare ..)
    exact h1.trans (StartsAndSheds.of_modChan (e := ⟨e.chan, e.rank, s.clock.now, e.weight⟩) (.inr hin)
      (fun c => { c with motion := { c.motion with state := .idle } })
      (fun _ => ⟨rfl, rfl, rfl⟩) (fun _ => ⟨rfl, rfl, rfl, rfl⟩) fun _ => ⟨rfl, rfl, rfl, rfl⟩)

theorem preemptLoop_queue (e : QueueEntry) (n : Nat) (s : State) :
    (preemptLoop e n s).admission.queue = s.admission.queue := by
  have hq : ∀ (s : State) (h : QueueEntry), (s.shed h .preempt).admission.queue = s.admission.queue := by
    intro s h
    unfold State.shed State.shedChannel
    split
    · rfl
    · rfl
    · split <;> rfl
    · rfl
  induction n generalizing s with
  | zero => rfl
  | succ n ih =>
    unfold preemptLoop
    split
    · rfl
    · split
      · rfl
      · rw [ih, hq]

theorem StartsAndSheds.admitLoop (n : Nat) (s : State) : StartsAndSheds s (admitLoop n s) := by
  induction n generalizing s with
  | zero => exact .refl s
  | succ n ih =>
    unfold Sys2Proof.Machine.admitLoop
    split
    · exact .refl s
    · rename_i e l hq
      have he : e ∈ s.admission.queue := by rw [hq]; simp
      split
      · exact .refl s
      · split
        · exact (StartsAndSheds.admitHead he).trans (ih _)
        · split
          · dsimp only
            split
            · have he' : e ∈ (s.preempt e).admission.queue := by
                unfold State.preempt; rw [preemptLoop_queue]; exact he
              exact ((StartsAndSheds.preempt e s).trans (.admitHead he')).trans (ih _)
            · exact .preempt e s
          · exact .refl s

/-- All that an admission evaluation can do. -/
theorem StartsAndSheds.evaluateAdmission (s : State) : StartsAndSheds s s.evaluateAdmission := .admitLoop ..

/-- All that the end of a command can do. -/
theorem StartsAndSheds.finish (s u : State) : StartsAndSheds u (s.finish u) := by
  unfold State.finish; split
  · exact .refl u
  · exact .evaluateAdmission u

/-- A command that leaves the admission unit as it was makes no evaluation. -/
theorem State.finish_eq_self {s u : State} (h : s.admission = u.admission) : s.finish u = u := by
  simp [State.finish, h]

/-- An empty start queue admits nothing. -/
theorem State.evaluateAdmission_of_queue_nil {s : State} (h : s.admission.queue = []) : s.evaluateAdmission = s := by
  simp [State.evaluateAdmission, h, Sys2Proof.Machine.admitLoop]

end Sys2Proof.Machine
end

