-- ==== Sys2Proof/Laws/Aside.lean ====
section
/-! SUPPORT. What the selector, the motion engine and the admission unit do is the same whatever stands in the line interface and in
the report queue: one lemma per operation. -/

namespace Sys2Proof.Machine

/-- The station with another line interface and report queue. -/
def State.aside (s : State) (l : Line) (r : Reports) : State := { s with line := l, reports := r }

variable (s : State) (l : Line) (r : Reports) (ch : Chan)

@[simp] theorem State.chan_aside : (s.aside l r).chan ch = s.chan ch := rfl
@[simp] theorem State.admission_aside : (s.aside l r).admission = s.admission := rfl
@[simp] theorem State.weather_aside : (s.aside l r).weather = s.weather := rfl
@[simp] theorem State.clock_aside : (s.aside l r).clock = s.clock := rfl
@[simp] theorem State.settings_aside : (s.aside l r).settings = s.settings := rfl

theorem State.modChan_aside (f : Channel → Channel) : (s.aside l r).modChan ch f = (s.modChan ch f).aside l r := rfl

/-! ### Re-targets -/

theorem State.brake_aside (reason : BrakingReason) (cause : Option HaltCause) (b : Bool) :
    (s.aside l r).brake ch reason cause b = (s.brake ch reason cause b).aside l r := by
  unfold State.brake; dsimp only; split <;> rfl

theorem State.resortQueue_aside (n : Nat) : (s.aside l r).resortQueue ch n = (s.resortQueue ch n).aside l r := by
  unfold State.resortQueue; rw [State.admission_aside]; split <;> rfl

theorem State.retargetMoving_aside (b : Bool) : (s.aside l r).retargetMoving ch b = (s.retargetMoving ch b).aside l r := by
  unfold State.retargetMoving; dsimp only; rw [State.chan_aside]
  split
  · split
    · split
      · split
        · rfl
        · exact brake_aside ..
      · exact brake_aside ..
    · rfl
  · split
    · split
      · split
        · rw [modChan_aside, brake_aside]
        · rfl
      · exact brake_aside ..
    · exact brake_aside ..
  · split
    · exact brake_aside ..
    · split
      · exact brake_aside ..
      · rfl
    · rfl

theorem State.actOnTarget_aside (b : Bool) : (s.aside l r).actOnTarget ch b = (s.actOnTarget ch b).aside l r := by
  unfold State.actOnTarget; rw [State.chan_aside]
  split
  · split <;> rfl
  · split
    · exact resortQueue_aside ..
    · rfl
  · exact retargetMoving_aside ..
  · rfl

theorem State.passRank_aside (k : Option Nat) : (s.aside l r).passRank ch k = (s.passRank ch k).aside l r := by
  unfold State.passRank
  rw [show (s.aside l r).isHolder ch = s.isHolder ch from rfl]
  split
  · split <;> rfl
  · rfl

theorem State.takeTarget_aside (sel : Selection) : (s.aside l r).takeTarget ch sel = (s.takeTarget ch sel).aside l r := by
  unfold State.takeTarget; dsimp only; rw [State.chan_aside]
  split
  · rfl
  · rw [modChan_aside, actOnTarget_aside, passRank_aside]

theorem State.retarget_aside : (s.aside l r).retarget ch = (s.retarget ch).aside l r := by
  unfold State.retarget; dsimp only
  rw [modChan_aside, takeTarget_aside]; rfl

theorem State.retargetAll_aside (chs : List Chan) : (s.aside l r).retargetAll chs = (s.retargetAll chs).aside l r := by
  unfold State.retargetAll
  induction chs generalizing s with
  | nil => rfl
  | cons x xs ih => rw [List.foldl_cons, List.foldl_cons, retarget_aside, ih]

/-! ### Admissions, sheds and preemptions -/

theorem State.admitHead_aside (e : QueueEntry) : (s.aside l r).admitHead e = (s.admitHead e).aside l r := by
  have h (a : Admission) : ({ s.aside l r with admission := a } : State) = ({ s with admission := a } : State).aside l r := rfl
  unfold State.admitHead; dsimp only
  rw [h, chan_aside, admission_aside, clock_aside, settings_aside]
  split <;> rfl

theorem State.shed_aside (e : QueueEntry) (cause : HaltCause) : (s.aside l r).shed e cause = (s.shed e cause).aside l r := by
  unfold State.shed State.shedChannel
  rw [show (s.aside l r).releaseShare e.chan = (s.releaseShare e.chan).aside l r from rfl, State.chan_aside]
  split
  · exact brake_aside ..
  · exact brake_aside ..
  · split <;> rfl
  · rfl

theorem preemptLoop_aside (e : QueueEntry) (fuel : Nat) (s : State) :
    preemptLoop e fuel (s.aside l r) = (preemptLoop e fuel s).aside l r := by
  induction fuel generalizing s with
  | zero => rfl
  | succ n ih =>
    unfold preemptLoop
    rw [show fitsBudget (s.aside l r) e = fitsBudget s e from rfl, show candidates (s.aside l r) = candidates s from rfl]
    split
    · rfl
    · split
      · rfl
      · rw [State.shed_aside, ih]

theorem admitLoop_aside (fuel : Nat) (s : State) : admitLoop fuel (s.aside l r) = (admitLoop fuel s).aside l r := by
  induction fuel generalizing s with
  | zero => rfl
  | succ n ih =>
    unfold admitLoop
    rw [State.admission_aside]
    split
    · rfl
    · rename_i e rest hq
      rw [show fitsBudget (s.aside l r) e = fitsBudget s e from rfl]
      split
      · rfl
      · split
        · rw [State.admitHead_aside, ih]
        · split
          · dsimp only
            rw [show (s.aside l r).preempt e = (s.preempt e).aside l r from preemptLoop_aside l r e _ s,
              show ∀ t : State, fitsBudget (t.aside l r) e = fitsBudget t e from fun _ => rfl]
            split
            · rw [State.admitHead_aside, ih]
            · rfl
          · rfl

theorem State.evaluateAdmission_aside : (s.aside l r).evaluateAdmission = s.evaluateAdmission.aside l r :=
  admitLoop_aside l r _ s

/-- The end of a command reads neither the line interface nor the report queue. -/
theorem State.finish_aside (b : State) : b.finish (s.aside l r) = (b.finish s).aside l r := by
  unfold State.finish; rw [State.admission_aside]
  split
  · rfl
  · exact evaluateAdmission_aside ..

theorem shedLoop_aside (cause : HaltCause) (fuel : Nat) (s : State) :
    shedLoop cause fuel (s.aside l r) = (shedLoop cause fuel s).aside l r := by
  induction fuel generalizing s with
  | zero => rfl
  | succ n ih =>
    unfold shedLoop
    rw [State.admission_aside]
    split
    · rfl
    · split
      · rfl
      · rw [State.shed_aside, ih]

theorem State.rebudget_aside (cause : HaltCause) : (s.aside l r).rebudget cause = (s.rebudget cause).aside l r := by
  have h (n : Nat) : ({ s.aside l r with admission := { s.admission with budget := n } } : State)
      = ({ s with admission := { s.admission with budget := n } } : State).aside l r := rfl
  have hb : budgetOf (s.aside l r).settings (s.aside l r).supply.state (s.aside l r).thermal.state
      = budgetOf s.settings s.supply.state s.thermal.state := rfl
  unfold State.rebudget; dsimp only
  simp only [admission_aside, hb, h, shedLoop_aside]
  split <;> rfl

end Sys2Proof.Machine
end

