-- ==== Sys2Proof/Laws/Retarget.lean ====
section
/-! SUPPORT. All that a re-target can do: what one leaves of the channel and of the station, and what several do together. -/

namespace Sys2Proof.Machine

/-- What the motion engine keeps of a channel when it acts on a target: everything but the course of the move. -/
structure Channel.SameButMove (c d : Channel) : Prop where
  profile : d.profile = c.profile
  slots : d.slots = c.slots
  airing : d.airing = c.airing
  selected : d.selected = c.selected
  hand : d.motion.hand = c.motion.hand
  referenced : d.motion.referenced = c.motion.referenced
  fault : d.motion.fault = c.motion.fault
  retry : d.motion.retry = c.motion.retry
  estimates : d.motion.eOpen = c.motion.eOpen ∧ d.motion.eClose = c.motion.eClose ∧ d.motion.timedEst = c.motion.timedEst
  sensed : d.travel.position = c.travel.position ∧ d.travel.period = c.travel.period
    ∧ d.travel.lastPulse = c.travel.lastPulse ∧ d.current.sample = c.current.sample
  counts : d.travel.runCount = c.travel.runCount ∧ d.travel.drift = c.travel.drift
  disabled : d.motion.state = .disabled ↔ c.motion.state = .disabled
  faulted : d.motion.state = .faulted ↔ c.motion.state = .faulted

theorem Channel.SameButMove.refl (c : Channel) : c.SameButMove c :=
  ⟨rfl, rfl, rfl, rfl, rfl, rfl, rfl, rfl, ⟨rfl, rfl, rfl⟩, ⟨rfl, rfl, rfl, rfl⟩, ⟨rfl, rfl⟩, .rfl, .rfl⟩

theorem Channel.SameButMove.trans {c d e : Channel} (h : c.SameButMove d) (k : d.SameButMove e) : c.SameButMove e where
  profile := k.profile.trans h.profile
  slots := k.slots.trans h.slots
  airing := k.airing.trans h.airing
  selected := k.selected.trans h.selected
  hand := k.hand.trans h.hand
  referenced := k.referenced.trans h.referenced
  fault := k.fault.trans h.fault
  retry := k.retry.trans h.retry
  estimates := ⟨k.estimates.1.trans h.estimates.1, k.estimates.2.1.trans h.estimates.2.1,
    k.estimates.2.2.trans h.estimates.2.2⟩
  sensed := ⟨k.sensed.1.trans h.sensed.1, k.sensed.2.1.trans h.sensed.2.1, k.sensed.2.2.1.trans h.sensed.2.2.1,
    k.sensed.2.2.2.trans h.sensed.2.2.2⟩
  counts := ⟨k.counts.1.trans h.counts.1, k.counts.2.trans h.counts.2⟩
  disabled := k.disabled.trans h.disabled
  faulted := k.faulted.trans h.faulted

/-- What acting on a target leaves: the other channels whole, the rest of the station, the reports, and of the admission unit
all but the queue and the holders. -/
structure State.MovesOnly (ch : Chan) (s u : State) : Prop where
  chan : (s.chan ch).SameButMove (u.chan ch)
  others : KeepsOthers ch s u
  rest : KeepsRest s u
  reports : u.reports = s.reports
  gate : u.admission.budget = s.admission.budget ∧ u.admission.stagger = s.admission.stagger

theorem State.MovesOnly.refl (ch : Chan) (s : State) : MovesOnly ch s s :=
  ⟨.refl _, .refl _ _, .refl _, rfl, ⟨rfl, rfl⟩⟩

theorem State.MovesOnly.trans {ch : Chan} {s u v : State} (h : MovesOnly ch s u) (k : MovesOnly ch u v) :
    MovesOnly ch s v :=
  ⟨h.chan.trans k.chan, h.others.trans k.others, h.rest.trans k.rest, k.reports.trans h.reports,
    ⟨k.gate.1.trans h.gate.1, k.gate.2.trans h.gate.2⟩⟩

theorem State.MovesOnly.modChan (ch : Chan) (s : State) (f : Channel → Channel)
    (h : (s.chan ch).SameButMove (f (s.chan ch))) : MovesOnly ch s (s.modChan ch f) :=
  ⟨by simpa using h, fun _ hd => State.chan_modChan_ne s f hd, rfl, rfl, ⟨rfl, rfl⟩⟩

theorem State.MovesOnly.setQueue (ch : Chan) (s : State) (q : List QueueEntry) : MovesOnly ch s (s.setQueue q) :=
  ⟨.refl _, fun _ _ => rfl, rfl, rfl, ⟨rfl, rfl⟩⟩

theorem State.MovesOnly.setHolders (ch : Chan) (s : State) (q : List QueueEntry) : MovesOnly ch s (s.setHolders q) :=
  ⟨.refl _, fun _ _ => rfl, rfl, rfl, ⟨rfl, rfl⟩⟩

/-- A change of the motion record that keeps the fields `SameButMove` names. -/
theorem Channel.SameButMove.withState (c : Channel) (m : MotionState) (hd : m = .disabled ↔ c.motion.state = .disabled)
    (hf : m = .faulted ↔ c.motion.state = .faulted) :
    c.SameButMove { c with motion := { c.motion with state := m } } :=
  ⟨rfl, rfl, rfl, rfl, rfl, rfl, rfl, rfl, ⟨rfl, rfl, rfl⟩, ⟨rfl, rfl, rfl, rfl⟩, ⟨rfl, rfl⟩, hd, hf⟩

/-- A driven channel that brakes. -/
theorem Channel.SameButMove.enterBraking (c : Channel) (r : BrakingReason) (h : Option HaltCause) (b : Bool)
    (hd : c.motion.state ≠ .disabled) (hf : c.motion.state ≠ .faulted) : c.SameButMove (c.enterBraking r h b) :=
  ⟨rfl, rfl, rfl, rfl, rfl, rfl, rfl, rfl, ⟨rfl, rfl, rfl⟩, ⟨rfl, rfl, rfl, rfl⟩, ⟨rfl, rfl⟩,
    ⟨nofun, fun k => absurd k hd⟩, ⟨nofun, fun k => absurd k hf⟩⟩

theorem State.MovesOnly.brake (ch : Chan) (s : State) (r : BrakingReason) (h : Option HaltCause) (b : Bool)
    (hd : (s.chan ch).motion.state ≠ .disabled) (hf : (s.chan ch).motion.state ≠ .faulted) :
    MovesOnly ch s (s.brake ch r h b) := by
  have h1 : MovesOnly ch s (s.modChan ch (fun c => c.enterBraking r h b)) := .modChan _ _ _ (.enterBraking _ _ _ _ hd hf)
  unfold State.brake; split
  · exact h1
  · exact h1.trans (.setHolders ..)

theorem Channel.SameButMove.follow (c : Channel) (d : Dir) (t : Nat) : c.SameButMove (c.follow d t) :=
  ⟨rfl, rfl, rfl, rfl, rfl, rfl, rfl, rfl, ⟨rfl, rfl, rfl⟩, ⟨rfl, rfl, rfl, rfl⟩, ⟨rfl, rfl⟩, .rfl, .rfl⟩

theorem State.MovesOnly.retargetMoving (ch : Chan) (s : State) (b : Bool) (hm : (s.chan ch).motion.state = .moving) :
    MovesOnly ch s (s.retargetMoving ch b) := by
  have hb : ∀ r, MovesOnly ch s (s.brake ch r none false) := fun r => .brake _ _ _ _ _ (by simp [hm]) (by simp [hm])
  unfold State.retargetMoving
  dsimp only
  split
  · split
    · split
      · split
        · exact .modChan _ _ _ (.follow ..)
        · exact hb _
      · exact hb _
    · exact .refl _ _
  · split
    · split
      · have h1 := fun (n : Nat) => State.MovesOnly.modChan ch s
          (fun c => { c with motion := { c.motion with duration := n } })
          ⟨rfl, rfl, rfl, rfl, rfl, rfl, rfl, rfl, ⟨rfl, rfl, rfl⟩, ⟨rfl, rfl, rfl, rfl⟩, ⟨rfl, rfl⟩, .rfl, .rfl⟩
        split
        · exact (h1 _).trans (.brake _ _ _ _ _ (by simp [hm]) (by simp [hm]))
        · exact h1 _
      · exact hb _
    · exact hb _
  · split
    · exact hb _
    · split
      · exact hb _
      · exact .refl _ _
    · exact .refl _ _

/-- All that acting on a target can do. -/
theorem State.MovesOnly.actOnTarget (ch : Chan) (s : State) (b : Bool) : MovesOnly ch s (s.actOnTarget ch b) := by
  unfold State.actOnTarget
  split
  · rename_i hs
    split
    · exact State.MovesOnly.trans (.modChan _ _ _ (.withState _ _ (by simp [hs]) (by simp [hs]))) (.setQueue ..)
    · exact .refl _ _
  · rename_i hs
    split
    · unfold State.resortQueue; split
      · exact .refl _ _
      · exact .setQueue ..
    · exact State.MovesOnly.trans (.modChan _ _ _ (.withState _ _ (by simp [hs]) (by simp [hs]))) (.setQueue ..)
  · rename_i hs; exact .retargetMoving _ _ _ hs
  · exact .refl _ _

/-- What a re-target leaves, and the target it gives (R34, R35, R49): the channel holds the selector's result, and outside
DISABLED that is its target in hand. -/
structure State.Retargets (ch : Chan) (s u : State) : Prop where
  claims : (u.chan ch).profile = (s.chan ch).profile ∧ (u.chan ch).slots = (s.chan ch).slots
    ∧ (u.chan ch).airing = (s.chan ch).airing
  selected : (u.chan ch).selected = evaluate s.weather (s.chan ch)
  hand : (u.chan ch).motion.hand =
    if (s.chan ch).motion.state = .disabled then {} else evaluate s.weather (s.chan ch)
  referenced : (u.chan ch).motion.referenced = (s.chan ch).motion.referenced
  fault : (u.chan ch).motion.fault = (s.chan ch).motion.fault
  estimates : (u.chan ch).motion.eOpen = (s.chan ch).motion.eOpen ∧ (u.chan ch).motion.eClose = (s.chan ch).motion.eClose
    ∧ (u.chan ch).motion.timedEst = (s.chan ch).motion.timedEst
  sensed : (u.chan ch).travel.position = (s.chan ch).travel.position ∧ (u.chan ch).travel.period = (s.chan ch).travel.period
    ∧ (u.chan ch).travel.lastPulse = (s.chan ch).travel.lastPulse ∧ (u.chan ch).current.sample = (s.chan ch).current.sample
  counts : (u.chan ch).travel.runCount = (s.chan ch).travel.runCount ∧ (u.chan ch).travel.drift = (s.chan ch).travel.drift
  disabled : (u.chan ch).motion.state = .disabled ↔ (s.chan ch).motion.state = .disabled
  faulted : (u.chan ch).motion.state = .faulted ↔ (s.chan ch).motion.state = .faulted
  others : KeepsOthers ch s u
  rest : KeepsRest s u
  reports : u.reports = s.reports
  gate : u.admission.budget = s.admission.budget ∧ u.admission.stagger = s.admission.stagger

theorem State.MovesOnly.passRank (ch : Chan) (s : State) (r : Option Nat) : MovesOnly ch s (s.passRank ch r) := by
  unfold State.passRank; split
  · split
    · exact .setHolders ..
    · exact State.MovesOnly.trans (u := s.freeRank.2) ⟨.refl _, fun _ _ => rfl, rfl, rfl, ⟨rfl, rfl⟩⟩ (.setHolders ..)
  · exact .refl _ _

/-- All that a re-target can do. -/
theorem State.Retargets.retarget (ch : Chan) (s : State) : Retargets ch s (s.retarget ch) := by
  unfold State.retarget State.takeTarget
  dsimp only
  split
  · rename_i hd
    simp only [State.chan_modChan_self] at hd
    refine ⟨?_, ?_, ?_, ?_, ?_, ?_, ?_, ?_, ?_, ?_, fun d h => ?_, rfl, rfl, ⟨rfl, rfl⟩⟩
    on_goal 11 => rw [State.chan_modChan_ne _ _ h, State.chan_modChan_ne _ _ h]
    all_goals simp [hd]
  · rename_i hd
    simp only [State.chan_modChan_self] at hd
    have key : ∀ (t u v : State), MovesOnly ch t u → MovesOnly ch u v →
        KeepsOthers ch s t → KeepsRest s t → t.reports = s.reports → t.admission = s.admission →
        t.chan ch = { s.chan ch with selected := evaluate s.weather (s.chan ch), motion := (t.chan ch).motion } →
        (t.chan ch).motion = { (s.chan ch).motion with hand := evaluate s.weather (s.chan ch), retry := (t.chan ch).motion.retry } →
        Retargets ch s v := by
      intro t u v h1 h2 ho hr hp ha hc hm
      have h := h1.trans h2
      have g := h.chan
      have hm' := hm
      generalize hmm : (t.chan ch).motion = mm at *
      refine ⟨?_, ?_, ?_, ?_, ?_, ?_, ?_, ?_, ?_, ?_, ho.trans h.others, hr.trans h.rest, h.reports.trans hp, ?_⟩
      · exact ⟨g.profile.trans (by rw [hc]), g.slots.trans (by rw [hc]), g.airing.trans (by rw [hc])⟩
      · exact g.selected.trans (by rw [hc])
      · rw [if_neg hd]; exact g.hand.trans (by rw [hmm, hm])
      · exact g.referenced.trans (by rw [hmm, hm])
      · exact g.fault.trans (by rw [hmm, hm])
      · exact ⟨g.estimates.1.trans (by rw [hmm, hm]), g.estimates.2.1.trans (by rw [hmm, hm]), g.estimates.2.2.trans (by rw [hmm, hm])⟩
      · exact ⟨g.sensed.1.trans (by rw [hc]), g.sensed.2.1.trans (by rw [hc]), g.sensed.2.2.1.trans (by rw [hc]), g.sensed.2.2.2.trans (by rw [hc])⟩
      · exact ⟨g.counts.1.trans (by rw [hc]), g.counts.2.trans (by rw [hc])⟩
      · exact g.disabled.trans (by rw [hmm, hm])
      · exact g.faulted.trans (by rw [hmm, hm])
      · exact ⟨h.gate.1.trans (by rw [ha]), h.gate.2.trans (by rw [ha])⟩
    refine key _ _ _ (.actOnTarget ..) (.passRank ..) (fun d h => ?_) rfl rfl rfl ?_ ?_
    · rw [State.chan_modChan_ne _ _ h, State.chan_modChan_ne _ _ h]
    · simp
    · simp

/-! ### Several channels -/

theorem State.Retargets.evaluate_eq {ch : Chan} {s u : State} (h : Retargets ch s u) :
    evaluate u.weather (u.chan ch) = evaluate s.weather (s.chan ch) := by
  have hw : u.weather = s.weather := h.rest.fields.2.2.2.2.2.1
  have hn : ∀ n, asNumber (u.chan ch) n = asNumber (s.chan ch) n := fun n => by
    simp [asNumber, h.referenced, h.claims.1]
  have ht : ∀ n, asTarget (u.chan ch) n = asTarget (s.chan ch) n := fun n => by simp [asTarget, h.referenced]
  have hr : ∀ d, rawTarget (u.chan ch) d = rawTarget (s.chan ch) d := fun d => by
    cases d with
    | level d => simp [rawTarget, hn]
    | stay p => cases p <;> simp [rawTarget, h.referenced]
  have hc : ∀ w, ceilings w (u.chan ch) = ceilings w (s.chan ch) := fun w => by simp [ceilings, hn, h.claims.1]
  have hdis : ((u.chan ch).motion.state = .disabled) = ((s.chan ch).motion.state = .disabled) := propext h.disabled
  have hto : ∀ o, targetOf (u.chan ch) o = targetOf (s.chan ch) o := fun o => by cases o <;> simp [targetOf, ht]
  have hu : ∀ w r p, underCeilings w (u.chan ch) r p = underCeilings w (s.chan ch) r p := fun w r p => by
    simp [underCeilings, hc]
  have hs : ∀ w, smokeWindRule w (u.chan ch) = smokeWindRule w (s.chan ch) := fun w => by simp [smokeWindRule, h.claims.1]
  unfold evaluate
  simp only [hw, h.claims.2.1, hdis, hr, hto, ht, hu, hs, hn, h.claims.1]

/-- A channel stands under its own evaluation: the selector's result is what its claims, the weather and its reference give,
and outside DISABLED it is the target in hand. -/
theorem State.Retargets.evaluated {ch : Chan} {s u : State} (h : Retargets ch s u) : Evaluated u.weather (u.chan ch) := by
  refine ⟨h.selected.trans h.evaluate_eq.symm, ?_⟩
  rw [h.hand, h.selected]
  simp only [h.disabled]

/-- Re-targets of several channels: what each leaves, and each channel named stands under its evaluation. -/
theorem State.retargetAll_spec (chs : List Chan) (s : State) :
    KeepsRest s (s.retargetAll chs) ∧ KeepsClaims s (s.retargetAll chs) ∧ KeepsSensed s (s.retargetAll chs)
      ∧ (s.retargetAll chs).reports = s.reports
      ∧ (s.retargetAll chs).admission.budget = s.admission.budget
      ∧ (s.retargetAll chs).admission.stagger = s.admission.stagger
      ∧ (∀ d, d ∉ chs → (s.retargetAll chs).chan d = s.chan d)
      ∧ (∀ d, ((s.retargetAll chs).chan d).motion.referenced = (s.chan d).motion.referenced
          ∧ ((s.retargetAll chs).chan d).motion.fault = (s.chan d).motion.fault
          ∧ (((s.retargetAll chs).chan d).motion.state = .disabled ↔ (s.chan d).motion.state = .disabled)
          ∧ (((s.retargetAll chs).chan d).motion.state = .faulted ↔ (s.chan d).motion.state = .faulted)
          ∧ ((s.retargetAll chs).chan d).travel.runCount = (s.chan d).travel.runCount
          ∧ ((s.retargetAll chs).chan d).travel.drift = (s.chan d).travel.drift)
      ∧ ∀ d, (d ∈ chs ∨ Evaluated s.weather (s.chan d)) →
          Evaluated (s.retargetAll chs).weather ((s.retargetAll chs).chan d) := by
  induction chs generalizing s with
  | nil =>
    refine ⟨.refl _, .refl _, fun _ => ⟨rfl, rfl, rfl, rfl⟩, rfl, rfl, rfl, fun _ _ => rfl,
      fun _ => ⟨rfl, rfl, .rfl, .rfl, rfl, rfl⟩, fun d h => ?_⟩
    simpa [State.retargetAll] using h
  | cons x xs ih =>
    have hx := State.Retargets.retarget x s
    obtain ⟨h1, h2, h3, h4, h5, h6, h7, h8, h9⟩ := ih (s.retarget x)
    have hw : (s.retarget x).weather = s.weather := hx.rest.fields.2.2.2.2.2.1
    have key : s.retargetAll (x :: xs) = (s.retarget x).retargetAll xs := rfl
    rw [key]
    have per : ∀ d, ((s.retarget x).chan d).profile = (s.chan d).profile ∧ ((s.retarget x).chan d).slots = (s.chan d).slots
        ∧ ((s.retarget x).chan d).airing = (s.chan d).airing := fun d => by
      by_cases hd : d = x
      · subst hd; exact hx.claims
      · rw [hx.others d hd]; exact ⟨rfl, rfl, rfl⟩
    have perS : KeepsSensed s (s.retarget x) := fun d => by
      by_cases hd : d = x
      · subst hd; exact hx.sensed
      · rw [hx.others d hd]; exact ⟨rfl, rfl, rfl, rfl⟩
    refine ⟨hx.rest.trans h1, KeepsClaims.trans per h2, fun d => ?_, h4.trans hx.reports, h5.trans hx.gate.1,
      h6.trans hx.gate.2, fun d hd => ?_, fun d => ?_, fun d hd => ?_⟩
    · have a := h3 d; have b := perS d
      exact ⟨a.1.trans b.1, a.2.1.trans b.2.1, a.2.2.1.trans b.2.2.1, a.2.2.2.trans b.2.2.2⟩
    · simp only [List.mem_cons, not_or] at hd
      exact (h7 d hd.2).trans (hx.others d hd.1)
    · have a := h8 d
      by_cases hdx : d = x
      · subst hdx
        exact ⟨a.1.trans hx.referenced, a.2.1.trans hx.fault, a.2.2.1.trans hx.disabled, a.2.2.2.1.trans hx.faulted,
          a.2.2.2.2.1.trans hx.counts.1, a.2.2.2.2.2.trans hx.counts.2⟩
      · rw [hx.others d hdx] at a; exact a
    · by_cases hdx : d = x
      · subst hdx; exact h9 d (.inr hx.evaluated)
      · rcases hd with hd | hd
        · simp only [List.mem_cons, hdx, false_or] at hd
          exact h9 d (.inl hd)
        · refine h9 d (.inr ?_)
          rw [hx.others d hdx, hw]; exact hd

end Sys2Proof.Machine
end

