-- ==== Sys2Proof/Laws/Line.lean ====
section
/-! SUPPORT. What acceptance, forwarding and posting do, one lemma per case. -/

namespace Sys2Proof.Machine

/-! ### Posting a report -/

/-- A post changes the report queue alone. -/
theorem State.post_eq (s : State) (r : Report) : s.post r = { s with reports := (s.post r).reports } := by
  unfold State.post; split <;> rfl

@[simp] theorem State.post_chan (s : State) (r : Report) (c : Chan) : (s.post r).chan c = s.chan c := by rw [State.post_eq]; rfl

/-- A post reads the report queue and the enable mask alone. -/
theorem State.post_reports_congr {s t : State} (r : Report) (hr : t.reports = s.reports) (hs : t.settings = s.settings) :
    (t.post r).reports = (s.post r).reports := by
  unfold State.post; rw [hs]; split <;> simp [hr]

/-! ### Acceptance and forwarding (R143 to R146, R151, R157) -/

theorem State.accept_of_down {s : State} (h : s.line.uUp = false) (p : List Byte) (act : State → State × Fate) :
    s.accept p act = s := by simp [State.accept, h]

theorem State.firstByte_of_receiving {s : State} {r : Reception} (hr : s.line.uRx = some r) : s.firstByte .uPort = s := by
  simp [State.firstByte, hr]

/-- A frame against the handshake is discarded. -/
theorem State.accept_of_against {s : State} (h : s.line.uUp = true) (hr : s.line.uRx = some .againstHandshake) (p : List Byte)
    (act : State → State × Fate) :
    s.accept p act = { s with line := { s.line with uRx := none, lineError := true } } := by
  simp [State.accept, h, State.firstByte_of_receiving hr, hr, State.discardFrame]

/-- A frame that the station hears is acted on, with its place given up and the watchdog restarted. -/
theorem State.accept_of_hears {s : State} {p : List Byte} (h : Hears s p) (act : State → State × Fate) :
    s.accept p act = s.finish ((act { s with line := heard s }).1.dispose (act { s with line := heard s }).2) := by
  obtain ⟨h1, h2, h3, h4⟩ := h
  simp [State.accept, State.hear, State.finish, Line.heard, h1, State.firstByte_of_receiving h2, h2, payloadFits, h3, h4,
    heard, watchdogMs]

/-- A frame accepted in LINE_LOST and LINE_OK are two events in either order, each with its admission evaluation. -/
theorem State.accept_of_lost {s : State} {p : List Byte} (h1 : s.line.uUp = true) (h2 : s.line.uRx = some .underReady)
    (h3 : p.length ≤ 48) (h4 : s.line.lost = true) (act : State → State × Fate) :
    s.accept p act =
      let b := { s with line := heard s, freeCount := s.freeCount + 1 }
      if Config.freeOrder s.freeCount then b.restoreLine.hear act else (b.hear act).restoreLine := by
  simp [State.accept, State.hearInLost, State.freeOrder, Line.heard, h1, State.firstByte_of_receiving h2, h2, payloadFits, h3,
    h4, heard, watchdogMs]

theorem State.dispose_forward (s : State) (f : Frame) (acted : Bool) :
    s.dispose (.forward f acted) = { s with line := passesOn s.line f acted } := by
  unfold State.dispose passesOn isEndStation State.pushEcho upPlaces
  cases h : s.line.dUp <;> cases acted <;> simp [h]
  split <;> simp_all

end Sys2Proof.Machine
end

