-- ==== Sys2Proof/Laws/Claims.lean ====
section
/-! SUPPORT. What a placement and a removal of claims do, channel by channel. -/

namespace Sys2Proof.Machine

theorem nodup_allChans : allChans.Nodup := by decide

/-- The same change on each channel of a list without repeats. -/
theorem State.foldl_modChan (f : Channel → Channel) (l : List Chan) (hl : l.Nodup) (s : State) :
    let u := l.foldl (fun s c => s.modChan c f) s
    u = { s with chans := u.chans } ∧ ∀ ch, u.chan ch = if ch ∈ l then f (s.chan ch) else s.chan ch := by
  induction l generalizing s with
  | nil => exact ⟨rfl, fun ch => by simp⟩
  | cons x xs ih =>
    obtain ⟨hx, hn⟩ := List.nodup_cons.1 hl
    obtain ⟨h1, h2⟩ := ih hn (s.modChan x f)
    refine ⟨?_, fun ch => ?_⟩
    · rw [List.foldl_cons]; rw [h1]; rfl
    · rw [List.foldl_cons, h2]
      by_cases hc : ch = x
      · subst hc; simp [hx]
      · simp [hc, State.chan_modChan_ne s f hc]

/-- The claims of `u` laid over `s` are those of the state `v` whose channels were re-targeted to give `u`. -/
theorem withClaimsOf_eq {s v u : State} {l : Line} {r : Reports} (chs : List Chan)
    (hv : v = { s with chans := v.chans, weather := v.weather, inputs := v.inputs, line := v.line, reports := v.reports })
    (hc : ∀ d, v.chan d = { s.chan d with slots := (v.chan d).slots, airing := (v.chan d).airing })
    (hu : u = (v.retargetAll chs).aside l r) : withClaimsOf s u = v.aside s.line s.reports := by
  obtain ⟨r1, r2, -⟩ := State.retargetAll_spec chs v
  obtain ⟨-, -, hi, -, -, hw, -⟩ := r1.fields
  have hch : ∀ d, (withClaimsOf s u).chan d = v.chan d := fun d => by
    have h1 : (u.chan d).slots = (v.chan d).slots := by rw [hu]; exact (r2 d).2.1
    have h2 : (u.chan d).airing = (v.chan d).airing := by rw [hu]; exact (r2 d).2.2
    rw [hc d, ← h1, ← h2]; cases d <;> rfl
  have h3 : (withClaimsOf s u).chans = v.chans := PerChan.ext_get hch
  have h4 : withClaimsOf s u = { s with chans := (withClaimsOf s u).chans, weather := u.weather, inputs := u.inputs } := rfl
  have h5 : u.weather = v.weather := by rw [hu]; exact hw
  have h6 : u.inputs = v.inputs := by rw [hu]; exact hi
  rw [h4, h3, h5, h6]; conv_rhs => rw [hv]
  rfl

/-- A state whose channels `chs` were re-targeted, after a change of claims, weather, inputs, line or reports. -/
theorem TakeTargets.intro {s v u : State} {P : Chan → Prop} (chs : List Chan) (hn : chs.Nodup) (hP : ∀ ch, ch ∈ chs ↔ P ch)
    (hv : v = { s with chans := v.chans, weather := v.weather, inputs := v.inputs, line := v.line, reports := v.reports })
    (hc : ∀ d, v.chan d = { s.chan d with slots := (v.chan d).slots, airing := (v.chan d).airing })
    (hu : u = { v.retargetAll chs with line := u.line, reports := u.reports }) : TakeTargets s u P := by
  refine ⟨chs, hn, hP, ?_⟩
  rw [withClaimsOf_eq chs hv hc (l := u.line) (r := u.reports) hu, State.retargetAll_aside]
  exact hu

/-- The line interface and the reports stand beside what was re-targeted. -/
theorem TakeTargets.aside {s u : State} {P : Chan → Prop} (h : TakeTargets s u P) (l : Line) (r : Reports) :
    TakeTargets s (u.aside l r) P := by
  obtain ⟨chs, hn, hP, hu⟩ := h
  exact ⟨chs, hn, hP, by
    change u.aside l r = State.aside (State.retargetAll (withClaimsOf s u) chs) l r
    conv_lhs => rw [hu]
    rfl⟩

theorem TakeTargets.of_line {s v u : State} {P : Chan → Prop} {l : Line} (hv : v = { s with line := l })
    (h : TakeTargets v u P) : TakeTargets s u P := by
  obtain ⟨chs, hn, hP, hu⟩ := h
  refine ⟨chs, hn, hP, ?_⟩
  have : withClaimsOf v u = (withClaimsOf s u).aside l s.reports := by rw [hv]; rfl
  rw [this, State.retargetAll_aside] at hu
  exact hu

/-- Claims changed on the channels of `l` by `f`, and each of them re-targeted: `f` changes the claims and the airing record
alone. -/
theorem State.claims_spec (f : Channel → Channel)
    (hf : ∀ c, f c = { c with slots := (f c).slots, airing := (f c).airing }) (l : List Chan) (hl : l.Nodup) (s : State) :
    let u := (l.foldl (fun s c => s.modChan c f) s).retargetAll l
    OnlyClaims s u ∧ u.reports = s.reports ∧ u.line = s.line ∧ TakeTargets s u (· ∈ l)
      ∧ (∀ ch ∈ l, Evaluated u.weather (u.chan ch) ∧ (u.chan ch).slots = (f (s.chan ch)).slots
          ∧ (u.chan ch).airing = (f (s.chan ch)).airing)
      ∧ ∀ ch, ch ∉ l → u.chan ch = s.chan ch := by
  dsimp only
  obtain ⟨h1, h2⟩ := State.foldl_modChan f l hl s
  generalize hv : l.foldl (fun s c => s.modChan c f) s = v at *
  obtain ⟨r1, r2, r3, r4, r5, r6, r7, r8, r9⟩ := State.retargetAll_spec l v
  obtain ⟨k1, k2, k3, k4, k5, k6, k7, k8, k9, k10⟩ := r1.fields
  have hprof : ∀ ch, (v.chan ch).profile = (s.chan ch).profile ∧ (v.chan ch).motion = (s.chan ch).motion
      ∧ (v.chan ch).travel = (s.chan ch).travel ∧ (v.chan ch).current = (s.chan ch).current := fun ch => by
    rw [h2 ch]; split
    · rw [hf]; exact ⟨rfl, rfl, rfl, rfl⟩
    · exact ⟨rfl, rfl, rfl, rfl⟩
  have hv1 : v = { s with chans := v.chans, weather := v.weather, inputs := v.inputs, line := v.line, reports := v.reports } := by
    rw [h1]
  have hc1 : ∀ d, v.chan d = { s.chan d with slots := (v.chan d).slots, airing := (v.chan d).airing } := fun d => by
    rw [h2 d]; split
    · exact hf _
    · rfl
  refine ⟨⟨?_, ?_, ?_, fun d => ?_, fun d => ?_⟩, ?_, ?_, .intro l hl (fun _ => .rfl) hv1 hc1 rfl, fun ch hc => ⟨r9 ch (.inl hc), ?_, ?_⟩, fun ch hc => ?_⟩
  · rw [r1, h1]
  · rw [r5, h1]
  · rw [r6, h1]
  · have a := r3 d
    refine ⟨a.1.trans (by rw [(hprof d).2.2.1]), a.2.1.trans (by rw [(hprof d).2.2.1]),
      a.2.2.1.trans (by rw [(hprof d).2.2.1]), a.2.2.2.trans (by rw [(hprof d).2.2.2])⟩
  · exact ⟨(r2 d).1.trans (hprof d).1, (r8 d).1.trans (by rw [(hprof d).2.1]), (r8 d).2.1.trans (by rw [(hprof d).2.1]),
      (r8 d).2.2.2.2.1.trans (by rw [(hprof d).2.2.1]), (r8 d).2.2.2.2.2.trans (by rw [(hprof d).2.2.1])⟩
  · rw [r4, h1]
  · rw [k9, h1]
  · rw [(r2 ch).2.1, h2 ch, if_pos hc]
  · rw [(r2 ch).2.2, h2 ch, if_pos hc]
  · rw [r7 ch hc, h2 ch, if_neg hc]

theorem Channel.dropClaim_eq (c : Channel) (k : ClaimClass) :
    c.dropClaim k = { c with slots := (c.dropClaim k).slots, airing := (c.dropClaim k).airing } := rfl

/-- All that a removal by class and record does. -/
theorem State.removeWhere_spec (s : State) (cls : ClaimClass) (hit : Claim → Bool) :
    let u := (s.removeWhere cls hit).1
    let hits := fun ch => ∃ c, (s.chan ch).slots.get cls = some c ∧ hit c = true
    OnlyClaims s u ∧ u.reports = s.reports ∧ u.line = s.line ∧ TakeTargets s u hits
      ∧ (∀ ch, hits ch → Evaluated u.weather (u.chan ch) ∧ (u.chan ch).slots = (s.chan ch).slots.set cls none
          ∧ (u.chan ch).airing = if cls = .airing then none else (s.chan ch).airing)
      ∧ (∀ ch, ¬ hits ch → u.chan ch = s.chan ch)
      ∧ (s.removeWhere cls hit).2 = (allChans.filter (fun c => ((s.chan c).slots.get cls).any hit)).length := by
  have hm : ∀ ch, ch ∈ allChans.filter (fun c => ((s.chan c).slots.get cls).any hit) ↔
      ∃ c, (s.chan ch).slots.get cls = some c ∧ hit c = true := fun ch => by
    simp [mem_allChans, Option.any_eq_true]
  obtain ⟨h1, h2, h3, ⟨chs, hn, hP, hu⟩, h4, h5⟩ := State.claims_spec (fun x => x.dropClaim cls) (fun c => c.dropClaim_eq cls)
    (allChans.filter (fun c => ((s.chan c).slots.get cls).any hit)) (nodup_allChans.filter _) s
  refine ⟨h1, h2, h3, ⟨chs, hn, fun ch => (hP ch).trans (hm ch), hu⟩, fun ch hc => ?_, fun ch hc => h5 ch (fun h => hc ((hm ch).1 h)), rfl⟩
  obtain ⟨a, b, c⟩ := h4 ch ((hm ch).2 hc)
  exact ⟨a, b, c⟩

/-! ### Claims and the line (R19) -/

theorem State.foldl_modChan_aside (f : Channel → Channel) (chs : List Chan) (s : State) (l : Line) (r : Reports) :
    chs.foldl (fun s c => s.modChan c f) (s.aside l r) = (chs.foldl (fun s c => s.modChan c f) s).aside l r := by
  induction chs generalizing s with
  | nil => rfl
  | cons x xs ih => rw [List.foldl_cons, List.foldl_cons, State.modChan_aside, ih]

/-- A removal of claims reads neither the line interface nor the report queue. -/
theorem State.removeWhere_aside (s : State) (l : Line) (r : Reports) (cls : ClaimClass) (hit : Claim → Bool) :
    (s.aside l r).removeWhere cls hit = ((s.removeWhere cls hit).1.aside l r, (s.removeWhere cls hit).2) := by
  unfold State.removeWhere; dsimp only
  simp only [State.chan_aside]
  rw [State.foldl_modChan_aside, State.retargetAll_aside]

/-- LINE_OK on a station with another line interface. -/
theorem State.lineOk_setLine (s : State) (l : Line) :
    State.lineOk { s with line := l } = { s.lineOk with line := { l with lost := false } } := by
  have h1 (k : Line) : ({ s with line := k } : State) = s.aside k s.reports := rfl
  have h2 (k : Line) : ({ s with line := { l with lost := false } } : State).claimsLineOk
      = ({ s with line := k } : State).claimsLineOk.aside { l with lost := false } s.reports := by
    unfold State.claimsLineOk; rw [h1, h1 k, State.removeWhere_aside, State.removeWhere_aside]; rfl
  unfold State.lineOk
  have hr : ({ s with line := { s.line with lost := false } } : State).claimsLineOk.reports = s.reports :=
    (State.removeWhere_spec { s with line := { s.line with lost := false } } .fallback (fun _ => true)).2.1
  show ({ s with line := { l with lost := false } } : State).claimsLineOk.post _ = _
  rw [h2 { s.line with lost := false }]
  generalize ({ s with line := { s.line with lost := false } } : State).claimsLineOk = v at *
  unfold State.post
  rw [← hr]
  show (if _ then _ else _) = _
  split <;> rename_i hm <;> simp only [State.aside] at * <;> simp [hm]

end Sys2Proof.Machine
end

