-- ==== Sys2Proof/Laws/Weather.lean ====
section
/-! SUPPORT. All that an event of the weather unit does (R31, R33). -/

namespace Sys2Proof.Machine

theorem localRain_iff (s : State) :
    localRain s = true ↔ ∃ n, (s.input n).function = .rainContact ∧ (s.input n).active = true := by
  simp [localRain, mem_allInputs]

theorem wetCondition_iff (s : State) :
    wetCondition s = true ↔ (s.weather.lineWet = true ∧ s.weather.wind ≠ .unknown)
      ∨ ∃ n, (s.input n).function = .rainContact ∧ (s.input n).active = true := by
  simp [wetCondition, localRain_iff]

theorem weatherReport_eq (w : Weather) : weatherReport w = { kind := .weather, detail := {
    b5 := match w.wind with | .calm => 0 | .windy => 1 | .storm => 2 | .unknown => 3,
    b6 := if w.rainWet then 1 else 0,
    b7 := match w.settled with | none => 0xFF | some b => byteOf b } } := by
  unfold weatherReport windByte sectorByte
  cases w.wind <;> cases w.rainWet <;> rfl

theorem weatherDiffers_iff (a b : Weather) :
    weatherDiffers a b = true ↔ b.wind ≠ a.wind ∨ b.settled ≠ a.settled ∨ b.rainWet ≠ a.rainWet := by
  simp only [weatherDiffers, Bool.or_eq_true, bne_iff_ne, or_assoc, ne_comm (a := b.wind), ne_comm (a := b.settled),
    ne_comm (a := b.rainWet)]

/-- What the rain state and its timer become, whatever else an event changes. -/
theorem Weather.onWet_eq (t : Settings) (w : Weather) (b a : Bool) :
    w.onWet t b a = { w with rainWet := (w.onWet t b a).rainWet, rainTimer := (w.onWet t b a).rainTimer } := by
  unfold Weather.onWet; split
  · rfl
  · split
    · rfl
    · split <;> rfl

/-- A report posted and every channel evaluated. -/
theorem State.post_retargetAll (b : State) (r : Report) :
    let v := (b.post r).retargetAll allChans
    v = { b with chans := v.chans, admission := v.admission, reports := v.reports, freeCount := v.freeCount }
      ∧ v.admission.budget = b.admission.budget ∧ v.admission.stagger = b.admission.stagger ∧ KeepsSensed b v
      ∧ (∀ d, (v.chan d).profile = (b.chan d).profile ∧ (v.chan d).motion.referenced = (b.chan d).motion.referenced
          ∧ (v.chan d).motion.fault = (b.chan d).motion.fault
          ∧ (v.chan d).travel.runCount = (b.chan d).travel.runCount ∧ (v.chan d).travel.drift = (b.chan d).travel.drift)
      ∧ KeepsClaims b v ∧ v.reports = (b.post r).reports ∧ (∀ ch, Evaluated b.weather (v.chan ch))
      ∧ v = { b.retargetAll allChans with reports := v.reports } := by
  obtain ⟨r1, r2, r3, r4, r5, r6, r7, r8, r9⟩ := State.retargetAll_spec allChans (b.post r)
  obtain ⟨k1, k2, k3, k4, k5, k6, k7, k8, k9, k10⟩ := r1.fields
  have hc : ∀ ch, (b.post r).chan ch = b.chan ch := fun ch => State.post_chan b r ch
  refine ⟨?_, by rw [r5, State.post_admission], by rw [r6, State.post_admission], fun d => ?_, fun d => ?_, fun d => ?_, r4,
    fun ch => ?_, ?_⟩
  · have h := State.post_eq b r
    rw [r1]
    generalize ((b.post r).retargetAll allChans) = v
    rw [h]
  · have := r3 d; rw [hc] at this; exact this
  · have := r8 d; rw [hc] at this; exact ⟨(r2 d).1.trans (by rw [hc]), this.1, this.2.1, this.2.2.2.2⟩
  · have := r2 d; rw [hc] at this; exact this
  · have := r9 ch (.inl (mem_allChans ch))
    rw [k6, State.post_weather] at this; exact this
  · have h : b.post r = b.aside b.line (b.post r).reports := by conv_lhs => rw [State.post_eq]
                                                                rfl
    have hl : (b.retargetAll allChans).line = b.line := ((State.retargetAll_spec allChans b).1.fields).2.2.2.2.2.2.2.2.1
    rw [r4, h, State.retargetAll_aside, ← hl]; rfl

/-- All that an event of the weather unit does, for a change of the weather record and of the inputs alone. -/
theorem State.weatherEvent_spec (s : State) (change : State → State)
    (hc : change s = { s with weather := (change s).weather, inputs := (change s).inputs }) :
    let a := change s
    let u := s.weatherEvent change
    OnlyClaims { s with weather := u.weather, inputs := a.inputs } u ∧ KeepsClaims s u ∧ u.line = s.line ∧ HandsOn s u
      ∧ u.weather = { a.weather with rainWet := u.weather.rainWet, rainTimer := u.weather.rainTimer }
      ∧ u.weather = a.weather.onWet s.settings (wetCondition s) (wetCondition a)
      ∧ (a.weather.rainWet = s.weather.rainWet → a.weather.rainTimer = s.weather.rainTimer → FollowsWet s u) := by
  dsimp only
  have hu : s.weatherEvent change =
      if weatherDiffers s.weather ((change s).weather.onWet s.settings (wetCondition s) (wetCondition (change s))) then
        (State.post { s with
            weather := (change s).weather.onWet s.settings (wetCondition s) (wetCondition (change s))
            inputs := (change s).inputs }
          (weatherReport ((change s).weather.onWet s.settings (wetCondition s) (wetCondition (change s))))).retargetAll
          allChans
      else { s with
        weather := (change s).weather.onWet s.settings (wetCondition s) (wetCondition (change s))
        inputs := (change s).inputs } := by
    have e0 : (change s).pending = s.pending := by rw [hc]
    have e1 : (change s).chans = s.chans := by rw [hc]
    have e2 : (change s).groups = s.groups := by rw [hc]
    have e3 : (change s).settings = s.settings := by rw [hc]
    have e4 : (change s).freshStart = s.freshStart := by rw [hc]
    have e5 : (change s).supply = s.supply := by rw [hc]
    have e6 : (change s).thermal = s.thermal := by rw [hc]
    have e7 : (change s).admission = s.admission := by rw [hc]
    have e8 : (change s).line = s.line := by rw [hc]
    have e9 : (change s).reports = s.reports := by rw [hc]
    have e10 : (change s).clock = s.clock := by rw [hc]
    have e11 : (change s).freeCount = s.freeCount := by rw [hc]
    unfold State.weatherEvent
    simp only [e0, e1, e2, e3, e4, e5, e6, e7, e8, e9, e10, e11]
  have hwetA := wetCondition_iff (change s)
  have hwetS := wetCondition_iff s
  generalize wetCondition (change s) = wa at *
  generalize wetCondition s = ws at *
  generalize change s = a at *
  generalize s.weatherEvent change = u at *
  have hon := Weather.onWet_eq s.settings a.weather ws wa
  have hfol : ∀ w : Weather, w = a.weather.onWet s.settings ws wa →
      a.weather.rainWet = s.weather.rainWet → a.weather.rainTimer = s.weather.rainTimer →
      ((ws = true ↔ wa = true) → w.rainWet = s.weather.rainWet ∧ w.rainTimer = s.weather.rainTimer)
      ∧ (¬ ws = true → wa = true → w.rainWet = true ∧ w.rainTimer = none)
      ∧ (ws = true → ¬ wa = true → s.settings.rainDelay = 0 → w.rainWet = false ∧ w.rainTimer = none)
      ∧ (ws = true → ¬ wa = true → s.settings.rainDelay ≠ 0 →
          w.rainWet = s.weather.rainWet ∧ w.rainTimer = some (1000 * s.settings.rainDelay)) := by
    rintro w rfl h1 h2
    unfold Weather.onWet
    cases wa <;> cases ws <;> simp [h1, h2]
    refine ⟨fun h => by simp [h], fun h => by simp [h]⟩
  generalize hw : a.weather.onWet s.settings ws wa = w at *
  obtain ⟨b, hb⟩ : ∃ b : State, b = { s with weather := w, inputs := a.inputs } := ⟨_, rfl⟩
  have hrb : ∀ r, (b.post r).reports = (s.post r).reports := fun r => State.post_reports_congr r (by rw [hb]) (by rw [hb])
  have hbc : ∀ ch, b.chan ch = s.chan ch := fun ch => by rw [hb]; rfl
  rw [← hb] at hu
  obtain ⟨q1, q2, q3, q4, q5, q6, q7, q8, q9⟩ := State.post_retargetAll b (weatherReport w)
  generalize (b.post (weatherReport w)).retargetAll allChans = v at *
  have hbw : b.weather = w := by rw [hb]
  have hwe : u.weather = w := by
    rw [hu]; split
    · rw [q1]; exact hbw
    · exact hbw
  have hin : u.inputs = a.inputs := by
    rw [hu]; split
    · rw [q1, hb]
    · rw [hb]
  have hwet : (u.weather.lineWet = true ∧ u.weather.wind ≠ .unknown
      ∨ ∃ n, (u.input n).function = .rainContact ∧ (u.input n).active = true) ↔ wa = true := by
    rw [hwetA, hwe, hon]; simp only [State.input, hin]
  refine ⟨?_, ?_, ?_, ?_, ?_, hwe, ?_⟩
  · rw [hwe, ← hb, hu]
    split
    · have hl : v.line = b.line := by rw [q1]
      refine ⟨?_, q2, q3, q4, q5⟩
      rw [hl]
      exact q1
    · exact ⟨rfl, rfl, rfl, fun _ => ⟨rfl, rfl, rfl, rfl⟩, fun _ => ⟨rfl, rfl, rfl, rfl, rfl⟩⟩
  · intro d; rw [← hbc, hu]; split
    · exact q6 d
    · exact ⟨rfl, rfl, rfl⟩
  · rw [hu]; split
    · rw [q1, hb]
    · rw [hb]
  · unfold HandsOn
    rw [hwe]
    simp only [← weatherDiffers_iff]
    rw [hu]
    split
    · have hl : v.line = (b.retargetAll allChans).line := by rw [q9]
      refine ⟨fun ch => hbw ▸ q8 ch, ?_, ?_⟩
      · refine .intro (v := b) allChans nodup_allChans (fun ch => by simp [mem_allChans]) (by rw [hb]) (fun d => ?_) ?_
        · rw [hbc]
        · rw [hl]; exact q9
      · rw [q7, hrb, weatherReport_eq] <;> cases w.wind <;> cases w.settled <;> rfl
    · exact ⟨by rw [hb], by rw [hb], by rw [hb]⟩
  · rw [hwe]; exact hon
  · intro h1 h2
    unfold FollowsWet
    dsimp only
    simp only [hwet, ← hwetS]
    rw [hwe]
    exact hfol w rfl h1 h2

end Sys2Proof.Machine
end

