-- ==== Sys2Proof/Tests/Slice0.lean ====
section
/-! SUPPORT. The model's own tests: ill-formed commands refused, frames read from their bytes, the spec's worked examples one
step at a time, and for each statement with hypotheses a witness that meets them. -/

namespace Sys2Proof.Tests

open Sys2Proof Sys2Proof.Machine

set_option Elab.async false

/-! ### Small states -/

/-- A profile near that of the example 5.9, in range. -/
def prof : Profile :=
  { enable := true, retryLimit := 1, travel := 4800, fullTravelTime := 60, deadband := 10, approachDist := 400,
    startLevel := 10240, runLevel := 40960, approachLevel := 15360, rampRate := 2048, weight := 4, stallUnits := 40,
    settleUnits := 20, startLimit := 60, runLimit := 35, endLimit := 28, shortLimit := 150, blanking := 80, filter := 40,
    endZone := 120, backoffDist := 50, reverseUnits := 75, driftLimit := 20, initOpen := 30, initClose := 24,
    windward := 0x0800, windCeiling := 500, rainPosition := 250, stormPosition := 100, unknownCeiling := 300 }

/-- A channel of that profile, in motion state `m`, referenced, at position `p`. -/
def chanAt (m : MotionState) (p : Int) : Channel :=
  { profile := prof, motion := { state := m, referenced := true, eOpen := 30, eClose := 24 }, travel := { position := p } }

/-- A channel of that profile in a positioned move toward `t` with stop point `q`. -/
def mover (d : Dir) (p : Int) (t : Nat) (q : StopPoint) : Channel :=
  { chanAt .moving p with
    motion := { (chanAt .moving p).motion with
      moveKind := some .positioned, dir := some d, stop := some q, moveTimer := some 5
      hand := { winRank := some 5, target := .pulses t, queueRank := some 5 } },
    travel := { position := p, stall := some 400 },
    drive := { level := 40960, phase := some .run, ramp := some 10, runMark := true, legs := .drive 160 } }

/-- The state after reset with CH0 replaced. -/
def withCh0 (c : Channel) : State := { State.reset with chans := State.reset.chans.set .ch0 c }

/-- A state whose U-port is UP with a frame in reception under ready, at station 1, its D-port UP. -/
def hearing (s : State) : State :=
  { s with line := { s.line with uUp := true, dUp := true, uRx := some .underReady, station := 1 } }

/-- The next state of an outcome, or the state after reset. -/
def after : Host.Outcome State Fault Refusal → State
  | .next t => t
  | _ => State.reset

/-! ### Ill-formed commands are refused by `Instr.wf` -/

/-- A payload of 49 bytes fits no frame (Table 9.4). -/
def tooLong : List Byte := List.replicate 49 0

theorem test_wf_payload_too_long :
    (Instr.upstreamFrameAccepted ⟨0x20, 1, 0, tooLong⟩).wf = false ∧ (Instr.demand 1 0 tooLong).wf = false
      ∧ (Instr.release 1 0 tooLong).wf = false ∧ (Instr.weather 1 0 tooLong).wf = false
      ∧ (Instr.beacon 1 0 tooLong).wf = false ∧ (Instr.enumerate 1 0 tooLong).wf = false
      ∧ (Instr.unknownKindFrame ⟨0x30, 1, 0, tooLong⟩).wf = false ∧ (Instr.groupWrite 1 0 tooLong).wf = false
      ∧ (Instr.profileWrite 1 0 (0x40 :: tooLong)).wf = false ∧ (Instr.inputWrite 1 0 (0x80 :: tooLong)).wf = false
      ∧ (Instr.settingsWrite 1 0 (0xC0 :: tooLong)).wf = false ∧ (Instr.tableRead 1 0 tooLong).wf = false
      ∧ (Instr.statusRead 1 0 tooLong).wf = false ∧ (Instr.clearFault 1 0 tooLong).wf = false
      ∧ (Instr.stationReset 1 0 tooLong).wf = false := by decide

theorem test_wf_known_kind_is_not_unknown : (Instr.unknownKindFrame ⟨0x01, 1, 0, []⟩).wf = false := by decide

theorem test_wf_select_of_another_table :
    (Instr.groupWrite 1 0 [0x40]).wf = false ∧ (Instr.profileWrite 1 0 [0x00]).wf = false
      ∧ (Instr.inputWrite 1 0 [0x40]).wf = false ∧ (Instr.settingsWrite 1 0 [0x80]).wf = false
      ∧ (Instr.profileWrite 1 0 []).wf = false := by decide

theorem test_wf_clear_supply_has_its_own_name : (Instr.clearFault 1 0 [0x80]).wf = false := by decide

theorem test_wf_measurements_in_range :
    (Instr.firstSupplyMeasurement 401 0 0 0).wf = false ∧ (Instr.firstSupplyMeasurement 0 401 0 0).wf = false
      ∧ (Instr.firstSupplyMeasurement 0 0 401 0).wf = false ∧ (Instr.firstSupplyMeasurement 0 0 0 401).wf = false
      ∧ (Instr.supplyMeasurement 401).wf = false ∧ (Instr.thermalMeasurement (-56)).wf = false
      ∧ (Instr.thermalMeasurement 201).wf = false ∧ (Instr.currentSample .ch0 256).wf = false := by decide

/-! ### Frames on the wire (R145, Tables 9.4 to 9.6) -/

/-- The check value the spec gives with R145. -/
theorem test_crc_of_the_nine_digits : crc16 [0x31, 0x32, 0x33, 0x34, 0x35, 0x36, 0x37, 0x38, 0x39] = 0x29B1 := by
  decide +kernel

/-- A frame's bytes of Table 9.4 with their CRC appended. -/
def sent (bytes : List Byte) : List Byte := bytes ++ be16 (crc16 bytes).toNat

/-- The DEMAND of the example 9.6, written out from Tables 9.4 to 9.6: SMOKE, group 5, demand 1000, hold 0. -/
theorem test_demand_is_read_from_its_bytes :
    receivedCommand .uPort (sent [0x01, 10, 0, 0x03, 0x17, 1, 0, 5, 0x03, 0xE8, 0, 0, 0, 0, 0]) false
      = .demand 0 0x0317 [1, 0, 5, 0x03, 0xE8, 0, 0, 0, 0, 0] := by decide +kernel

/-- One frame of each other kind, by the kind codes of Table 9.5 and the table codes of R159. -/
theorem test_kinds_are_read :
    receivedCommand .uPort (sent [0x02, 0, 0, 0, 7]) false = .release 0 7 []
      ∧ receivedCommand .uPort (sent [0x03, 1, 0, 0, 7, 9]) false = .weather 0 7 [9]
      ∧ receivedCommand .uPort (sent [0x04, 0, 0, 0, 7]) false = .beacon 0 7 []
      ∧ receivedCommand .uPort (sent [0x05, 1, 0, 0, 7, 3]) false = .enumerate 0 7 [3]
      ∧ receivedCommand .uPort (sent [0x10, 1, 2, 0, 7, 0x3F]) false = .groupWrite 2 7 [0x3F]
      ∧ receivedCommand .uPort (sent [0x10, 1, 2, 0, 7, 0x45]) false = .profileWrite 2 7 [0x45]
      ∧ receivedCommand .uPort (sent [0x10, 1, 2, 0, 7, 0x84]) false = .inputWrite 2 7 [0x84]
      ∧ receivedCommand .uPort (sent [0x10, 1, 2, 0, 7, 0xC0]) false = .settingsWrite 2 7 [0xC0]
      ∧ receivedCommand .uPort (sent [0x11, 1, 2, 0, 7, 0]) false = .tableRead 2 7 [0]
      ∧ receivedCommand .uPort (sent [0x12, 1, 2, 0, 7, 0]) false = .statusRead 2 7 [0]
      ∧ receivedCommand .uPort (sent [0x13, 1, 2, 0, 7, 5]) false = .clearFault 2 7 [5]
      ∧ receivedCommand .uPort (sent [0x13, 1, 2, 0, 7, 0x80]) false = .clearSupply 2 7
      ∧ receivedCommand .uPort (sent [0x14, 0, 2, 0, 7]) false = .stationReset 2 7 []
      ∧ receivedCommand .uPort (sent [0x30, 0, 2, 0, 7]) false = .unknownKindFrame ⟨0x30, 2, 7, []⟩
      ∧ receivedCommand .dPort (sent [0x20, 0, 2, 0, 7]) false = .upstreamFrameAccepted ⟨0x20, 2, 7, []⟩ := by
  decide +kernel

/-- A wrong CRC, a short frame, a wrong length and a byte error are discarded (R145). -/
theorem test_bad_frames_are_discarded :
    receivedCommand .uPort [0x04, 0, 0, 0, 7, 0, 0] false = .frameDiscarded .uPort [0x04, 0, 0, 0, 7, 0, 0] false
      ∧ receivedCommand .uPort [0x04] false = .frameDiscarded .uPort [0x04] false
      ∧ frameChecks (sent [0x04, 1, 0, 0, 7]) false = false ∧ frameChecks (sent [0x04, 0, 0, 0, 7]) true = false := by
  decide +kernel

/-- The opcode table gives no row bits (log 20). -/
theorem test_no_word_spells_a_command : decodeTableWord 8 0 = none ∧ State.reset.withFetchWord 8 0 = State.reset := by
  decide +kernel

/-! ### Claims: the examples 1.8, 1.9 and 7.6 -/

/-- The station of the example 1.8: groups 12, 40 and 7, CH1 FAULTED, CH5 DISABLED, the others IDLE. -/
def station18 : State :=
  hearing { State.reset with
    groups := { number := 12, members := ⟨true, true, true, false, false, false⟩,
                admitted := { smoke := true, manual := true, comfort := true, airing := true } }
      :: { number := 40, members := ⟨false, false, true, true, false, false⟩, admitted := { service := true, comfort := true } }
      :: { number := 7, members := ⟨false, false, false, false, true, true⟩, admitted := { smoke := true } }
      :: List.replicate 61 {}
    chans := ⟨chanAt .idle 0, { chanAt .faulted 0 with motion := { state := .faulted, fault := some .stalled } },
              chanAt .idle 0, chanAt .idle 0, chanAt .idle 0, {}⟩ }

/-- A COMFORT claim of a DEMAND. -/
def comfort (group level expiry tag : Nat) : Claim :=
  { origin := .line, group := some group, demand := .level level, expiry := some expiry, tag }

/-- Example 1.8, step 1: demand 600, hold 0, tag 21, arriving with accepted 5. -/
theorem test_demand_step_1 :
    let t := after (exec (.demand 0 21 [5, 0, 12, 0x02, 0x58, 0, 0, 5, 0, 0]) station18)
    (t.chan .ch0).slots.comfort = some (comfort 12 600 900000 21)
      ∧ (t.chan .ch1).slots.comfort = some (comfort 12 600 900000 21) ∧ (t.chan .ch3).slots.comfort = none
      ∧ t.line.downQueue.map (fun d => d.frame.payload) = [[5, 0, 12, 0x02, 0x58, 0, 0, 7, 1, 1]] := by decide +kernel

/-- Example 1.8, step 3: group 7 does not admit COMFORT; both members are withheld. -/
theorem test_demand_step_3 :
    let t := after (exec (.demand 0 23 [5, 0, 7, 0x01, 0xF4, 0, 0, 0, 0, 0]) station18)
    t.chans = station18.chans ∧ t.line.downQueue.map (fun d => d.frame.payload) = [[5, 0, 7, 0x01, 0xF4, 0, 0, 0, 2, 1]] := by
  decide +kernel

/-- The slots before step 4 of the example 1.8: CH0 and CH1 under group 12, CH2 under group 40. -/
def station18Held : State :=
  { station18 with chans := ⟨(chanAt .idle 0).putClaim .comfort (comfort 12 600 9 21),
    ({ profile := prof, motion := { state := .faulted, fault := some .stalled } } : Channel).putClaim .comfort (comfort 12 600 9 21),
    (chanAt .idle 0).putClaim .comfort (comfort 40 300 9 22), {}, {}, {}⟩ }

/-- Example 1.8, step 4: RELEASE of COMFORT, group 12. -/
theorem test_release_step_4 :
    let t := after (exec (.release 0 0 [5, 0, 12, 0, 0, 0]) station18Held)
    (t.chan .ch0).slots.comfort = none ∧ (t.chan .ch1).slots.comfort = none
      ∧ (t.chan .ch2).slots.comfort = some (comfort 40 300 9 22)
      ∧ t.line.downQueue.map (fun d => d.frame.payload) = [[5, 0, 12, 2, 0, 1]] := by decide +kernel

theorem test_claim_expiry :
    let s := withCh0 ((chanAt .idle 0).putClaim .comfort (comfort 12 600 0 21))
    (after (exec (.claimExpiry .ch0 .comfort) s)).chans.ch0.slots.comfort = none
      ∧ after (exec (.claimExpiry .ch0 .manual) s) = s := by decide +kernel

/-- Example 1.9: CH0 at 3310 with a line MANUAL claim, CH4 at 2200 with a SMOKE claim, CH5 DISABLED. -/
theorem test_line_watchdog_expiry :
    let smoke : Claim := { origin := .line, group := some 7, demand := .level 1000, expiry := none, tag := 1 }
    let s : State := { State.reset with
      line := { station := 1, watchdog := 0 }
      chans := ⟨(chanAt .idle 3310).putClaim .manual { smoke with demand := .level 800 }, {}, {}, {},
                (chanAt .idle 2200).putClaim .smoke smoke, {}⟩ }
    let t := after (exec .lineWatchdogExpiry s)
    t.line.lost = true ∧ t.line.watchdog = 10000
      ∧ (t.chan .ch0).slots = { fallback := some { origin := .line, group := none, demand := .stay (some 3310), expiry := none, tag := 0 } }
      ∧ (t.chan .ch4).slots.smoke = some smoke ∧ (t.chan .ch4).slots.fallback.map (·.demand) = some (.stay (some 2200))
      ∧ (t.chan .ch5).slots = {} := by decide +kernel

/-- The airing of the example 7.6 on CH0 with the dwell run out. -/
def airing76 (phase : AiringPhase) (left : Nat) : State :=
  withCh0 { (chanAt .idle 0).putClaim .airing { comfort 12 300 0 1 with expiry := none } with
    airing := some { openLevel := 300, openDwell := 600, closedDwell := 1200, remaining := some left, atCreation := some 2,
                     phase, dwell := 0 } }

/-- Example 7.6 at 600 s: the OPEN phase turns to CLOSED, with 1,200,000 ms and LEVEL 0. -/
theorem test_airing_dwell_turns :
    let c := (after (exec (.airingDwellExpiry .ch0) (airing76 .openPhase 2))).chan .ch0
    c.airing.map (fun a => (a.phase, a.remaining, a.dwell)) = some (.closedPhase, some 2, 1200000)
      ∧ c.slots.airing.map (·.demand) = some (.level 0) := by decide +kernel

/-- Example 7.6 at 3600 s: the claim leaves and AIRING DONE carries no rank and detail 2. -/
theorem test_airing_done :
    let t := after (exec (.airingDwellExpiry .ch0) (airing76 .closedPhase 1))
    (t.chan .ch0).airing = none ∧ (t.chan .ch0).slots = {}
      ∧ t.reports.records.getLast? = some { kind := .airingDone, chan := some .ch0, position := some 0, detail := { b5 := 2 } } := by
  decide +kernel

/-! ### Weather: the example 2.6 -/

/-- A weather record of that example. -/
def weather26 (w : Weather) : State := hearing { State.reset with weather := { w with age := some 12000, staleAt := 120000 } }

/-- At 0 s: speed 92, sector 11, from UNKNOWN. At 48 s: speed 138, sector 12 stops the release timer and drops candidate 13. -/
theorem test_weather_frames :
    let t := after (exec (.weather 0 0 [0, 92, 11, 0]) (hearing State.reset))
    let w : Weather := { wind := .storm, releaseTimer := some 288000, lastSpeed := 130 }
    let u := after (exec (.weather 0 0 [0, 138, 12, 0])
      (weather26 { w with settled := some 12, candidate := some 13, settleTimer := some 8000 }))
    (t.weather.wind, t.weather.settled, t.weather.releaseTimer) = (.windy, some 11, none)
      ∧ (u.weather.wind, u.weather.settled, u.weather.candidate, u.weather.releaseTimer, u.weather.settleTimer)
        = (.storm, some 12, none, none, none) ∧ u.reports = (weather26 {}).reports := by decide +kernel

/-- At 360 s: the last speed 70 is at least 65, so STORM falls to WINDY. -/
theorem test_release_timer_expiry :
    let t := after (exec .releaseTimerExpiry (weather26 { wind := .storm, releaseTimer := some 0, lastSpeed := 70 }))
    (t.weather.wind, t.weather.releaseTimer) = (.windy, none) := by decide +kernel

/-- R25: new W1 and H leave the release of the last frame's limits alone; they apply from the next frame on (log 31). -/
theorem test_release_keeps_its_limits :
    let s := weather26 { wind := .storm, releaseTimer := some 0, lastSpeed := 70 }
    let t := { s with settings := { s.settings with w1 := 120 } }
    (after (exec .releaseTimerExpiry t)).weather.wind = .windy
      ∧ (after (exec (.weather 0 0 [0, 70, 11, 0]) t)).weather.w1InForce = 120 := by decide +kernel

/-- At 32 s: the candidate 12 settles. -/
theorem test_settle_timer_expiry :
    let t := after (exec .settleTimerExpiry (weather26 { wind := .storm, settled := some 11, candidate := some 12, settleTimer := some 0 }))
    (t.weather.settled, t.weather.candidate, t.weather.settleTimer) = (some 12, none, none) := by decide +kernel

/-- At 486 s: the weather goes stale. -/
theorem test_stale_time_expiry :
    let s := { weather26 {} with weather := { age := some 120000, staleAt := 120000, wind := .windy, releaseTimer := some 180000, settled := some 12 } }
    let t := after (exec .staleTimeExpiry s)
    (t.weather.wind, t.weather.releaseTimer, t.weather.settled) = (.unknown, none, none)
      ∧ t.reports.records.getLast? = some { kind := .weather, detail := { b5 := 3, b6 := 0, b7 := 0xFF } } := by decide +kernel

theorem test_rain_release_timer_expiry :
    let t := after (exec .rainReleaseTimerExpiry (weather26 { wind := .calm, rainWet := true, rainTimer := some 0 }))
    (t.weather.rainWet, t.weather.rainTimer) = (false, none) := by decide +kernel

/-! ### Motion: the examples 3.14, 5.9 and 6.7 -/

/-- CH4's profile and claim of the example 3.14, on CH0: T = 6000, MANUAL LEVEL 700. -/
def moving314 (c : Channel) : State :=
  { withCh0 { c.putClaim .manual { comfort 1 700 9 1 with expiry := some 900000 } with
      profile := { prof with travel := 6000, weight := 3 } } with
    weather := { wind := .calm }
    settings := { stagger := 300 }, supply := { state := .normal }
    admission := { holders := [⟨.ch0, 4, 0, 3⟩], budget := 12 } }

/-- Example 3.14, step 2: at 2900 rain turns WET; the target becomes 1500 behind the position, and the move brakes to a stop. -/
theorem test_rain_cuts_the_target :
    let t := after (exec (.weather 0 0 [0, 0, 0xFF, 1]) (hearing (moving314 { mover .opening 2900 4200 (.atPosition 4170) with
      selected := {} })))
    let m := (t.chan .ch0).motion
    (m.state, m.reason, m.haltCause, m.hand.target, m.hand.queueRank) = (.braking, some .stop, none, .pulses 1500, some 3)
      ∧ t.admission.holders = [] ∧ (t.chan .ch0).driveDir = none := by decide +kernel

/-- Example 3.14, step 5: at 1504 after a coast of 20 pulses, E_close becomes 23 and ARRIVED carries 251 per mille. -/
theorem test_brake_settle_expiry_learns :
    let c := mover .closing 1504 1500 (.atPosition 1524)
    let s := moving314 { c with motion := { c.motion with state := .braking, reason := some .arrive, settleTimer := some 0, coast := 20 } }
    let t := after (exec (.brakeSettleExpiry .ch0) { s with admission := { budget := 12 } })
    ((t.chan .ch0).motion.state, (t.chan .ch0).motion.eClose, (t.chan .ch0).motion.eOpen) = (.idle, 23, 30)
      ∧ t.reports.records.getLast? = some { kind := .arrived, chan := some .ch0, position := some 251, rank := some 5 } := by
  decide +kernel

/-- Example 3.14, step 3: the target lies against the last direction, so the channel enters DWELL; after a backoff too (R67). -/
theorem test_brake_settle_expiry_dwells :
    let c := mover .opening 2926 1500 (.atPosition 4170)
    let s := moving314 { c with motion := { c.motion with state := .braking, reason := some .stop, settleTimer := some 0 } }
    let m := ((after (exec (.brakeSettleExpiry .ch0) s)).chan .ch0).motion
    (m.state, m.dwellTimer, m.stop) = (.dwell, some 1500, none) := by decide +kernel

/-- Example 3.14, step 4: the reverse dwell ends, the channel waits and, admitted, closes toward the stop point 1524. -/
theorem test_reverse_dwell_expiry :
    let c := mover .opening 2926 1500 (.atPosition 4170)
    let s := moving314 { c with motion := { c.motion with state := .dwell, dwellTimer := some 0, stop := none } }
    let t := after (exec (.reverseDwellExpiry .ch0) { s with admission := { budget := 12 } })
    let m := (t.chan .ch0).motion
    (m.state, m.dir, m.stop) = (.moving, some .closing, some (.atPosition 1524))
      ∧ t.admission = { holders := [⟨.ch0, 5, 0, 3⟩], stagger := some 300, budget := 12 } := by decide +kernel

/-- R79: a WAITING channel that loses its reference leaves the start queue and joins it again; the lighter channel behind it is
admitted by the evaluation between the two events (log 4). -/
theorem test_reference_loss_is_two_events :
    let waits (w : Nat) : Channel := { (chanAt .waiting 0).putClaim .manual (comfort 1 700 9 1) with
      profile := { prof with weight := w }
      motion := { (chanAt .waiting 0).motion with dir := some .opening, hand := { winRank := some 4, target := .pulses 3360, queueRank := some 4 } }
      travel := { drift := 20 } }
    let s : State := { State.reset with
      chans := ⟨waits 9, waits 2, mover .opening 100 4800 (.atPosition 4770), {}, {}, {}⟩
      weather := { wind := .calm }, supply := { state := .normal }
      admission := { queue := [⟨.ch0, 4, 0, 9⟩, ⟨.ch1, 4, 5, 2⟩], holders := [⟨.ch2, 5, 0, 4⟩], budget := 12 } }
    let t := after (exec (.pulse .ch0 20) s)
    (t.chan .ch0).motion.referenced = false ∧ (t.chan .ch0).motion.state = .waiting ∧ (t.chan .ch1).motion.state = .moving := by
  decide +kernel

/-- CH1's move of the example 5.9, on CH0: toward 0 with stop point END. -/
def closing59 (p : Int) (c : Current) : State :=
  withCh0 { mover .closing p 0 .atEnd with
    profile := { prof with travel := 3000, approachDist := 250 }, current := c }

/-- The pulse to 250 brings the approach level; a high level of 19 µs makes no pulse (R95). -/
theorem test_pulse :
    let c := (after (exec (.pulse .ch0 20) (closing59 251 {}))).chan .ch0
    (c.travel.position, c.drive.phase, c.motion.state) = (250, some .approach, .moving)
      ∧ after (exec (.pulse .ch0 19) (closing59 251 {})) = closing59 251 {} := by decide +kernel

/-- At 5140 ms the filter ends in the end zone: BRAKING(END). In the ice at 700 it is an obstruction. -/
theorem test_filter_timer_expiry :
    ((after (exec (.filterTimerExpiry .ch0) (closing59 6 { filter := some 0 }))).chan .ch0).motion.reason = some .endReached
      ∧ ((after (exec (.filterTimerExpiry .ch0) (closing59 700 { filter := some 0 }))).chan .ch0).motion.reason
        = some .obstruct := by decide +kernel

/-- The stall timer: end detection at 6, FAULTED(STALLED) at 700. -/
theorem test_stall_timer_expiry :
    let s (p : Int) := withCh0 { (closing59 p {}).chans.ch0 with travel := { position := p, stall := some 0 } }
    ((after (exec (.stallTimerExpiry .ch0) (s 6))).chan .ch0).motion.reason = some .endReached
      ∧ ((after (exec (.stallTimerExpiry .ch0) (s 700))).chan .ch0).motion.fault = some .stalled := by decide +kernel

/-- Samples of the example 5.9: 44 is not above START 60; 31 in the end zone starts the filter of 40 ms. -/
theorem test_current_sample :
    let c := (after (exec (.currentSample .ch0 44) (closing59 889 { startPhase := true }))).chan .ch0
    let d := (after (exec (.currentSample .ch0 31) (closing59 6 {}))).chan .ch0
    (c.current.sample, c.current.filter) = (44, none) ∧ (d.current.sample, d.current.filter) = (31, some 40) := by decide +kernel

theorem test_blanking_timer_expiry :
    ((after (exec (.blankingTimerExpiry .ch0) (closing59 889 { blanking := some 0 }))).chan .ch0).current.blanking = none := by
  decide +kernel

theorem test_short_filter_expiry :
    let c := (after (exec (.shortFilterExpiry .ch0) (closing59 700 { short := some 0 }))).chan .ch0
    (c.motion.state, c.motion.fault, c.drive.level, c.motion.restTimer) = (.faulted, some .short, 0, some 200) := by
  decide +kernel

/-- Example 6.7: the 15th step of CH1's ramp lands on the run level; CH4's third saturates at the approach level. -/
theorem test_ramp_step :
    let s (ph : PhaseLevel) (l : Nat) := withCh0 { chanAt .moving 0 with
      current := { startPhase := true }, drive := { level := l, phase := some ph, ramp := some 0, legs := .drive 40 } }
    let c := (after (exec (.rampStep .ch0) (s .run 38912))).chan .ch0
    let d := (after (exec (.rampStep .ch0) (s .approach 14336))).chan .ch0
    (c.drive.level, c.drive.runMark, c.current.startPhase, c.drive.ramp) = (40960, true, false, some 10)
      ∧ (d.drive.level, d.drive.runMark) = (15360, false) := by decide +kernel

/-- Example 6.7: the windows 33..192 of CH1 at N = 160 and 133..192 of CH4 at N = 60. -/
theorem test_windows :
    (List.range 200).filter (inWindow (phaseOffset .ch1) 160) = (List.range 160).map (· + 33)
      ∧ (List.range 200).filter (inWindow (phaseOffset .ch4) 60) = (List.range 60).map (· + 133) := by decide +kernel

theorem test_timed_duration_reached :
    let c := chanAt .moving 0
    let s := withCh0 { c with motion := { c.motion with moveKind := some .timed, dir := some .opening, moveTimer := some 60, duration := 60 } }
    ((after (exec (.timedDurationReached .ch0) s)).chan .ch0).motion.reason = some .arrive := by decide +kernel

theorem test_rest_timer_expiry :
    let s := withCh0 { profile := prof, motion := { state := .faulted, fault := some .travel, restTimer := some 0 } }
    ((after (exec (.restTimerExpiry .ch0) s)).chan .ch0).motion.restTimer = none := by decide +kernel

theorem test_pulse_period_timeout :
    let s := { withCh0 { chanAt .idle 0 with travel := { lastPulse := some 0, period := 300 } } with clock := { now := 6553, sub := 40000 } }
    ((after (exec (.pulsePeriodTimeout .ch0) s)).chan .ch0).travel.period = 65535 := by decide +kernel

/-! ### Admission, supply and temperature: the example 4.9 -/

/-- The station of the example 4.9 before the fire demand, with CH2 and CH4 waiting under rank 1. -/
def fire49 : State :=
  let c (w : Nat) : Channel := { mover .opening 100 4800 (.atPosition 4770) with profile := { prof with weight := w } }
  let q (w : Nat) : Channel := { chanAt .waiting 0 with
    profile := { prof with weight := w }
    motion := { state := .waiting, referenced := true, hand := { winRank := some 1, target := .pulses 4800, queueRank := some 1 } } }
  { State.reset with
    chans := ⟨c 4, c 3, q 6, c 4, q 5, q 2⟩
    supply := { state := .normal, samples := [206, 206, 206, 238], measured := 214, formed := true }
    thermal := { formed := true, temperature := 61 }
    admission := { queue := [⟨.ch2, 1, 2000, 6⟩, ⟨.ch4, 1, 2000, 5⟩, ⟨.ch5, 5, 700, 2⟩],
                   holders := [⟨.ch0, 5, 0, 4⟩, ⟨.ch1, 4, 300, 3⟩, ⟨.ch3, 3, 600, 4⟩], stagger := some 0, budget := 12 }
    clock := { now := 2000 } }

/-- At 2000 ms: CH0 and CH1 are preempted, CH2 is admitted beside CH3, and CH4 waits for the stagger timer. -/
theorem test_stagger_timer_expiry :
    let t := after (exec .staggerTimerExpiry fire49)
    t.admission = { queue := [⟨.ch4, 1, 2000, 5⟩, ⟨.ch5, 5, 700, 2⟩],
                    holders := [⟨.ch3, 3, 600, 4⟩, ⟨.ch2, 1, 2000, 6⟩], stagger := some 300, budget := 12 }
      ∧ (t.chan .ch0).motion.haltCause = some .preempt ∧ (t.chan .ch1).motion.state = .braking
      ∧ (t.chan .ch2).motion.state = .moving := by decide +kernel

/-- At 5000 ms: a measurement of 206 brings LOW; CH4, admitted later, is shed, and CH2 stays alone above the budget. -/
theorem test_supply_measurement :
    let t := after (exec (.supplyMeasurement 206) { fire49 with admission :=
      { queue := [], holders := [⟨.ch2, 1, 2000, 6⟩, ⟨.ch0, 1, 4100, 5⟩], budget := 12 } })
    (t.supply.state, t.supply.measured) = (.low, 206) ∧ t.admission.holders = [⟨.ch2, 1, 2000, 6⟩] ∧ t.admission.budget = 4
      ∧ (t.chan .ch0).motion.haltCause = some .shed := by decide +kernel

theorem test_first_supply_measurement :
    let t := after (exec (.firstSupplyMeasurement 238 239 238 240) State.reset)
    (t.supply.state, t.supply.measured, t.admission.budget) = (.normal, 238, 12) := by decide +kernel

theorem test_hold_off_expiry :
    let t := after (exec .holdOffExpiry { State.reset with supply := { formed := true, measured := 215, holdOff := some 0 } })
    (t.supply.state, t.supply.holdOff, t.admission.budget) = (.normal, none, 12) := by decide +kernel

/-- R91: new thresholds wait for the next measurement, the hold-off expires by the old ones (log 31). -/
theorem test_hold_off_keeps_its_thresholds :
    let s := { State.reset with supply := { formed := true, measured := 215, holdOff := some 0 }, settings := { lowVolt := 220 } }
    (after (exec .holdOffExpiry s)).supply.state = .normal
      ∧ (after (exec (.supplyMeasurement 0) s)).supply.lowInForce = 220 := by decide +kernel

/-- R92: 150 °C shuts, and WARN ends below 120 °C. -/
theorem test_thermal_measurement :
    (after (exec (.thermalMeasurement 150) State.reset)).thermal.state = .shut
      ∧ (after (exec (.thermalMeasurement 120) { State.reset with thermal := { state := .warn, formed := true } })).thermal.state = .warn
      ∧ (after (exec (.thermalMeasurement 119) { State.reset with thermal := { state := .warn, formed := true } })).thermal.state
        = .normal := by decide +kernel

/-! ### Inputs: the example 8.6 -/

/-- Keys IN1 and IN2 of the example 8.6, with IN1 active and IN2's debounce run out. -/
def keys86 : State :=
  { State.reset with
    groups := { number := 12, members := ⟨true, true, false, false, false, false⟩,
                admitted := { smoke := true, service := true, manual := true } } :: List.replicate 63 {}
    chans := ⟨chanAt .idle 1630, chanAt .idle 1200, {}, {}, {}, {}⟩
    inputs := ⟨{ function := .manualOpen, group := 12, level := 700, hold := 600, active := true },
               { function := .manualClose, group := 12, hold := 600, timer := some 0, pinHigh := false }, {}, {}⟩ }

/-- At 2050 ms: IN2 finds IN1 active and places STAY on both channels, with 600,000 ms; the report says PLACED 2. -/
theorem test_debounce_timer_expiry :
    let t := after (exec (.debounceTimerExpiry .in2) keys86)
    (t.chan .ch0).slots.manual = some { origin := .input .in2, group := some 12, demand := .stay (some 1630), expiry := some 600000, tag := 0 }
      ∧ (t.chan .ch1).slots.manual.map (·.demand) = some (.stay (some 1200))
      ∧ t.reports.records.getLast? = some { kind := .input, detail := { b5 := 2, b6 := 1, b7 := 18, b8 := 3 } } := by
  decide +kernel

/-- R133: an active sample starts the debounce timer of 50 ms, an equal one stops it. -/
theorem test_input_sample :
    let t := after (exec (.inputSample false false true true) { keys86 with
      inputs := { keys86.inputs with in1 := { keys86.inputs.in1 with active := false }, in2 := { keys86.inputs.in2 with active := true } } })
    (t.input .in1).timer = some 50 ∧ (t.input .in2).timer = none := by decide +kernel


/-! ### The line: the examples 9.6 and 11.5 -/

/-- Station 3 of the example 9.6: group 5 on CH3 to CH5, the D-port DOWN. -/
def station3 : State :=
  { State.reset with
    line := { uUp := true, uRx := some .underReady, station := 3 }
    groups := { number := 5, members := ⟨false, false, false, true, true, true⟩, admitted := { smoke := true } }
      :: List.replicate 63 {}
    chans := ⟨{}, {}, {}, chanAt .idle 0, chanAt .idle 0, chanAt .idle 0⟩ }

/-- Example 9.6, station 3: the counts become 5 and 1, the hop count 3, and the ECHO carries them. -/
theorem test_demand_is_echoed :
    let t := after (exec (.demand 0 0x0317 [1, 0, 5, 0x03, 0xE8, 0, 0, 2, 1, 2]) station3)
    t.line.upQueue = [⟨0x22, 3, 0x0317, [1, 1, 0, 5, 5, 1, 3, 0]⟩] ∧ t.line.downQueue = [] := by decide +kernel

/-- R148: a BEACON and a frame of unknown kind go on unchanged, and the watchdog restarts. -/
theorem test_beacon_and_unknown_kind :
    let s := { State.reset with line := { (hearing State.reset).line with watchdog := 3 } }
    let t := after (exec (.beacon 0 7 [1, 2]) s)
    let u := after (exec (.unknownKindFrame ⟨0x22, 9, 7, [3]⟩) s)
    t.line.downQueue.map (·.frame) = [⟨0x04, 0, 7, [1, 2]⟩] ∧ t.line.watchdog = 10000
      ∧ u.line.downQueue.map (·.frame) = [⟨0x22, 9, 7, [3]⟩] ∧ u.line.watchdog = 10000 := by decide +kernel

/-- R149: NEXT 7 numbers the station and goes on as 8; 33 makes it unnumbered. -/
theorem test_enumerate :
    let t := after (exec (.enumerate 0 0 [7]) (hearing State.reset))
    let u := after (exec (.enumerate 0 0 [33]) (hearing State.reset))
    (t.line.station, t.line.downQueue.map (·.frame.payload)) = (7, [[8]])
      ∧ (u.line.station, u.line.downQueue.map (·.frame.payload)) = (0, [[33]]) := by decide +kernel

/-- Table 9.3 at station 2: after four forwarded frames the REPORT with 5 of 7 records, before the fifth forwarded frame. -/
def station2 (run : Nat) : State :=
  let r (k : ReportKind) (c : Chan) : Report := { kind := k, chan := some c }
  { State.reset with
    line := { uUp := true, station := 2, forwardedRun := run, upQueue := [⟨0x22, 3, 5, []⟩, ⟨0x22, 3, 0x0317, []⟩] }
    reports := { records := [r .arrived .ch0, r .arrived .ch1, r .arrived .ch2, r .arrived .ch3, r .arrived .ch4,
                             r .arrived .ch5, r .halted .ch0] } }

theorem test_u_port_transmit_choice :
    let t := after (exec (.uPortTransmitChoice true) (station2 4))
    let u := after (exec (.uPortTransmitChoice true) (station2 3))
    (t.line.forwardedRun, t.reports.records.length, t.line.uTx.map (·.source), t.line.uTx.map (·.frame.payload.length))
        = (0, 2, some .report, some 46)
      ∧ (u.line.forwardedRun, u.reports.records.length, u.line.uTx.map (·.source)) = (4, 7, some .forwarded) := by
  decide +kernel

theorem test_u_port_frame_sent :
    let s := { station2 1 with line := { (station2 1).line with uTx := some ⟨.forwarded, ⟨0x22, 3, 5, []⟩⟩ } }
    let t := after (exec .uPortFrameSent s)
    (t.line.upQueue, t.line.uTx) = ([⟨0x22, 3, 0x0317, []⟩], none) := by decide +kernel

theorem test_d_port_transmits :
    let s := { State.reset with line := { dUp := true, downQueue := [⟨⟨0x04, 0, 7, []⟩, false⟩] } }
    let t := after (exec (.dPortTransmitStart true) s)
    t.line.dSending = true ∧ after (exec (.dPortTransmitStart false) s) = s
      ∧ (after (exec .dPortFrameSent t)).line = { s.line with downQueue := [] } := by decide +kernel

/-- R144 and R145: a first byte takes a place under ready; a bad frame sets the line error indicator. -/
theorem test_reception :
    let s := { State.reset with line := { uUp := true, dUp := true } }
    (after (exec (.frameFirstByte .uPort) s)).line.uRx = some .underReady
      ∧ (after (exec (.frameDiscarded .uPort [0x04] false) (hearing s))).line.lineError = true
      ∧ (after (exec (.upstreamFrameAccepted ⟨0x22, 3, 5, []⟩) { s with line := { s.line with dRx := some .underReady } })).line.upQueue
        = [⟨0x22, 3, 5, []⟩] := by decide +kernel

/-- R153: the D-port becomes DOWN; of the downstream queue the acted-on DEMAND alone is echoed. -/
theorem test_ports :
    let s := { State.reset with line := { dUp := true, station := 2, downQueue :=
      [⟨⟨0x04, 0, 7, []⟩, false⟩, ⟨⟨0x01, 0, 8, [1, 0, 5, 0, 0, 0, 0, 2, 1, 2]⟩, true⟩] } }
    let t := after (exec (.portDown .dPort) s)
    t.line.upQueue = [⟨0x22, 2, 8, [1, 1, 0, 5, 2, 1, 2, 0]⟩] ∧ t.line.downQueue = []
      ∧ (after (exec (.portUp .uPort) s)).line.uUp = true := by decide +kernel

/-- Example 11.5: at 16 records the FAULT report of CH3 is discarded with the lost flag; SUPPLY is replaced in its place. -/
theorem test_report_queue :
    let q : List Report := [.ch0, .ch1, .ch2].map (fun c => { kind := .arrived, chan := some c })
      ++ [{ kind := .line, detail := { b5 := 1 } }]
      ++ [.ch3, .ch4, .ch5].map (fun c => { kind := .arrived, chan := some c })
      ++ [{ kind := .input }, { kind := .weather }, { kind := .supply, detail := { b5 := 1 } }]
      ++ allChans.map (fun c => { kind := .halted, chan := some c })
    let s := { State.reset with reports := { records := q } }
    q.length = 16 ∧ (s.post { kind := .fault, chan := some .ch3 }).reports = { records := q, lost := true }
      ∧ ((s.post { kind := .supply }).reports.records.getD 9 { kind := .line }) = { kind := .supply } := by decide +kernel

/-! ### Management -/

/-- The REPLY payload of a request. -/
def replyOf (s : State) : Option (List Byte) := s.line.reply.map (·.payload)

/-- R160: entry 1 takes group 40; writing group 12 there, which entry 0 holds, is DUPLICATE; group 0 deletes. -/
theorem test_group_write :
    let t := after (exec (.groupWrite 1 7 [1, 0, 41, 0x0C, 0x0A]) station18)
    let u := after (exec (.groupWrite 1 7 [1, 0, 12, 0x0C, 0x0A]) station18)
    (lookupGroup t.groups 41).map (·.members) = some ⟨false, false, true, true, false, false⟩ ∧ replyOf t = some [0]
      ∧ u.groups = station18.groups ∧ replyOf u = some [3]
      ∧ lookupGroup (after (exec (.groupWrite 1 7 [1, 0, 0, 0, 0]) station18)).groups 40 = none := by decide +kernel

/-- R48 and R161: an accepted profile unreferences its channel and sets the estimates; WAITING refuses it with BUSY. -/
theorem test_profile_write :
    let r := profileBytes { prof with initOpen := 11 }
    let t := after (exec (.profileWrite 1 7 (0x40 :: r)) (hearing (withCh0 (chanAt .idle 100))))
    let u := after (exec (.profileWrite 1 7 (0x40 :: r)) (hearing (withCh0 (chanAt .waiting 100))))
    ((t.chan .ch0).motion.referenced, (t.chan .ch0).motion.eOpen, (t.chan .ch0).profile.initOpen, replyOf t) = (false, 11, 11, some [0])
      ∧ replyOf u = some [1] ∧ u.chans = (withCh0 (chanAt .waiting 100)).chans := by decide +kernel

/-- Table 9.11: IN3 as a service switch of group 12; function code 6 is RANGE. -/
theorem test_input_write :
    let t := after (exec (.inputWrite 1 7 [0x83, 0x05, 20, 0, 12, 0, 0, 0, 1]) (hearing State.reset))
    (t.input .in3).function = .serviceSwitch ∧ (t.input .in3).debounce = 20 ∧ (t.input .in3).group = 12 ∧ replyOf t = some [0]
      ∧ replyOf (after (exec (.inputWrite 1 7 [0x83, 0x06, 20, 0, 12, 0, 0, 0, 1]) (hearing State.reset))) = some [2] := by
  decide +kernel

/-- R164: a low budget above the normal budget is RANGE. -/
theorem test_settings_write :
    let t := after (exec (.settingsWrite 1 7 (0xC0 :: settingsBytes { stagger := 500 })) (hearing State.reset))
    (t.settings.stagger, replyOf t) = (500, some [0])
      ∧ replyOf (after (exec (.settingsWrite 1 7 (0xC0 :: settingsBytes { lowBudget := 13 })) (hearing State.reset))) = some [2] := by
  decide +kernel

/-- Tables 9.9 and 9.13: entry 0 of the example 1.8, and its station page. -/
theorem test_reads :
    replyOf (after (exec (.tableRead 1 7 [0]) station18)) = some [0, 0, 12, 0x07, 0x1D]
      ∧ replyOf (after (exec (.tableRead 1 7 [0x46]) station18)) = some [4]
      ∧ replyOf (after (exec (.statusRead 1 7 [0]) station18)) = some [0, 1, 0x01, 2, 0, 0, 0, 0, 0, 3, 0, 0xFF, 0, 0]
      ∧ (after (exec (.statusRead 1 7 [0]) station18)).freshStart = false
      ∧ (replyOf (after (exec (.statusRead 1 7 [2]) station18))).map (·.take 4) = some [0, 7, 0, 2] := by decide +kernel

/-- Tables 9.10 to 9.12: a record written back reads as it was. -/
theorem test_records_read_back :
    profileOf (profileBytes prof) = prof ∧ (profileBytes prof).length = 47
      ∧ settingsOf (settingsBytes { latched := true, freq := .khz25, faultHigh := true, reportMask := 0x1234 })
        = some { latched := true, freq := .khz25, faultHigh := true, reportMask := 0x1234 }
      ∧ (profileBytes prof).take 5 = [0x11, 0x12, 0xC0, 0, 60] := by decide +kernel

/-- R141 and R142: after reset the CUT supply pulls the pin low; while POWER_ON_RESET acts the pin is released (log 32). -/
theorem test_fault_pin :
    faultPin State.reset = .pulledLow ∧ faultPin { State.reset with pending := [.powerOnReset] } = .released
      ∧ faultPin { State.reset with settings := { faultHigh := true } } = .released := by decide +kernel

/-- R72: STALLED clears once at rest, and the channel is then unreferenced; still moving gives NOT-CLEARED. -/
theorem test_clear_fault :
    let s (r : Option Nat) := hearing (withCh0 { profile := prof, motion := { state := .faulted, fault := some .stalled, referenced := true, restTimer := r } })
    let t := after (exec (.clearFault 1 7 [0]) (s none))
    ((t.chan .ch0).motion.state, (t.chan .ch0).motion.referenced, replyOf t) = (.idle, false, some [0])
      ∧ replyOf (after (exec (.clearFault 1 7 [0]) (s (some 5)))) = some [5] := by decide +kernel

/-- R90: the latch clears at cut + 5 = 185 and the hold-off of 2000 ms starts; at 184 it is NOT-CLEARED. -/
theorem test_clear_supply :
    let s (v : Nat) := hearing { State.reset with supply := { formed := true, measured := v, latch := true }, settings := { latched := true } }
    let t := after (exec (.clearSupply 1 7) (s 185))
    (t.supply.latch, t.supply.holdOff, replyOf t) = (false, some 2000, some [0])
      ∧ replyOf (after (exec (.clearSupply 1 7) (s 184))) = some [5] := by decide +kernel

/-- R158: a STATION RESET with a payload byte is FORMAT. -/
theorem test_station_reset_format :
    replyOf (after (exec (.stationReset 1 7 [0]) (hearing State.reset))) = some [6] := by decide +kernel

/-- R74 and R170: a driven channel whose claims are gone brakes without a halt cause, whichever order is taken (log 6). -/
theorem test_station_reset :
    let t := (withCh0 (mover .opening 100 4800 (.atPosition 4770))).resetChannel .ch0 true
    ((t.chan .ch0).motion.state, (t.chan .ch0).motion.reason, (t.chan .ch0).motion.haltCause) = (.braking, some .stop, none)
      ∧ (t.chan .ch0).motion.hand.target = .none ∧ (t.chan .ch0).motion.byReset = true := by
  simp only [State.resetChannel]
  split <;> decide +kernel

/-- R170 and R175: the braking that a STATION RESET began ends with ARRIVED, at 400 of 1000 ‰, and without HALTED. -/
theorem test_station_reset_arrived :
    let c := mover .opening 1920 4800 (.atPosition 4770)
    let s := withCh0 { c with motion := { c.motion with
      state := .braking, reason := some .stop, settleTimer := some 0, moveTimer := none, hand := {}, byReset := true } }
    let t := after (exec (.brakeSettleExpiry .ch0) s)
    t.reports.records.map (fun r => (r.kind, r.chan, r.position, r.detail.b5))
      = [(.freshStart, none, none, 0), (.arrived, some .ch0, some 400, 0)] := by decide +kernel

/-- R115: a driven leg is active in its window, and every leg is inactive during power-on reset. -/
theorem test_leg_outputs :
    let s := withCh0 (mover .opening 100 4800 (.atPosition 4770))
    legOutputs s .ch0 = (true, false) ∧ legOutputs { s with pending := [.powerOnReset] } .ch0 = (false, false) := by decide +kernel

/-- After reset: the FRESH START record, the CUT supply, no budget (R86, R175, Table 4.1). -/
theorem test_power_on_reset :
    let t := after (exec .powerOnReset fire49)
    t.reports.records.map (·.kind) = [.freshStart] ∧ t.supply.state = .cut ∧ t.admission = {}
      ∧ (t.chan .ch0).motion.state = .disabled := by decide +kernel

/-- R112 and R113: the period index advances, and the on-count of 160 is that of level 40960. -/
theorem test_pwm_period :
    let t := after (exec .pwmPeriod { fire49 with clock := { count := 199, k := 255 } })
    (t.clock.k, t.clock.count, (t.chan .ch0).drive.legs) = (0, 0, .drive 160) := by decide +kernel

/-! ### Witnesses: concrete states and operands that meet the hypotheses of each statement, clause by clause -/

/-- The state after reset at count `n` of its PWM period. -/
def atCount (n : Nat) : State := { State.reset with clock := { State.reset.clock with count := n } }

theorem witness_StepRunsTheFrontCommand :
    ({ State.reset with pending := [.beacon 0 7 []] } : State).pending = .beacon 0 7 [] :: [] := rfl

theorem witness_QueueAndTime :
    (∃ t, exec (.beacon 0 7 []) (hearing State.reset) = .next t)
      ∧ dueCommands { State.reset with supply := { holdOff := some 0 } } ≠ []
      ∧ (atCount 199).pending = [] ∧ dueCommands (atCount 199) = [] ∧ 199 ≤ (atCount 199).clock.count
      ∧ (atCount 198).pending = [] ∧ dueCommands (atCount 198) = [] ∧ (atCount 198).clock.count < 199 :=
  ⟨⟨_, rfl⟩, by decide +kernel⟩

/-- Running timers of every kind. -/
def timed : State :=
  { withCh0 { ((mover .opening 100 4800 (.atPosition 4770)).putClaim .comfort (comfort 12 600 5 21)).putClaim .smoke
                { comfort 12 1000 0 1 with expiry := none } with
      airing := some { openLevel := 300, openDwell := 600, closedDwell := 1200, remaining := none, atCreation := none,
                       phase := .openPhase, dwell := 7 } } with
    admission := { stagger := some 300 }, supply := { holdOff := some 2000 } }

theorem witness_TimersRunAndExpire :
    0 ≤ 5 ∧ 5 ≤ 5 ∧ (timed.chan .ch0).slots.get .comfort = some (comfort 12 600 (4 + 1) 21)
      ∧ (((timed.chan .ch0).slots.get .smoke).map (·.expiry)) = some none ∧ (timed.chan .ch0).airing.isSome = true
      ∧ (timed.chan .ch0).motion.moveTimer = some 5 ∧ (timed.chan .ch0).travel.stall = some (399 + 1)
      ∧ timed.admission.stagger = some (299 + 1) ∧ timed.supply.holdOff = some (1999 + 1)
      ∧ timed.weather.releaseTimer ≠ some 0 ∧ timed.line.watchdog ≠ 0 ∧ (timed.input .in1).timer ≠ some 0
      ∧ timed.pending = [] ∧ dueCommands timed = [] ∧ timed.clock.count < 199
      ∧ (timed.tickMs.chan .ch0).slots.get .comfort = some (comfort 12 600 4 21)
      ∧ Instr.beacon 0 7 [] ≠ .pwmPeriod ∧ Instr.beacon 0 7 [] ≠ .powerOnReset := by
  decide +kernel

/-- A channel in every leg stage that a period start meets. -/
def legs4 : State :=
  { State.reset with chans := ⟨mover .opening 100 4800 (.atPosition 4770), { drive := { level := 10240, legs := .startWait 1 } },
      { drive := { level := 10240, legs := .startWait 2 } }, {}, {}, {}⟩
                     clock := { count := 199, k := 255 } }

theorem witness_PwmPeriodBegins :
    (legs4.chan .ch0).drive.legs = .drive 160 ∧ (legs4.chan .ch1).drive.legs = .startWait 1
      ∧ (legs4.chan .ch2).drive.legs = .startWait 2 ∧ (legs4.chan .ch3).drive.legs = .off
      ∧ (after (exec .pwmPeriod legs4)).clock.now = legs4.clock.now := by decide +kernel

theorem witness_PeriodIndexCounts :
    (∃ t, exec (.frameFirstByte .uPort) (atCount 7) = .next t) ∧ Instr.frameFirstByte .uPort ≠ .pwmPeriod
      ∧ Instr.frameFirstByte .uPort ≠ .powerOnReset ∧ (255 < 256 ∧ 0 < 256) := ⟨⟨_, rfl⟩, by decide⟩

theorem witness_DitherTotalsTheLevel : (51200 ≤ 51200 ∧ 255 < 256) ∧ (0 ≤ 51200 ∧ 0 < 256 ∧ 7 < 8) := by decide

theorem witness_LegOutputsFollowTheDrive :
    (166 < 200 ∧ 200 ≤ 200 ∧ 199 < 200)
      ∧ (∀ d, ((withCh0 (mover d 0 1 .atEnd)).chan .ch0).drive.legs = .drive 160
        ∧ ((withCh0 (mover d 0 1 .atEnd)).chan .ch0).motion.dir = some d)
      ∧ (∃ rest, { withCh0 (mover .opening 0 1 .atEnd) with pending := [.powerOnReset] }.pending = .powerOnReset :: rest)
      ∧ (∀ rest, (withCh0 (mover .opening 0 1 .atEnd)).pending ≠ .powerOnReset :: rest)
      ∧ ({ drive := { legs := .brake } } : Channel).drive.legs = .brake ∧ ({} : Channel).drive.legs = .off ∧ 198 ≠ 199
      ∧ (atCount 198).pending = [] ∧ dueCommands (atCount 198) = [] ∧ (atCount 198).clock.count < 199
      ∧ (atCount 199).clock.count < 200 :=
  ⟨by decide, fun _ => ⟨rfl, rfl⟩, ⟨[], rfl⟩, fun _ h => (by cases h), by decide +kernel⟩

/-- A channel whose ramp step is due at level `l` toward the run level 40960. -/
def ramping (l : Nat) : State :=
  withCh0 { mover .opening 100 4800 (.atPosition 4770) with drive := { level := l, phase := some .run, ramp := some 0 } }

theorem witness_RampStepMovesTheLevel :
    (∀ l, ((ramping l).chan .ch0).drive.ramp = some 0 ∧ ((ramping l).chan .ch0).drive.phase = some .run)
      ∧ ((ramping 40959).chan .ch0).drive.level < prof.levelOf .run ∧ prof.levelOf .run < ((ramping 40961).chan .ch0).drive.level
      ∧ ((ramping 40960).chan .ch0).drive.level = prof.levelOf .run ∧ (1 ≤ 1 ∧ 10240 < 40960) :=
  ⟨fun _ => ⟨rfl, rfl⟩, by decide +kernel⟩

/-- A table of one group. -/
def oneGroup (e : GroupEntry) : List GroupEntry := e :: List.replicate 63 {}

theorem oneGroup_ok (s : State) (e : GroupEntry) (hs : s.groups = oneGroup e) (h : e.number ≤ 1023)
    (hm : e.members.get .ch0 = true) : GroupsOk s := by
  refine ⟨by simp [hs, oneGroup], ?_, ?_⟩
  · rw [hs, oneGroup, List.pairwise_cons]
    refine ⟨fun b hb h0 => ?_, List.pairwise_replicate.2 (.inr fun _ => rfl)⟩
    rw [List.mem_replicate] at hb
    simpa [hb.2] using h0
  · intro x hx hne
    rw [hs, oneGroup, List.mem_cons, List.mem_replicate] at hx
    rcases hx with rfl | ⟨-, rfl⟩
    · exact ⟨h, .ch0, hm⟩
    · exact absurd rfl hne

/-- A station with group 1023 on CH0, written again by the command in front. -/
def groupsHeld : State :=
  { hearing State.reset with
    groups := oneGroup { number := 1023, members := ⟨true, false, false, false, false, false⟩ }
    pending := [.groupWrite 1 7 [1, 0, 40, 0x0C, 0x0A]] }

theorem witness_GroupTableLaw :
    GroupsOk groupsHeld ∧ (∃ t, step groupsHeld = .next t) ∧ (after (step groupsHeld)).groups ≠ groupsHeld.groups
      ∧ (lookupGroup groupsHeld.groups 1023).isSome = true ∧ lookupGroup groupsHeld.groups 0 = none
      ∧ lookupGroup groupsHeld.groups 1024 = none :=
  ⟨oneGroup_ok _ _ rfl (by decide) rfl, ⟨_, rfl⟩, by decide +kernel⟩

theorem witness_FrameFieldsOfAClaim :
    (1 ≤ 1 ∧ 1 ≤ 3600 ∧ 3600 ≤ 3600 ∧ 3600 < 3601) ∧ ([6, 0, 12, 0x01, 0x2C, 0, 0, 0, 0, 0] : List Byte).length = 10
      ∧ (7 + 3 ≤ ([6, 0, 12, 0x01, 0x2C, 0, 0, 0, 0, 0] : List Byte).length ∧ 3 + 3 ≤ ([5, 0, 12, 0, 0, 0] : List Byte).length)
      ∧ (frameClass [1] = some .smoke ∧ frameClass [6] = some .airing) := by decide

/-- R147, R151, Table 9.6: counts 254 and 0 with 2 accepted and 1 withheld leave as FFh and 01h, hop count 255 stays, and the
ECHO of the DEMAND carries its class, its group and the counts. -/
theorem test_counts_saturate_and_are_echoed :
    raiseCounts [5, 0, 12, 2, 0x58, 0, 0, 254, 0, 255] 7 2 1 = [5, 0, 12, 2, 0x58, 0, 0, 255, 1, 255]
      ∧ echoOf 3 ⟨0x01, 0, 7, [5, 0, 12, 2, 0x58, 0, 0, 255, 1, 255]⟩ = ⟨0x22, 3, 7, [0x01, 5, 0, 12, 255, 1, 255, 0]⟩
      ∧ echoOf 3 ⟨0x05, 0, 7, [4]⟩ = ⟨0x22, 3, 7, [0x05, 0, 0, 0, 0, 0, 0, 4]⟩ := by decide +kernel

/-- An AIRING demand of group 12: level 300, dwells 600 and 1200 s, 2 cycles, from OPEN. -/
def airingPayload : List Byte := [6, 0, 12, 0x01, 0x2C, 0, 0, 0, 0, 0, 0x02, 0x58, 0x04, 0xB0, 2, 0]

theorem witness_DemandIsPlaced :
    let p : List Byte := [5, 0, 12, 0x02, 0x58, 0, 0, 5, 0, 0]
    (Hears station18 p ∧ p.length = 10 ∧ frameClass p = some .comfort ∧ frameGroup p = 12)
      ∧ (Hears station18 airingPayload ∧ airingPayload.length = 16 ∧ frameClass airingPayload = some .airing
        ∧ frameGroup airingPayload = 12)
      ∧ ∃ e, lookupGroup station18.groups 12 = some e ∧ e.admitted.admits .comfort = true ∧ e.admitted.admits .airing = true
        ∧ e.members.get .ch1 = true ∧ (station18.chan .ch1).motion.state ≠ .disabled ∧ e.members.get .ch5 = false := by
  unfold Hears
  refine ⟨?comfort, ?airing, _, rfl, ?members⟩ <;> decide +kernel

theorem witness_DemandIsNotPlaced :
    (Hears station18 [5, 0, 12] ∧ ([5, 0, 12] : List Byte).length ≠ 10)
      ∧ (Hears station18 [0, 0, 12, 0, 0, 0, 0, 0, 0, 0] ∧ Hears station18 [7, 0, 12, 0, 0, 0, 0, 0, 0, 0])
      ∧ (Hears station18 [5, 0, 13, 0, 0, 0, 0, 0, 0, 0] ∧ lookupGroup station18.groups 13 = none)
      ∧ (Hears station18 [5, 0, 7, 0, 0, 0, 0, 0, 0, 0] ∧ frameClass [5, 0, 7, 0, 0, 0, 0, 0, 0, 0] = some .comfort)
      ∧ ∃ e, lookupGroup station18.groups 7 = some e ∧ e.admitted.admits .comfort = false := by
  unfold Hears
  refine ⟨?length, ?rank, ?group, ?admitted, _, rfl, rfl⟩ <;> decide +kernel

theorem witness_ReleaseRemovesByGroup :
    (Hears station18Held [5, 0, 12, 0, 0, 0] ∧ frameClass [5, 0, 12, 0, 0, 0] = some .comfort
      ∧ ∃ c, (station18Held.chan .ch0).slots.get .comfort = some c ∧ c.group = some (frameGroup [5, 0, 12, 0, 0, 0]))
      ∧ (∃ c, (station18Held.chan .ch2).slots.get .comfort = some c ∧ c.group ≠ some 12)
      ∧ (frameGroup [5, 0, 0, 0, 0, 0] = 0 ∧ Hears station18Held [5, 0, 0, 0, 0, 0])
      ∧ (Hears station18Held [7, 0, 12, 0, 0, 0] ∧ frameClass [7, 0, 12, 0, 0, 0] = none)
      ∧ (Hears station18Held [5, 0, 12] ∧ ([5, 0, 12] : List Byte).length ≠ 6) := by
  unfold Hears
  refine ⟨⟨?heard, ?rank, _, rfl, rfl⟩, ⟨_, rfl, ?other⟩, ?all, ?unknown, ?length⟩ <;> decide +kernel

theorem witness_ClaimExpiryEmptiesTheSlot :
    let s := withCh0 ((chanAt .idle 0).putClaim .comfort (comfort 12 600 0 21))
    (s.chan .ch0).slots.get .comfort = some (comfort 12 600 0 21) ∧ (comfort 12 600 0 21).expiry = some 0
      ∧ ClaimClass.comfort ≠ .smoke := by decide +kernel

theorem witness_SmokeClaimStays :
    let claim := { comfort 12 1000 0 1 with expiry := none }
    let s := { withCh0 ((chanAt .idle 0).putClaim .smoke claim) with pending := [.stationReset 1 7 []] }
    (s.chan .ch0).slots.smoke = some claim ∧ ∃ t, step s = .next t := ⟨rfl, _, rfl⟩

theorem witness_LineLossPlacesFallback :
    let claim := { comfort 12 1000 0 1 with expiry := none }
    let s : State := { withCh0 ((chanAt .idle 0).putClaim .manual claim) with line := { watchdog := 0 } }
    s.line.watchdog = 0 ∧ s.line.lost = false ∧ { s.line with lost := true }.lost = true
      ∧ (s.chan .ch0).slots.manual = some claim ∧ claim.origin = .line ∧ (s.chan .ch0).motion.state ≠ .disabled
      ∧ (s.chan .ch1).motion.state = .disabled ∧ (s.chan .ch1).slots.manual = none := by decide +kernel

/-- A station in LINE_LOST with a FALLBACK claim on CH0, hearing a frame. -/
def lostLine : State :=
  hearing { withCh0 ((chanAt .idle 0).putClaim .fallback
      { origin := .line, group := none, demand := .stay (some 0), expiry := none, tag := 0 }) with line := { lost := true } }

theorem witness_FrameRestoresTheLine :
    (Receives lostLine (List.replicate 48 0) ∧ lostLine.line.lost = true
      ∧ (lostLine.chan .ch0).slots.fallback.isSome = true ∧ (lostLine.chan .ch1).slots.fallback = none)
      ∧ (Receives (hearing State.reset) (List.replicate 48 0) ∧ (hearing State.reset).line.lost = false)
      ∧ (Instr.unknownKindFrame ⟨0x30, 0, 7, List.replicate 48 0⟩).frame = some (.uPort, ⟨0x30, 0, 7, List.replicate 48 0⟩)
      ∧ (Instr.demand 0 7 []).frame = some (.uPort, ⟨0x01, 0, 7, []⟩) ∧ (∀ st t, Instr.demand 0 7 [] ≠ .statusRead st t [0])
      ∧ (lostLine.line.station ≠ 0 ∧ (1 : Byte).toNat = lostLine.line.station ∧ lostLine.line.reply = none)
      ∧ ((2 : Byte).toNat ≠ lostLine.line.station ∧ State.reset.line.station = 0
        ∧ ({ lostLine.line with reply := some ⟨0x21, 1, 7, [0]⟩ } : Line).reply.isSome = true) := by
  unfold Receives
  refine ⟨?lost, ?ok, rfl, rfl, fun _ _ h => (by cases h), ?addressed, ?passed⟩ <;> decide +kernel

theorem witness_AiringDwellTurns :
    (∃ a, ((airing76 .openPhase 2).chan .ch0).airing = some a ∧ a.dwell = 0 ∧ a.phase = .openPhase)
      ∧ (∃ a, ((airing76 .closedPhase 2).chan .ch0).airing = some a ∧ a.dwell = 0 ∧ a.phase = .closedPhase
        ∧ 1 ≤ 1 ∧ a.remaining = some (1 + 1))
      ∧ (∃ a, ((airing76 .closedPhase 1).chan .ch0).airing = some a ∧ a.dwell = 0 ∧ a.phase = .closedPhase
        ∧ a.remaining = some 1 ∧ 1 ≤ 1 ∧ a.atCreation = some 2)
      ∧ (∃ a : AiringRecord, (withCh0 { chanAt .idle 0 with airing := some a }).chans.ch0.airing = some a ∧ a.dwell = 0
        ∧ a.phase = .closedPhase ∧ a.remaining = none) :=
  ⟨⟨_, rfl, rfl, rfl⟩, ⟨_, rfl, rfl, rfl, by decide, rfl⟩, ⟨_, rfl, rfl, rfl, rfl, by decide, rfl⟩,
    ⟨{ openLevel := 300, openDwell := 600, closedDwell := 1200, remaining := none, atCreation := none, phase := .closedPhase,
       dwell := 0 }, rfl, rfl, rfl, rfl⟩⟩

theorem witness_ClaimInvariants :
    let s := { airing76 .openPhase 2 with pending := [.airingDwellExpiry .ch0] }
    AiringOk s ∧ FallbackOk s ∧ ∃ t, step s = .next t :=
  ⟨by intro ch; cases ch <;> decide +kernel, by intro _ ch; cases ch <;> decide +kernel, _, rfl⟩

theorem witness_WeatherFrameIsTaken :
    Hears (weather26 {}) [0, 150, 15, 0] ∧ ([0, 150, 15, 0] : List Byte).length = 4
      ∧ (Hears (weather26 {}) [0, 150, 15] ∧ ([0, 150, 15] : List Byte).length ≠ 4)
      ∧ (min (wordAt [0, 150, 15, 0] 0) 700 = 150 ∧ min (wordAt [0, 149, 16, 0] 0) 700 = 149
        ∧ min (wordAt [0, 65, 0, 0] 0) 700 = 65 ∧ min (wordAt [0, 64, 0, 0] 0) 700 = 64
        ∧ min (wordAt [0, 135, 0, 0] 0) 700 = 135 ∧ min (wordAt [0, 134, 0, 0] 0) 700 = 134)
      ∧ (({} : Settings).w2 = 150 ∧ ({} : Settings).w1 - ({} : Settings).hysteresis = 65
        ∧ ({} : Settings).w2 - ({} : Settings).hysteresis = 135 ∧ ({} : Settings).settleTime ≠ 0)
      ∧ ((byteAt [0, 150, 15, 0] 2).toNat < 16 ∧ 16 ≤ (byteAt [0, 149, 16, 0] 2).toNat)
      ∧ (weather26 {}).weather.wind = .unknown ∧ (weather26 { wind := .windy }).weather.wind = .windy
      ∧ (weather26 { wind := .storm }).weather.wind = .storm ∧ (weather26 {}).weather.settled = none
      ∧ (weather26 { settled := some 15 }).weather.settled = some 15
      ∧ (weather26 { settled := some 0, candidate := some 15 }).weather.candidate = some 15
      ∧ { settleTime := 0 : Settings }.settleTime = 0 := by
  unfold Hears
  decide +kernel

theorem witness_WeatherTimersExpire :
    (weather26 { wind := .storm, releaseTimer := some 0, lastSpeed := 65 }).weather.releaseTimer = some 0
      ∧ (weather26 { settled := some 11, candidate := some 12, settleTimer := some 0 }).weather.settleTimer = some 0
      ∧ (weather26 { candidate := some 12 }).weather.candidate.isSome = true
      ∧ (weather26 { rainTimer := some 0 }).weather.rainTimer = some 0
      ∧ ({ age := some 120000, staleAt := 120000 } : Weather).age = some 120000
      ∧ ({ age := some 120000, staleAt := 120000 } : Weather).staleAt ≤ 120000 := by decide +kernel

theorem witness_LevelInPulses : (0 ≤ 1000 ∧ 100 ≤ 100 ∧ 100 ≤ 60000) ∧ (1000 ≤ 1000 ∧ 60000 ≤ 60000) := by decide

theorem witness_PositionInPermille :
    ((0 : Int) ≤ 0) ∧ ((0 : Int) < 100 ∧ ((100 : Nat) : Int) ≤ 100) ∧ (0 < 1 ∧ 99 < 100) ∧ (0 < 100 ∧ (-512 : Int) ≤ 612)
      ∧ (1000 ≤ 1000 ∧ 1000 ≤ 1000) := by decide

/-- A referenced channel with one claim, of class `cls` and demand `d`. -/
def claimed (cls : ClaimClass) (d : Demand) (m : MotionState := .idle) (w : Bool := false) : Channel :=
  (({ chanAt m 1000 with profile := { prof with windDependent := w } }).putClaim cls { comfort 12 0 9 1 with demand := d })

theorem witness_SelectorResult :
    (∀ k, ({} : Channel).slots.get k = none)
      ∧ (∀ cls d m w, ∃ claim, (claimed cls d m w).slots.get cls = some claim ∧ claim.demand = d)
      ∧ (∀ cls d m w k, classRank k < classRank cls → (claimed cls d m w).slots.get k = none)
      ∧ (claimed .service (.stay (some 5)) .disabled).motion.state = .disabled
      ∧ (claimed .service (.stay (some 5))).motion.state ≠ .disabled
      ∧ (claimed .smoke (.level 1000) .idle true).profile.windDependent = true
      ∧ (claimed .smoke (.level 1000) .idle false).profile.windDependent = false
      ∧ prof.windward.getLsbD 11 = true ∧ (claimed .manual (.stay none)).motion.referenced = true
      ∧ 3 ≤ classRank .fallback ∧ 3 ≤ classRank .airing := by
  refine ⟨fun k => by cases k <;> rfl, fun cls d m w => ?_, fun cls d m w k h => ?_, by decide +kernel⟩
  · cases cls <;> exact ⟨_, rfl, rfl⟩
  · cases cls <;> cases k <;> first | rfl | exact absurd h (by decide)

theorem witness_MovementNeeded :
    let c (referenced : Bool) (t : Target) (r : Nat) : Channel := { chanAt .idle 100 with
      motion := { state := .idle, referenced, timedEst := 300, hand := { winRank := some r, target := t, queueRank := some r } } }
    (({} : Channel).motion.hand.target = .none)
      ∧ (c true (.pulses 111) 5).motion.hand.target = .pulses 111 ∧ ((10 : Int) < 111 - 100 ∧ (10 : Int) < 100 - 89)
      ∧ (((110 : Int) - 100 ≤ 10 ∧ (100 : Int) - 110 ≤ 10) ∧ (c true (.pulses 110) 5).profile.deadband = 10)
      ∧ (c false (.pulses 110) 5).motion.referenced = false ∧ (c true (.level 301) 1).motion.referenced = true
      ∧ (c false (.level 301) 1).motion.hand.winRank = some 1 ∧ (c false (.level 301) 1).motion.timedEst < 301
      ∧ (c false (.level 300) 1).motion.timedEst = 300 ∧ (c false (.level 300) 5).motion.hand.winRank ≠ some 1 := by
  decide +kernel

/-- A channel in state `m` under a MANUAL claim of 700, with a WAITING channel's entry in the queue. -/
def targeted (m : MotionState) (position : Int := 0) : State :=
  { withCh0 { (chanAt m position).putClaim .manual (comfort 12 700 9 1) with
      profile := { prof with travel := 1000 } } with
    weather := { wind := .calm }, admission := { queue := [⟨.ch0, 6, 5, 4⟩], holders := [⟨.ch1, 5, 0, 4⟩] } }

theorem witness_RetargetOutsideMoving :
    (∀ m, ((targeted m).chan .ch0).motion.state = m)
      ∧ (evaluate (targeted .idle).weather ((targeted .idle).chan .ch0)).target = .pulses 700
      ∧ (moveNeeded { (targeted .waiting).chan .ch0 with
          motion := { ((targeted .waiting).chan .ch0).motion with
            hand := evaluate (targeted .idle).weather ((targeted .idle).chan .ch0) } }).isSome = true
      ∧ findChan .ch0 (targeted .waiting).admission.queue = some ⟨.ch0, 6, 5, 4⟩
      ∧ moveNeeded { (targeted .waiting 700).chan .ch0 with
          motion := { ((targeted .waiting 700).chan .ch0).motion with
            hand := evaluate (targeted .waiting 700).weather ((targeted .waiting 700).chan .ch0) } } = none
      ∧ (evaluate (targeted .idle).weather ((targeted .idle).chan .ch0)).queueRank = some 4 := by
  refine ⟨fun m => by cases m <;> rfl, by decide +kernel⟩

/-- A moving CH0 of travel 1000 under a MANUAL claim of `d`. -/
def following (k : MoveKind) (dir : Dir) (p : Int) (referenced : Bool) (cls : ClaimClass) (d : Nat) (hand : Target) : State :=
  let c := (mover dir p 0 .atEnd).putClaim cls (comfort 12 d 9 1)
  { withCh0 { c with
      profile := { prof with travel := 1000 }
      motion := { c.motion with moveKind := some k, referenced, timedEst := 300, moveTimer := some 6000,
                                hand := { winRank := some 4, target := hand, queueRank := some 4 } } } with
    weather := { wind := .calm } }

/-- The selector's result on CH0. -/
def selects (s : State) : Selection := evaluate s.weather (s.chan .ch0)

theorem witness_RetargetWhileMoving :
    (∀ k dir p r cls d h, ((following k dir p r cls d h).chan .ch0).motion.state = .moving
        ∧ ((following k dir p r cls d h).chan .ch0).motion.moveKind = some k
        ∧ ((following k dir p r cls d h).chan .ch0).motion.dir = some dir)
      ∧ ((selects (following .positioned .opening 0 true .manual 700 (.pulses 700))).target = .pulses 700
        ∧ (selects (following .positioned .opening 0 true .manual 700 (.pulses 700))).queueRank = some 4
        ∧ (((following .positioned .opening 0 true .manual 700 (.pulses 700)).retarget .ch0).chan .ch0).motion.state = .moving)
      ∧ ((selects (following .positioned .opening 659 true .manual 700 (.pulses 1))).target = .pulses 700
        ∧ ((10 : Int) < 700 - 659 ∧ (669 : Int) < 700 - 30 ∧ ¬ (670 : Int) < 700 - 30))
      ∧ ((selects (following .positioned .closing 725 true .manual 700 (.pulses 1))).target = .pulses 700
        ∧ ((10 : Int) < 725 - 700 ∧ (700 : Int) + 24 < 725 ∧ ¬ (700 : Int) + 24 < 724))
      ∧ (selects (following .positioned .closing 0 false .manual 700 (.pulses 1))).target = .level 700
      ∧ (selects { following .reference .closing 0 false .manual 0 .none with chans := ⟨chanAt .moving 0, {}, {}, {}, {}, {}⟩ }).target
        = .none
      ∧ (selects (following .reference .closing 0 false .smoke 1 .none) = { winRank := some 1, target := .level 1, queueRank := some 1 })
      ∧ (selects (following .reference .closing 0 false .smoke 0 .none) = { winRank := some 1, target := .level 0, queueRank := some 1 })
      ∧ (selects (following .timed .opening 0 true .smoke 1000 .none)).target = .pulses 1000
      ∧ ((selects (following .timed .opening 0 false .smoke 300 .none)).target = .level 300 ∧ 300 ≤ 300)
      ∧ ((selects (following .timed .opening 0 false .smoke 401 .none)).target = .level 401 ∧ 300 < 401
        ∧ 6000 < (401 - 300) * 60 ∧ (400 - 300) * 60 ≤ 6000) := by
  refine ⟨fun k dir p r cls d h => ?_, by decide +kernel⟩
  cases cls <;> exact ⟨rfl, rfl, rfl⟩

/-- CH2 at the head of the queue, with its move and no other holder. -/
def starting (m : Motion) (p : Int := 0) : State :=
  { State.reset with
    chans := ⟨{}, {}, { profile := prof, motion := { m with state := .waiting }, travel := { position := p } }, {}, {}, {}⟩
    admission := { queue := [⟨.ch2, 1, 20, 4⟩], stagger := some 0, budget := 4 } }

/-- A target in hand under rank `r`. -/
def handed (r : Nat) (t : Target) : Selection := { winRank := some r, target := t, queueRank := some r }

theorem witness_AdmissionStartsAMove :
    (∀ m p, (starting m p).admission.stagger = some 0 ∧ (State.reset).settings.stagger ≠ 0 ∧ (starting m p).settings = State.reset.settings
        ∧ (starting m p).admission.queue = ⟨.ch2, 1, 20, 4⟩ :: [] ∧ (starting m p).admission.budget = 4
        ∧ (starting m p).admission.holders = [])
      ∧ moveNeeded ((starting { referenced := true, hand := handed 5 (.pulses 4800) }).chan .ch2) = some (.positioned, .opening)
      ∧ moveNeeded ((starting { referenced := true, hand := handed 5 (.pulses 0) } 11).chan .ch2) = some (.positioned, .closing)
      ∧ moveNeeded ((starting { hand := handed 5 (.level 1) }).chan .ch2) = some (.reference, .closing)
      ∧ moveNeeded ((starting { hand := handed 1 (.level 1) }).chan .ch2) = some (.timed, .opening)
      ∧ (fire49.admission.holders ≠ [] ∧ totalWeight [⟨.ch3, 3, 600, 4⟩] + 6 ≤ 12) := by
  refine ⟨fun m p => ⟨rfl, by decide, rfl, rfl, rfl, rfl⟩, by decide +kernel⟩

/-- A referenced channel in state `m` that moved in direction `d` last. -/
def sensed (m : MotionState) (d : Dir) (p : Int) : State :=
  withCh0 { chanAt m p with
    motion := { (chanAt m p).motion with dir := some d, moveKind := some .positioned, stop := some (.atPosition 470) }
    travel := { position := p, lastPulse := some 0, drift := 20 } }

theorem witness_PulseIsCounted :
    (19 < 20 ∧ 20 ≤ 20) ∧ ((sensed .moving .opening 5311).chan .ch0).motion.dir = some .opening
      ∧ ((sensed .idle .closing (-511)).chan .ch0).motion.dir = some .closing
      ∧ ((sensed .idle .closing 0).chan .ch0).motion.state ≠ .disabled ∧ (chanAt .idle 0).motion.dir = none
      ∧ (chanAt .idle 0).travel.lastPulse = none ∧ ((sensed .idle .closing 0).chan .ch0).travel.lastPulse = some 0
      ∧ (isDriven ((sensed .moving .opening 0).chan .ch0).motion.state = true
        ∧ isDriven ((after (exec (.pulse .ch0 20) (sensed .moving .opening 0))).chan .ch0).motion.state = true)
      ∧ (((sensed .braking .opening 0).chan .ch0).motion.state = .braking
        ∧ ((after (exec (.pulse .ch0 20) (sensed .braking .opening 0))).chan .ch0).motion.state = .braking)
      ∧ ((sensed .faulted .opening 0).chan .ch0).motion.state = .faulted := by decide +kernel

/-- The channel once its pulse is counted. -/
def counted (s : State) : Channel := (s.chan .ch0).countPulse s.clock.tenths

/-- A driven CH0 whose stall, filter and short timers have run out. -/
def overrun (k : MoveKind) (m : MotionState) (d : Dir) (p : Int) : State :=
  let c := mover d p 0 .atEnd
  withCh0 { c with
    motion := { c.motion with state := m, moveKind := some k }, travel := { position := p, stall := some 0 }
    current := { filter := some 0, short := some 0 } }

theorem witness_PulseDecides :
    (20 ≤ 20) ∧ ((counted (sensed .moving .opening 5311)).travel.position = 4800 + 512
        ∧ (counted (sensed .moving .opening 5311)).motion.referenced = true)
      ∧ (stopAhead (counted (sensed .moving .opening 469)) .opening (.atPosition 470) = false
        ∧ (counted (sensed .moving .opening 469)).motion.stop = some (.atPosition 470))
      ∧ (stopAhead (counted (sensed .moving .opening 69)) .opening (.atPosition 470) = true
        ∧ inApproach (counted (sensed .moving .opening 69)) .opening (.atPosition 470) = true
        ∧ (counted (sensed .moving .opening 69)).motion.minimum = false)
      ∧ inApproach (counted (sensed .moving .opening 68)) .opening (.atPosition 470) = false
      ∧ ((counted (sensed .backoff .opening 0)).motion.state = .backoff
        ∧ (counted (sensed .backoff .opening 0)).motion.backoffCount < prof.backoffDist)
      ∧ (prof.driftLimit < ((sensed .idle .opening 0).chan .ch0).travel.drift + 1
        ∧ ((withCh0 (chanAt .idle 0)).chan .ch0).travel.drift + 1 ≤ prof.driftLimit)
      ∧ ((counted (sensed .dwell .opening 0)).motion.state = .dwell ∧ (counted (sensed .waiting .opening 0)).motion.state = .waiting
        ∧ moveNeeded (counted (sensed .waiting .opening 0)) = none)
      ∧ (∀ m ∈ [MotionState.braking, .faulted, .disabled], (counted (sensed m .opening 0)).motion.state = m
        ∧ (counted (sensed m .opening 0)).travel.position ≠ 4800 + 512)
      ∧ (let c := counted (overrun .reference .moving .closing 0)
         c.motion.moveKind = some .reference ∧ c.motion.state = .moving ∧ c.travel.position ≠ -512 ∧ c.travel.runCount ≤ 4800 + 512)
      ∧ (counted State.reset).motion.referenced = false := by decide +kernel

theorem witness_StallAndExceedance :
    (∀ k m d p, ((overrun k m d p).chan .ch0).travel.stall = some 0 ∧ ((overrun k m d p).chan .ch0).current.filter = some 0
        ∧ ((overrun k m d p).chan .ch0).current.short = some 0 ∧ ((overrun k m d p).chan .ch0).motion.state = m
        ∧ ((overrun k m d p).chan .ch0).motion.moveKind = some k ∧ ((overrun k m d p).chan .ch0).motion.dir = some d)
      ∧ ((120 : Int) ≤ prof.endZone ∧ ¬ (121 : Int) ≤ prof.endZone)
      ∧ ((prof.travel : Int) - prof.endZone ≤ 4680 ∧ ¬ (prof.travel : Int) - prof.endZone ≤ 4679)
      ∧ isDriven .moving = true ∧ isDriven .backoff = true :=
  ⟨fun _ _ _ _ => ⟨rfl, rfl, rfl, rfl, rfl, rfl⟩, by decide +kernel⟩

/-- CH0 in BRAKING with its brake-settle timer run out. -/
def settling (r : BrakingReason) (k : MoveKind) (d : Dir) (m : Motion := {}) : State :=
  withCh0 { chanAt .braking 100 with
    motion := { m with state := .braking, reason := some r, settleTimer := some 0, moveKind := some k, dir := some d,
                       referenced := true } }

/-- For BrakingArrives, BrakingReachesTheEnd, BrakingStops and BrakingObstructs: every reason, kind, direction and the rest of
the motion record. -/
theorem witness_BrakingEnds :
    (∀ r k d m, ((settling r k d m).chan .ch0).motion.state = .braking ∧ ((settling r k d m).chan .ch0).motion.settleTimer = some 0
        ∧ ((settling r k d m).chan .ch0).motion.reason = some r ∧ ((settling r k d m).chan .ch0).motion.moveKind = some k
        ∧ ((settling r k d m).chan .ch0).motion.dir = some d ∧ 0 < ((settling r k d m).chan .ch0).profile.travel)
      ∧ ((settling .stop .positioned .opening { haltCause := some .shed }).chan .ch0).motion.haltCause = some .shed
      ∧ ((settling .stop .positioned .opening { afterBackoff := true }).chan .ch0).motion.afterBackoff = true
      ∧ ((settling .stop .positioned .opening { byReset := true }).chan .ch0).motion.byReset = true
      ∧ moveNeeded ((settling .stop .positioned .opening { hand := handed 5 (.pulses 0) }).chan .ch0) = some (.positioned, .closing)
      ∧ moveNeeded ((settling .stop .positioned .opening { hand := handed 5 (.pulses 900) }).chan .ch0) = some (.positioned, .opening)
      ∧ (prof.retryLimit ≤ ((settling .obstruct .positioned .opening { retry := 1 }).chan .ch0).motion.retry)
      ∧ (((settling .obstruct .positioned .opening {}).chan .ch0).motion.retry < prof.retryLimit ∧ prof.backoffDist ≠ 0)
      ∧ (∀ e ∈ (settling .endReached .reference .closing {}).admission.holders, e.chan ≠ .ch0) :=
  ⟨fun _ _ _ _ => ⟨rfl, rfl, rfl, rfl, rfl, by change 0 < 4800; decide⟩, by decide +kernel⟩

theorem witness_SmallTimersExpire :
    ((chanAt .dwell 0).motion.state = .dwell ∧ ({ state := .dwell, dwellTimer := some 0 } : Motion).dwellTimer = some 0)
      ∧ (let m : Motion := { state := .moving, moveKind := some .timed, moveTimer := some 60, duration := 60 }
         m.state = .moving ∧ m.moveKind = some .timed ∧ m.moveTimer = some 60 ∧ m.duration ≤ 60 ∧ 59 < m.duration)
      ∧ ({ restTimer := some 0 } : Motion).restTimer = some 0 ∧ ({ blanking := some 0 } : Current).blanking = some 0
      ∧ ({ lastPulse := some 0 } : Travel).lastPulse = some 0 ∧ (0 + 65535 ≤ 6553 * 10 + 40000 / 8000)
      ∧ (6553 * 10 + 39999 / 8000 < 0 + 65535) := by decide +kernel

/-- R102: the last sampled current is 0 until the first PWM period after power-on reset has run. -/
theorem test_no_current_is_sampled_before_the_first_period :
    let s := after (exec (.currentSample .ch0 9) State.reset)
    s.lastSampled .ch0 = 0 ∧ byteAt (channelPage s .ch0) 9 = 0
      ∧ (after (exec .pwmPeriod s)).lastSampled .ch0 = 9 ∧ byteAt (channelPage (after (exec .pwmPeriod s)) .ch0) 9 = 9 := by
  decide +kernel

theorem witness_CurrentIsSupervised :
    (255 ≤ 255 ∧ isDriven .idle = false ∧ isDriven .moving = true)
      ∧ ((overrun .positioned .backoff .opening 0).chan .ch0).motion.state = .backoff
      ∧ (((overrun .positioned .moving .opening 0).chan .ch0).motion.dir = some .opening
        ∧ ((overrun .positioned .moving .opening 0).chan .ch0).current.blanking = none)
      ∧ ((closing59 6 { blanking := some 80 }).chan .ch0).current.blanking.isSome = true := by decide +kernel

/-! ### The invariants -/

/-- One channel moving under a LOW supply, and the measurement that cuts it. -/
def busy : State :=
  { withCh0 (mover .closing 1200 0 .atEnd) with
    supply := { samples := [200, 200, 200, 200], measured := 200, formed := true, state := .low }
    admission := { holders := [⟨.ch0, 5, 0, 4⟩], budget := 4 }
    pending := [.supplyMeasurement 0] }

theorem channelOk_default : ChannelOk {} := by unfold ChannelOk DriveIsOff; decide +kernel

theorem busy_motionOk : MotionOk busy := by
  refine ⟨fun ch => ?_, ⟨fun ch => by cases ch <;> decide +kernel, ?queue⟩, fun ch => by cases ch <;> decide +kernel, ?holders⟩
  case queue | holders => decide +kernel
  cases ch
  · unfold ChannelOk DriveIsOff; decide +kernel
  all_goals exact channelOk_default

theorem rangesOk_channel (c : Channel) (hp : c.profile = {} ∨ profileInRange c.profile = true) (hs : c.slots = {})
    (ha : c.airing = none) (ht : c.selected = {})
    (hh : c.motion.hand = {} ∨ c.motion.hand = { winRank := some 5, target := .pulses 0, queueRank := some 5 })
    (hq : c.motion.stop = none ∨ c.motion.stop = some .atEnd) (hr : c.drive.ramp = none ∨ c.drive.ramp = some 10)
    (h : c.motion.retry ≤ 3 ∧ c.motion.eOpen ≤ 255 ∧ c.motion.eClose ≤ 255 ∧ c.motion.timedEst ≤ 1000
      ∧ c.motion.backoffCount ≤ 2000 ∧ c.motion.state ≠ .backoff
      ∧ -512 ≤ c.travel.position ∧ c.travel.position ≤ (c.profile.travel : Int) + 512
      ∧ c.travel.runCount ≤ 513 ∧ c.travel.drift ≤ 255
      ∧ c.travel.period ≤ 65535 ∧ c.current.sample ≤ 255 ∧ c.drive.level ≤ 51200 ∧ c.drive.legs.onCount ≤ 200) :
    ChannelRangesOk c := by
  obtain ⟨h1, h2, h3, h4, h5, h6, h7, h8, h9, h10, h11, h12, h13, h14⟩ := h
  have none_ok (T : Nat) : SelectionOk T {} := ⟨trivial, fun _ h => (by cases h), fun _ h => (by cases h)⟩
  refine ⟨hp, fun k claim hk => ?_, fun a h => ?_, ?_, ?_, fun q h => ?_, h1, h2, h3, h4, h5, fun h => absurd h h6, h7, h8,
    by omega, fun _ => by omega, h10, h11, h12, h13, h14, fun r h => ?_⟩
  · rw [hs] at hk; cases k <;> cases hk
  · rw [ha] at h; cases h
  · rw [ht]; exact none_ok _
  · rcases hh with e | e <;> rw [e]
    · exact none_ok _
    · exact ⟨Nat.zero_le _, fun _ h => (by cases h; decide), fun _ h => (by cases h; decide)⟩
  · rcases hq with e | e <;> rw [e] at h <;> cases h; trivial
  · rcases hr with e | e <;> rw [e] at h <;> cases h; decide

theorem rangesOk_default : ChannelRangesOk {} :=
  rangesOk_channel {} (.inl rfl) rfl rfl rfl (.inl rfl) (.inl rfl) (.inl rfl) (by decide +kernel)

/-- The monitors of `busy` lie in their ranges: it has no sector, so what is left to check is closed. -/
theorem busy_monitorRangesOk : MonitorRangesOk busy := by
  have noSector : busy.weather.settled = none ∧ busy.weather.candidate = none := ⟨rfl, rfl⟩
  unfold MonitorRangesOk
  simp only [noSector.1, noSector.2, reduceCtorEq, false_implies, implies_true]
  decide +kernel

theorem busy_rangesOk : RangesOk busy := by
  have stopped : ∀ n, (busy.input n).timer = none := by intro n; cases n <;> rfl
  refine ⟨fun ch => ?_, fun n => ⟨?_, fun r h => ?_⟩, ?_, ?_, ?_, busy_monitorRangesOk, ?_⟩
  rotate_left
  · cases n <;> decide +kernel
  · cases (stopped n).symm.trans h
  · decide +kernel
  · decide +kernel
  · decide +kernel
  · decide +kernel
  cases ch
  · exact rangesOk_channel _ (.inr (by decide +kernel)) rfl rfl rfl (.inr rfl) (.inr rfl) (.inr rfl) (by decide +kernel)
  all_goals exact rangesOk_default

/-- For MotionInvariant, StoredValuesInRange and NoDriveWithoutSupply together: the step cuts the supply. -/
theorem witness_MotionInvariant :
    MotionOk busy ∧ RangesOk busy ∧ ∃ t, step busy = .next t ∧ t.supply.state = .cut :=
  ⟨busy_motionOk, busy_rangesOk, _, rfl, by decide +kernel⟩

theorem witness_ReportQueueLaw :
    let s := { withCh0 (chanAt .idle 0) with
      reports := { records := [{ kind := .line }, { kind := .arrived, chan := some .ch0 }] }, pending := [.lineWatchdogExpiry] }
    (ReportsOk s ∧ ∃ t, step s = .next t)
      ∧ (0x0FFF#13).getLsbD (reportCode .freshStart - 1) = false ∧ s.settings.reportMask.getLsbD (reportCode .arrived - 1) = true
      ∧ s.reports.records = [{ kind := .line }] ++ ({ kind := .arrived, chan := some .ch0 } : Report) :: []
      ∧ ((∀ x ∈ s.reports.records, x.kind ≠ .arrived ∨ x.chan ≠ some .ch1) ∧ s.reports.records.length < 16)
      ∧ 16 ≤ (List.replicate 16 ({ kind := .line } : Report)).length := by
  refine ⟨⟨by unfold ReportsOk; decide +kernel, _, rfl⟩, by decide +kernel⟩

theorem witness_LineInvariant :
    let s := { station2 4 with pending := [.uPortTransmitChoice true] }
    LineOk s ∧ ∃ t, step s = .next t :=
  ⟨by unfold LineOk; simp only [station2, reduceCtorEq, false_implies, implies_true]; decide +kernel, _, rfl⟩

/-! ### Admission, monitors, inputs, the line and management -/

theorem witness_EvaluationStartsAndSheds :
    State.reset.admission.budget = 0 ∧ fire49.admission.stagger = some 0
      ∧ fire49.evaluateAdmission.admission.queue ≠ []
      ∧ { fire49 with line := {} }.admission = fire49.admission := by decide +kernel

/-- The station of the example 4.9 with its stagger timer stopped and `e` alone in the start queue. -/
def headed (e : QueueEntry) : State :=
  { fire49 with admission := { fire49.admission with queue := [e], stagger := none } }

/-- A fall to LOW sheds, but for one holder; CUT sheds all; a head of rank 1 preempts and fits, or preempts and does not. -/
theorem witness_ShedsInShedOrder :
    (fire49.admission.holders.Pairwise (fun a b => a.chan ≠ b.chan))
      ∧ (let s := { fire49 with supply := { fire49.supply with state := .low } }
         (s.rebudget .shed).admission.budget < s.admission.budget ∧ 0 < (s.rebudget .shed).admission.budget
          ∧ s.admission.holders ≠ [] ∧ ⟨.ch0, 5, 0, 4⟩ ∈ s.admission.holders ∧ ⟨.ch0, 5, 0, 4⟩ ∉ (s.rebudget .shed).admission.holders
          ∧ ∀ e ∈ s.admission.holders, e.chan = .ch3 → e ∈ (s.rebudget .shed).admission.holders)
      ∧ (fire49.admission.budget ≤ (fire49.rebudget .shed).admission.budget)
      ∧ ({ fire49 with supply := { fire49.supply with state := .cut } }.rebudget .supply).admission.budget = 0
      ∧ ((fire49.chan .ch0).motion.state = .moving ∧ (overrun .positioned .backoff .opening 0).chans.ch0.motion.state = .backoff
        ∧ ((settling .obstruct .positioned .opening {}).chan .ch0).motion.reason = some .obstruct)
      ∧ (⟨.ch0, 5, 0, 4⟩ ∈ fire49.admission.holders ∧ ⟨.ch0, 5, 0, 4⟩ ∉ (fire49.preempt ⟨.ch2, 1, 2000, 6⟩).admission.holders)
      ∧ ((headed ⟨.ch2, 1, 2000, 6⟩).admission.stagger = none ∧ 0 < (headed ⟨.ch2, 1, 2000, 6⟩).admission.budget
        ∧ (headed ⟨.ch2, 1, 2000, 6⟩).admission.holders ≠ [] ∧ totalWeight fire49.admission.holders = 11)
      ∧ ((12 < 11 + 6 ∧ totalWeight ((headed ⟨.ch2, 1, 2000, 6⟩).preempt ⟨.ch2, 1, 2000, 6⟩).admission.holders + 6 ≤ 12)
        ∧ (12 < 11 + 9 ∧ ((headed ⟨.ch2, 1, 2000, 9⟩).preempt ⟨.ch2, 1, 2000, 9⟩).admission.holders = [⟨.ch3, 3, 600, 4⟩] ∧ 12 < 4 + 9)
        ∧ (12 < 11 + 2 ∧ (⟨.ch5, 5, 700, 2⟩ : QueueEntry).rank ≠ 1)) := by
  decide +kernel

/-- A station whose supply has formed, in state `p`, with samples that make the next measurement `m` of a sample `m`. -/
def supplied (p : SupplyState) (m : Nat) (hold : Option Nat := none) : State :=
  { State.reset with supply := { samples := [m, m, m, m], measured := m, formed := true, state := p, holdOff := hold } }

theorem witness_MonitorsFollowMeasurements :
    (State.reset.supply.formed = false ∧ 400 ≤ 400 ∧ (180 + 180 + 180 + 180) / 4 = 180)
      ∧ (∀ p m h, (supplied p m h).supply.formed = true ∧ (supplied p m h).supply.state = p)
      ∧ ((214 :: (supplied .low 214).supply.samples.take 3).sum / 4 = 214 ∧ (215 :: (supplied .low 215).supply.samples.take 3).sum / 4 = 215)
      ∧ ((184 :: (supplied .cut 184).supply.samples.take 3).sum / 4 < 180 + 5
        ∧ 180 + 5 ≤ (185 :: (supplied .cut 185).supply.samples.take 3).sum / 4)
      ∧ ((supplied .cut 185).supply.latch = false ∧ (supplied .cut 185).supply.holdOff = none
        ∧ (supplied .cut 185 (some 5)).supply.holdOff.isSome = true ∧ (supplied .cut 185 (some 0)).supply.holdOff = some 0)
      ∧ ((supplied .cut 300 (some 0)).supply.overInForce ≤ 300 ∧ ¬ (supplied .cut 299 (some 0)).supply.overInForce ≤ 299
        ∧ 209 < (supplied .cut 209 (some 0)).supply.lowInForce)
      ∧ ({} : Settings).holdOff ≠ 0 ∧ ((-55 : Int) ≤ -55 ∧ (-55 : Int) ≤ 200) := by
  refine ⟨by decide, fun _ _ _ => ⟨rfl, rfl⟩, by decide +kernel⟩

theorem witness_InputsAreSampled :
    keys86.inputs.in1.function ≠ .unused ∧ keys86.inputs.in3.function = .unused
      ∧ ((false = keys86.inputs.in1.activeHigh) ↔ keys86.inputs.in1.active = true)
      ∧ ¬ ((false = keys86.inputs.in2.activeHigh) ↔ keys86.inputs.in2.active = true) := by decide +kernel

/-- IN2's debounce run out, under function `f` and the opposite debounced state. -/
def debounced (f : InputFunction) (active : Bool) : State :=
  { keys86 with inputs := { keys86.inputs with in2 :=
      { function := f, group := 12, hold := 600, timer := some 0, active, pinHigh := active } } }

theorem witness_DebouncedInputActs :
    (∀ f a, ((debounced f a).input .in2).timer = some 0 ∧ ((debounced f a).input .in2).function = f
        ∧ (((debounced f a).input .in2).pinHigh == ((debounced f a).input .in2).activeHigh) = !a
        ∧ ((debounced f a).input .in2).active = a)
      ∧ (∃ g, lookupGroup (debounced .fireContact false).groups 12 = some g ∧ g.admitted.admits .smoke = true
        ∧ g.admitted.admits .service = true ∧ g.admitted.admits .manual = true ∧ g.admitted.admits .comfort = false
        ∧ g.members.get .ch0 = true ∧ g.members.get .ch2 = false)
      ∧ ((debounced .manualClose false).input .in1).function = .manualOpen
      ∧ ((debounced .manualClose false).input .in1).active = true
      ∧ (((debounced .manualOpen false).chan .ch0).motion.state ≠ .disabled) := by
  refine ⟨fun f a => by cases a <;> exact ⟨rfl, rfl, rfl, rfl⟩, ⟨_, rfl, by decide +kernel⟩, by decide +kernel⟩

theorem witness_FaultPinFollowsItsSources :
    (∃ rest, ({ fire49 with pending := [.powerOnReset] } : State).pending = .powerOnReset :: rest)
      ∧ (∀ rest, fire49.pending ≠ .powerOnReset :: rest) ∧ faultCondition fire49 = false ∧ faultCondition State.reset = true :=
  ⟨⟨[], rfl⟩, fun _ h => (by cases h), by decide +kernel⟩

theorem witness_PortsReceiveFrames :
    (hearing State.reset).line.uRx = some .underReady ∧ frameChecks [0x04] false = false
      ∧ frameChecks (sent [0x04, 0, 0, 0, 7]) false = true
      ∧ ({ uUp := true } : Line).uRx = none ∧ ({ dUp := true, dRx := some .againstHandshake } : Line).dRx = some .againstHandshake
      ∧ (Instr.beacon 0 7 []).frame = some (.uPort, ⟨0x04, 0, 7, []⟩) ∧ State.reset.portUp .uPort = false
      ∧ ({ uUp := true } : Line).uCut = none ∧ ({ dUp := true } : Line).upQueue.length ≤ 8
      ∧ (let l : Line := { uUp := true, uCut := some ⟨.reply, ⟨0x21, 1, 7, [0]⟩⟩ }
         l.uTx = none ∧ l.uCut = some ⟨.reply, ⟨0x21, 1, 7, [0]⟩⟩)
      ∧ (List.replicate 48 (0 : Byte)).length ≤ 48 := by decide +kernel

/-- Table 9.8, Table 11.1 note 1: a record of channel 2 at 500 per mille under rank 5, and one without channel, position or rank. -/
theorem test_report_record_bytes :
    reportBytes { kind := .fault, chan := some .ch2, position := some 500, rank := some 5, detail := { b5 := 3 } }
        = [3, 2, 0x01, 0xF4, 5, 3, 0, 0, 0]
      ∧ reportBytes { kind := .freshStart } = [13, 0xFF, 0xFF, 0xFF, 0, 0, 0, 0, 0] := by decide +kernel

theorem witness_PortsTransmitFrames :
    (let l : Line := { dUp := true, downQueue := [⟨⟨0x04, 0, 7, []⟩, false⟩] }
     l.dUp = true ∧ l.dSending = false ∧ l.downQueue ≠ [])
      ∧ ((station2 4).line.uUp = true ∧ (station2 4).line.uTx = none ∧ (station2 4).line.uCut = none
        ∧ (station2 4).line.reply = none ∧ (station2 4).reports.records ≠ [] ∧ 4 ≤ (station2 4).line.forwardedRun
        ∧ (station2 3).line.forwardedRun < 4 ∧ (station2 3).line.upQueue ≠ [])
      ∧ ({ dSending := true } : Line).dSending = true ∧ ({ reply := some ⟨0x21, 1, 7, [0]⟩ } : Line).reply = some ⟨0x21, 1, 7, [0]⟩
      ∧ ({ uCut := some ⟨.report, ⟨0x20, 1, 0, []⟩⟩ } : Line).uCut = some ⟨.report, ⟨0x20, 1, 0, []⟩⟩
      ∧ ({ uTx := some ⟨.report, ⟨0x20, 1, 0, []⟩⟩ } : Line).uTx = some ⟨.report, ⟨0x20, 1, 0, []⟩⟩
      ∧ (({} : Channel).motion.referenced = false ∧ (mover .opening 0 1 .atEnd).motion.referenced = true) := by decide +kernel

theorem witness_EnumerateNumbersTheStation :
    Hears (hearing State.reset) [32] ∧ (1 ≤ 32 ∧ 32 ≤ 32 ∧ ([32] : List Byte) = [byteOf 32]) ∧ (1 ≤ 1 ∧ ([1] : List Byte) = [byteOf 1])
      ∧ ((0 : Byte).toNat = 0 ∧ 32 < (33 : Byte).toNat) ∧ Hears (hearing State.reset) [] ∧ ([] : List Byte).length ≠ 1 := by
  unfold Hears
  decide +kernel

theorem witness_FramesReadAsTheirCommands :
    (Instr.weather 0 7 [0, 92, 11, 0]).wf = true
      ∧ (Instr.weather 0 7 [0, 92, 11, 0]).frame = some (.uPort, ⟨0x03, 0, 7, [0, 92, 11, 0]⟩)
      ∧ (Instr.upstreamFrameAccepted ⟨0x20, 1, 0, List.replicate 48 0⟩).wf = true := by decide +kernel

theorem witness_AddressedFramesPassOn :
    let s := hearing State.reset
    (Instr.tableRead 2 7 [0]).frame = some (.uPort, ⟨0x11, 2, 7, [0]⟩) ∧ Hears s [0] ∧ (2 : Byte).toNat ≠ s.line.station
      ∧ { s.line with station := 0 }.station = 0 ∧ (s.line.station ≠ 0 ∧ (1 : Byte).toNat = s.line.station)
      ∧ { s.line with reply := some ⟨0x21, 1, 7, [0]⟩ }.reply.isSome = true ∧ ∀ g, Instr.tableRead 2 7 [0] ≠ .unknownKindFrame g := by
  unfold Hears
  refine ⟨?frame, ?heard, ?other, ?unnumbered, ?own, ?occupied, fun g h => by cases h⟩ <;> decide +kernel

/-- The station of number 1 consumes a request of any payload that fits. -/
theorem hearing_consumes (s : State) (p : List Byte) (h : p.length ≤ 48) (hl : s.line.lost = false) (hr : s.line.reply = none) :
    Consumes (hearing s) 1 p := ⟨⟨rfl, rfl, h, hl⟩, (by change 1 ≠ 0; decide), rfl, hr⟩

theorem witness_ReadsAreAnswered :
    (Consumes station18 1 [63] ∧ Consumes station18 1 [69] ∧ Consumes station18 1 [132] ∧ Consumes station18 1 [192])
      ∧ ((63 : Byte).toNat < 64 ∧ (69 : Byte).toNat = 64 + chanIndex .ch5 ∧ (132 : Byte).toNat = 128 + inputIndex .in4)
      ∧ (69 < (70 : Byte).toNat ∧ (128 : Byte).toNat ≤ 128 ∧ 132 < (133 : Byte).toNat ∧ (133 : Byte).toNat ≠ 192)
      ∧ (Consumes station18 1 [] ∧ ([] : List Byte).length ≠ 1) ∧ ([6] : List Byte) = [byteOf (chanIndex .ch5 + 1)]
      ∧ 6 < (7 : Byte).toNat ∧ (-55 ≤ fire49.thermal.temperature ∧ fire49.thermal.temperature ≤ 200) := by
  have consumes : ∀ p : List Byte, p.length ≤ 48 → Consumes station18 1 p := fun p h => hearing_consumes _ p h rfl rfl
  refine ⟨⟨consumes _ ?_, consumes _ ?_, consumes _ ?_, consumes _ ?_⟩, ?_, ?_, ⟨consumes _ ?_, ?_⟩, ?_, ?_, ?_⟩ <;> decide +kernel

/-- Entries that hold no group, have no member, are held elsewhere, fit; and settings in and out of range. -/
theorem witness_GroupAndSettingsWrites :
    (∀ p : List Byte, p.length ≤ 48 → Consumes station18 1 p)
      ∧ ((groupOf [0, 0, 0, 0]).number = 0 ∧ 1023 < (groupOf [4, 0, 1, 0]).number)
      ∧ ((groupOf [0, 12, 0, 0]).number ≠ 0 ∧ (groupOf [0, 12, 0, 0]).members.get .ch0 = false)
      ∧ ((groupOf [0, 12, 1, 0]).number = (station18.groups.getD 0 {}).number ∧ (groupOf [0, 12, 1, 0]).members.get .ch0 = true)
      ∧ ((groupOf [3, 0xFF, 1, 0]).number ≠ 0 ∧ (groupOf [3, 0xFF, 1, 0]).number ≤ 1023)
      ∧ ((settingsBytes {}).length = 32 ∧ settingsOf (settingsBytes {}) = some {} ∧ settingsInRange {} = true)
      ∧ (settingsOf (settingsBytes { lowBudget := 13 }) = some { lowBudget := 13 } ∧ settingsInRange { lowBudget := 13 } = false)
      ∧ settingsOf (settingsBytes { lowBudget := 5 }) = some { lowBudget := 5 } ∧ (0xC0 : Byte).toNat % 64 = 0
      ∧ (0xC1 : Byte).toNat % 64 ≠ 0 ∧ settingsOf (List.replicate 31 0xFF) = none ∧ ({ number := 1023 } : GroupEntry).number ≤ 1023 := by
  refine ⟨fun p h => hearing_consumes _ _ h rfl rfl, by decide +kernel⟩

theorem witness_ProfileAndInputWrites :
    (∀ p : List Byte, p.length ≤ 48 → Consumes station18 1 p)
      ∧ ((profileBytes prof).length = 47 ∧ (0x45 : Byte).toNat % 64 = chanIndex .ch5 ∧ 6 ≤ (0x46 : Byte).toNat % 64)
      ∧ (profileInRange (profileOf (profileBytes prof)) = true
        ∧ profileInRange (profileOf (profileBytes { prof with travel := 99 })) = false)
      ∧ ((station18.chan .ch0).motion.state = .idle ∧ (station18.chan .ch1).motion.state = .faulted
        ∧ (chanAt .waiting 0).motion.state = .waiting)
      ∧ ((0x84 : Byte).toNat % 64 = inputIndex .in4 ∧ (0x80 : Byte).toNat % 64 = 0 ∧ 5 ≤ (0x85 : Byte).toNat % 64)
      ∧ ((inputBytes { function := .rainContact }).length = 8
        ∧ (inputOf (inputBytes { function := .rainContact }) {}).map (·.function) = some .rainContact
        ∧ inputInRange { function := .rainContact } = true ∧ inputInRange { debounce := 0 } = false
        ∧ (inputOf [6, 20, 0, 12, 0, 0, 0, 1] {}) = none)
      ∧ ((debounced .serviceSwitch true).input .in2).active = true
      ∧ (∀ e ∈ fire49.admission.holders, e.chan ≠ .ch4)
      ∧ (∃ c, ({ chanAt .idle 0 with slots := { service := some { comfort 12 0 0 0 with origin := .input .in2 } } } :
          Channel).slots.service = some c ∧ c.origin = .input .in2) := by
  refine ⟨fun p h => hearing_consumes _ _ h rfl rfl, ?record, ?ranges, ?states, ?selects, ?entries, ?switched, ?holders, _, rfl, rfl⟩ <;>
    decide +kernel

theorem witness_FaultsAndLatchAreCleared :
    (∀ p : List Byte, p.length ≤ 48 → Consumes station18 1 p)
      ∧ ([5] : List Byte) = [byteOf (chanIndex .ch5)] ∧ (station18.chan .ch0).motion.state ≠ .faulted
      ∧ ((station18.chan .ch1).motion.state = .faulted ∧ (station18.chan .ch1).motion.fault = some .stalled
        ∧ (station18.chan .ch1).motion.restTimer = none)
      ∧ (34 < prof.runLimit ∧ ¬ 35 < prof.runLimit) ∧ (6 ≤ (6 : Byte).toNat ∧ (6 : Byte) ≠ 0x80)
      ∧ (({ state := .cut, latch := true, measured := 185 } : Supply).latch = true ∧ 184 < 180 + 5 ∧ 180 + 5 ≤ 185) := by
  refine ⟨fun p h => hearing_consumes _ _ h rfl rfl, by decide +kernel⟩

/-- CH0 waiting since 100 ms, with a movement still needed, at 500 ms. -/
def queued : State :=
  let s := withCh0 { chanAt .waiting 0 with motion := { (chanAt .waiting 0).motion with hand := handed 5 (.pulses 900) } }
  { s with
    clock := { s.clock with now := 500 }
    admission := { s.admission with queue := [{ chan := .ch0, rank := 5, time := 100, weight := 4 }] } }

/-- R74 and R94: the channel joins the start queue again, with a new entry time, whichever order is taken (log 6). -/
theorem test_station_reset_rejoins :
    let t := queued.resetChannel .ch0 false
    (t.chan .ch0).motion.state = .waiting
      ∧ findChan .ch0 t.admission.queue = some { chan := .ch0, rank := 5, time := 500, weight := 4 } := by
  simp only [State.resetChannel]
  split <;> decide +kernel

theorem witness_StationResetStopsTheMotion :
    (∀ s p, p.length ≤ 48 → s.line.lost = false → s.line.reply = none → Consumes (hearing s) 1 p)
      ∧ ([0] : List Byte) ≠ [] ∧ MotionOk { busy with line := (hearing busy).line }
      ∧ (station18Held.chan .ch0).slots ≠ { smoke := (station18Held.chan .ch0).slots.smoke }
      ∧ (busy.chan .ch0).slots = { smoke := (busy.chan .ch0).slots.smoke }
      ∧ (queued.chan .ch0).motion.state = .waiting ∧ isDriven (queued.chan .ch0).motion.state = false :=
  ⟨fun s p => hearing_consumes s p, by decide, busy_motionOk, by decide +kernel, rfl, rfl, rfl⟩

end Sys2Proof.Tests
end

section
/-! SUPPORT. What every command leaves of the group table (R1) and of the SMOKE claims (R16): one lemma per operation, then one for
the commands together. -/

namespace Sys2Proof.Machine

/-! ### The group table and the recorded groups of the SMOKE claims -/

/-- The recorded group of the SMOKE claim on a channel; none when the slot is empty. -/
def State.smokeGroup (s : State) (ch : Chan) : Option (Option Nat) := (s.chan ch).slots.smoke.map (·.group)

/-- The group table is as before, and each SMOKE slot is empty as before or holds a claim of the same recorded group. A profile
write may move such a claim's stay position and the time base its expiry (R22, 0.5), but neither takes it away. -/
structure State.KeepsTables (s u : State) : Prop where
  groups : u.groups = s.groups
  smoke : ∀ ch, u.smokeGroup ch = s.smokeGroup ch

/-- A change of one channel's record that leaves the recorded group of its SMOKE claim. -/
def Channel.KeepsSmoke (f : Channel → Channel) : Prop := ∀ c, (f c).slots.smoke.map (·.group) = c.slots.smoke.map (·.group)

namespace State.KeepsTables

theorem refl (s : State) : s.KeepsTables s := ⟨rfl, fun _ => rfl⟩

theorem trans {s u v : State} (h : s.KeepsTables u) (k : u.KeepsTables v) : s.KeepsTables v :=
  ⟨k.groups.trans h.groups, fun ch => (k.smoke ch).trans (h.smoke ch)⟩

/-- The last of several changes, and those before it. -/
theorem after {s u v : State} (k : u.KeepsTables v) (h : s.KeepsTables u) : s.KeepsTables v := h.trans k

theorem of_chans {s u : State} (hg : u.groups = s.groups) (hc : u.chans = s.chans) : s.KeepsTables u :=
  ⟨hg, fun ch => by simp [State.smokeGroup, State.chan_congr hc ch]⟩

theorem of_claims {s u : State} (hg : u.groups = s.groups) (hc : KeepsClaims s u) : s.KeepsTables u :=
  ⟨hg, fun ch => by simp [State.smokeGroup, (hc ch).2.1]⟩

theorem of_map {s u : State} {f : Channel → Channel} (hf : Channel.KeepsSmoke f) (hg : u.groups = s.groups)
    (hc : u.chans = s.chans.map f) : s.KeepsTables u :=
  ⟨hg, fun ch => by simpa [State.smokeGroup, State.chan, hc] using hf (s.chans.get ch)⟩

theorem modChan (s : State) (ch : Chan) {f : Channel → Channel} (hf : Channel.KeepsSmoke f) :
    s.KeepsTables (s.modChan ch f) := by
  refine ⟨rfl, fun d => ?_⟩
  by_cases hd : d = ch
  · subst hd; simpa [State.smokeGroup] using hf (s.chan d)
  · simp [State.smokeGroup, State.chan_modChan_ne s f hd]

/-- What concerns one channel's motion leaves the tables. -/
theorem of_actsOn {ch : Chan} {s u : State} (h : ActsOn ch s u) : s.KeepsTables u :=
  .of_claims h.1.fields.2.1 h.2.2

theorem of_startsAndSheds {s u : State} (h : StartsAndSheds s u) : s.KeepsTables u :=
  .of_claims h.fields.2.1 h.2.1

/-- The admission evaluation at the end of a command leaves the tables as the command's own effect does. -/
theorem finish {b s u : State} (h : s.KeepsTables u) : s.KeepsTables (b.finish u) :=
  h.trans (.of_startsAndSheds (.finish b u))

theorem post (s : State) (r : Report) : s.KeepsTables (s.post r) := .of_chans (by simp) (by simp)

theorem retarget (s : State) (ch : Chan) : s.KeepsTables (s.retarget ch) := .of_actsOn (.retarget ch s)

theorem retargetAll (s : State) (chs : List Chan) : s.KeepsTables (s.retargetAll chs) :=
  have h := State.retargetAll_spec chs s
  .of_claims h.1.fields.2.1 h.2.1

/-- A fold of changes that each leave the tables leaves them. -/
theorem foldl {α : Type} {f : State → α → State} (hf : ∀ (u : State) a, u.KeepsTables (f u a)) (l : List α) (s : State) :
    s.KeepsTables (l.foldl f s) :=
  List.foldlRecOn l f (motive := s.KeepsTables) (.refl s) fun u h a _ => h.trans (hf u a)

end State.KeepsTables

theorem OnlyClaims.groups {s u : State} (h : OnlyClaims s u) : u.groups = s.groups := by rw [h.1]

/-! ### Claims and the line (Chapter 1) -/

theorem Channel.keepsSmoke_dropClaim {cls : ClaimClass} (h : cls ≠ .smoke) :
    Channel.KeepsSmoke (fun c => c.dropClaim cls) := fun c => by
  cases cls with
  | smoke => exact absurd rfl h
  | service | fallback | manual | comfort | airing => rfl

theorem Channel.keepsSmoke_loseLine : Channel.KeepsSmoke Channel.loseLine := fun c => by
  unfold Channel.loseLine
  dsimp only
  split <;> split <;> rfl

theorem Channel.keepsSmoke_tick : Channel.KeepsSmoke Channel.tick := fun c => by
  simp [Channel.tick, ClaimSlots.map, Function.comp_def]

theorem Claim.group_reclamp (T : Nat) (k : Claim) : (k.reclamp T).group = k.group := by
  unfold Claim.reclamp; split <;> rfl

theorem Channel.keepsSmoke_writeProfile (p : Profile) : Channel.KeepsSmoke (fun c => c.writeProfile p) := fun c => by
  simp only [Channel.writeProfile]
  split
  · rfl
  · simp [ClaimSlots.map, Function.comp_def, Claim.group_reclamp]

namespace State.KeepsTables

/-- A removal of another class leaves the SMOKE claims. -/
theorem removeWhere (s : State) {cls : ClaimClass} (h : cls ≠ .smoke) (hit : Claim → Bool) :
    s.KeepsTables (s.removeWhere cls hit).1 :=
  after (.retargetAll _ _) (.foldl (fun u ch => .modChan u ch (Channel.keepsSmoke_dropClaim h)) _ s)

theorem expireClaim (s : State) (ch : Chan) (cls : ClaimClass) : s.KeepsTables (s.expireClaim ch cls) := by
  unfold State.expireClaim
  split
  · exact .refl s
  · split
    · rename_i hdue
      have hcls : cls ≠ .smoke := by simp only [Bool.and_eq_true, bne_iff_ne] at hdue; exact hdue.2
      exact after (.retarget _ _) (.modChan s ch (Channel.keepsSmoke_dropClaim hcls))
    · exact .refl s

theorem claimsLineLost (s : State) : s.KeepsTables s.claimsLineLost :=
  after (.retargetAll _ _) (.of_map Channel.keepsSmoke_loseLine rfl rfl)

theorem lineOk (s : State) : s.KeepsTables s.lineOk :=
  after (.post _ _) (after (.removeWhere _ (by decide) _) (.of_chans rfl rfl))

theorem restoreLine (s : State) : s.KeepsTables s.restoreLine := finish (.lineOk s)

theorem watchdogExpires (s : State) : s.KeepsTables s.watchdogExpires := by
  unfold State.watchdogExpires State.lineLost
  dsimp only
  split
  · split
    · exact .of_chans rfl rfl
    · exact after (.post _ _) (after (.claimsLineLost _) (.of_chans rfl rfl))
  · exact .refl s

/-! ### Airing, weather and inputs (Chapters 7, 2 and 8) -/

theorem endDwell (s : State) (ch : Chan) : s.KeepsTables (s.endDwell ch) := by
  have turn : ∀ b, s.KeepsTables ((s.modChan ch (fun c => c.rewriteAiring b)).retarget ch) := fun b =>
    after (.retarget _ _) (.modChan s ch fun _ => rfl)
  unfold State.endDwell
  split
  · exact .refl s
  · split
    · exact .refl s
    · split
      · exact turn _
      · exact turn _
      · split
        · exact turn _
        · exact after (.post _ _) (after (.retarget _ _) (.modChan s ch (Channel.keepsSmoke_dropClaim (by decide))))

/-- An event of the weather unit, for a change of the weather record and of the inputs alone. -/
theorem weatherEvent (s : State) {change : State → State}
    (hc : change s = { s with weather := (change s).weather, inputs := (change s).inputs }) :
    s.KeepsTables (s.weatherEvent change) := by
  obtain ⟨hclaims, hkept, -⟩ := State.weatherEvent_spec s change hc
  exact .of_claims hclaims.groups hkept

theorem releaseExpires (s : State) : s.KeepsTables s.releaseExpires := by
  unfold State.releaseExpires; split
  · exact .weatherEvent s rfl
  · exact .refl s

theorem settleExpires (s : State) : s.KeepsTables s.settleExpires := by
  unfold State.settleExpires; split
  · exact .weatherEvent s rfl
  · exact .refl s

theorem rainExpires (s : State) : s.KeepsTables s.rainExpires := by
  unfold State.rainExpires; split
  · exact .weatherEvent s rfl
  · exact .refl s

theorem goesStale (s : State) : s.KeepsTables s.goesStale := by
  unfold State.goesStale; split
  · exact .weatherEvent s rfl
  · exact .refl s

/-- The end of a function removes SERVICE claims alone (R14). -/
theorem deactivate (s : State) (n : InputNo) : s.KeepsTables (s.deactivate n) := by
  unfold State.deactivate; split
  · exact .removeWhere s (by decide) _
  · exact .refl s

theorem setInput (s : State) (n : InputNo) (e : InputEntry) : s.KeepsTables (s.setInput n e) := .of_chans rfl rfl

theorem writeInput (s : State) (n : InputNo) (e : InputEntry) : s.KeepsTables (s.writeInput n e) := by
  have ended : s.KeepsTables (if (s.input n).active then s.deactivate n else s) := by
    split
    · exact .deactivate s n
    · exact .refl s
  unfold State.writeInput
  dsimp only
  split
  · exact .setInput s n e
  · exact ended.trans (.weatherEvent _ rfl)

/-! ### The admission unit and the monitors (Chapter 4) -/

theorem rebudget (s : State) (cause : HaltCause) : s.KeepsTables (s.rebudget cause) := by
  have budgeted : ∀ n, s.KeepsTables { s with admission := { s.admission with budget := n } } := fun _ => .of_chans rfl rfl
  unfold State.rebudget
  dsimp only
  split
  · exact (budgeted _).trans (.of_startsAndSheds (.shedLoop ..))
  · exact budgeted _

theorem changeSupply (s : State) (state : SupplyState) : s.KeepsTables (s.changeSupply state) :=
  after (.rebudget _ _) (after (.post _ _) (.of_chans rfl rfl))

theorem startHoldOff (s : State) : s.KeepsTables s.startHoldOff := by
  unfold State.startHoldOff; split
  · exact .changeSupply s _
  · exact .of_chans rfl rfl

theorem firstSupply (s : State) (v1 v2 v3 v4 : Nat) : s.KeepsTables (s.firstSupply v1 v2 v3 v4) := by
  unfold State.firstSupply
  dsimp only
  split
  · exact .refl s
  · refine after (.rebudget _ _) ?_
    split
    · exact .of_chans rfl rfl
    · exact after (.post _ _) (.of_chans rfl rfl)

theorem measureInCut (s : State) : s.KeepsTables s.measureInCut := by
  unfold State.measureInCut; split
  · split
    · exact .startHoldOff s
    · exact .refl s
  · exact .of_chans rfl rfl

theorem measureSupply (s : State) (v : Nat) : s.KeepsTables (s.measureSupply v) := by
  unfold State.measureSupply
  dsimp only
  split
  · split
    · exact after (.measureInCut _) (.of_chans rfl rfl)
    · split
      · exact .of_chans rfl rfl
      · exact after (.changeSupply _ _) (.of_chans rfl rfl)
  · exact .refl s

theorem holdOffExpires (s : State) : s.KeepsTables s.holdOffExpires := by
  unfold State.holdOffExpires; split
  · split
    · exact .changeSupply s _
    · exact .of_chans rfl rfl
  · exact .refl s

theorem clearSupply (s : State) : s.KeepsTables s.clearSupply.1 := by
  unfold State.clearSupply; split
  · split
    · exact after (.startHoldOff _) (.of_chans rfl rfl)
    · exact .refl s
  · exact .refl s

theorem measureThermal (s : State) (celsius : Int) : s.KeepsTables (s.measureThermal celsius) := by
  unfold State.measureThermal
  dsimp only
  generalize (if s.thermal.formed = true then _ else _) = state
  split
  · exact .of_chans rfl rfl
  · exact after (.rebudget _ _) (after (.post _ _) (.of_chans rfl rfl))

/-! ### The line interface (Chapter 9) -/

theorem firstByte (s : State) (p : Port) : s.KeepsTables (s.firstByte p) := by
  unfold State.firstByte
  split <;> split <;> exact .of_chans rfl rfl

theorem discardFrame (s : State) (p : Port) : s.KeepsTables (s.discardFrame p) := by
  cases p <;> exact .of_chans rfl rfl

theorem endBadFrame (s : State) (p : Port) (bytes : List Byte) (byteError : Bool) :
    s.KeepsTables (s.endBadFrame p bytes byteError) := by
  unfold State.endBadFrame
  dsimp only
  split
  · split
    · exact (firstByte s p).trans (.discardFrame _ _)
    · exact .refl s
  · exact .refl s

theorem acceptUpstream (s : State) (f : Frame) : s.KeepsTables (s.acceptUpstream f) := by
  unfold State.acceptUpstream
  dsimp only
  split
  · split
    · exact (firstByte s .dPort).trans (.discardFrame _ _)
    · exact (firstByte s .dPort).trans (.of_chans rfl rfl)
  · exact .refl s

theorem pushEcho (s : State) (f : Frame) : s.KeepsTables (s.pushEcho f) := by
  unfold State.pushEcho; split <;> exact .of_chans rfl rfl

theorem dispose (s : State) (fate : Fate) : s.KeepsTables (s.dispose fate) := by
  cases fate with
  | gone => exact .refl s
  | forward f acted => rw [State.dispose_forward]; exact .of_chans rfl rfl

theorem uPortDown (s : State) : s.KeepsTables s.uPortDown := by
  unfold State.uPortDown; split <;> exact .of_chans rfl rfl

theorem dPortDown (s : State) : s.KeepsTables s.dPortDown := by
  unfold State.dPortDown
  dsimp only
  split
  · exact after (.foldl (fun u (d : DownFrame) => .pushEcho u d.frame) _ _) (.of_chans rfl rfl)
  · exact .refl s

theorem chooseFrame (s : State) : s.KeepsTables s.chooseFrame := by
  have report : s.KeepsTables s.sendReport := .of_chans rfl rfl
  unfold State.chooseFrame
  split
  · exact .of_chans rfl rfl
  · exact .of_chans rfl rfl
  · split
    · exact report
    · split
      · exact .of_chans rfl rfl
      · split
        · exact .refl s
        · exact report

theorem frameSent (s : State) : s.KeepsTables s.frameSent := by
  unfold State.frameSent
  split
  · exact .refl s
  · split <;> exact .of_chans rfl rfl

/-! ### The management unit (Chapter 10) -/

theorem performProfileWrite (p : List Byte) (s : State) : s.KeepsTables (performProfileWrite p s).state := by
  unfold Sys2Proof.Machine.performProfileWrite
  split
  · exact .refl s
  · split
    · exact .refl s
    · split
      · exact .refl s
      · split
        · exact .refl s
        · split
          · exact after (.retarget _ _) (.modChan s _ (Channel.keepsSmoke_writeProfile _))
          · exact .refl s

theorem performInputWrite (p : List Byte) (s : State) : s.KeepsTables (performInputWrite p s).state := by
  unfold Sys2Proof.Machine.performInputWrite
  split
  · exact .refl s
  · split
    · exact .refl s
    · split
      · exact .refl s
      · split
        · exact .refl s
        · split
          · exact .writeInput s _ _
          · exact .refl s

theorem writeSettings (s : State) (t : Settings) : s.KeepsTables (s.writeSettings t) := by
  unfold State.writeSettings
  dsimp only
  split
  · exact .of_chans rfl rfl
  · exact after (.rebudget _ _) (.of_chans rfl rfl)

theorem performSettingsWrite (p : List Byte) (s : State) : s.KeepsTables (performSettingsWrite p s).state := by
  unfold Sys2Proof.Machine.performSettingsWrite
  split
  · exact .refl s
  · split
    · exact .refl s
    · split
      · exact .refl s
      · split
        · exact .refl s
        · split
          · exact .writeSettings s _
          · exact .refl s

theorem performTableRead (p : List Byte) (s : State) : s.KeepsTables (performTableRead p s).state := by
  unfold Sys2Proof.Machine.performTableRead
  split
  · split <;> exact .refl s
  · exact .refl s

theorem performStatusRead (p : List Byte) (s : State) : s.KeepsTables (performStatusRead p s).state := by
  unfold Sys2Proof.Machine.performStatusRead
  dsimp only
  split
  · split
    · exact .of_chans rfl rfl
    · split
      · exact .refl s
      · exact .of_chans rfl rfl
  · exact .refl s

theorem performClearSupply (s : State) : s.KeepsTables (performClearSupply s).state := .clearSupply s

theorem clearChannel (s : State) (ch : Chan) : s.KeepsTables (s.clearChannel ch).state := by
  unfold State.clearChannel
  dsimp only
  split
  · exact .refl s
  · split
    · exact after (.retarget _ _) (after (.of_actsOn (.postChan ch ..)) (.modChan s ch fun _ => rfl))
    · exact .refl s

theorem performClearFault (p : List Byte) (s : State) : s.KeepsTables (performClearFault p s).state := by
  unfold Sys2Proof.Machine.performClearFault
  split
  · split
    · exact .performClearSupply s
    · split
      · exact .refl s
      · exact .clearChannel s _
  · exact .refl s

theorem resetMotion (s : State) (ch : Chan) : s.KeepsTables (s.resetMotion ch) := by
  unfold State.resetMotion
  dsimp only
  refine after (.modChan _ ch fun _ => rfl) ?_
  split
  · exact .of_actsOn (.brake ..)
  · exact .of_actsOn (.brake ..)
  · split
    · exact after (.of_actsOn (.releaseShare ch ..)) (.modChan s ch fun _ => rfl)
    · exact .refl s
  · exact after (.of_actsOn (.settleAtRest ..)) (after (.of_actsOn (.leaveQueue ch ..)) (.modChan s ch fun _ => rfl))
  · exact after (.of_actsOn (.settleAtRest ..)) (.modChan s ch fun _ => rfl)
  · exact .refl s

theorem resetChannel (s : State) (ch : Chan) (changed : Bool) : s.KeepsTables (s.resetChannel ch changed) := by
  have retargeted : ∀ u : State, u.KeepsTables (if changed then u.retarget ch else u) := fun u => by
    split
    · exact .retarget u ch
    · exact .refl u
  have ordered : s.KeepsTables s.freeOrder.2 := .of_chans rfl rfl
  unfold State.resetChannel
  dsimp only
  refine after (.modChan _ ch fun _ => rfl) ?_
  split
  · exact after (retargeted _) (after (.resetMotion _ ch) ordered)
  · exact after (.resetMotion _ ch) (after (retargeted _) ordered)

theorem stationReset (s : State) : s.KeepsTables s.stationReset :=
  after (.foldl (fun u ch => .resetChannel u ch _) _ _) (.of_map (f := Channel.resetClaims) (fun _ => rfl) rfl rfl)

theorem performStationReset (p : List Byte) (s : State) : s.KeepsTables (performStationReset p s).state := by
  cases p with
  | nil => exact .stationReset s
  | cons => exact .refl s

/-! ### Travel sensing and the time base (Chapters 5 and 6) -/

theorem pulse (s : State) (ch : Chan) : s.KeepsTables (s.pulse ch) := by
  have taken : s.KeepsTables (s.finish (s.takePulse ch)) := finish (.of_actsOn (.takePulse ch s))
  unfold State.pulse
  dsimp only
  split
  · exact taken.trans (finish (.retarget _ _))
  · exact taken

theorem tickMs (s : State) : s.KeepsTables s.tickMs := .of_map Channel.keepsSmoke_tick rfl rfl

theorem passTime (s : State) (units : Nat) : s.KeepsTables (s.passTime units) := by
  unfold State.passTime
  dsimp only
  split
  · exact .of_chans rfl rfl
  · exact (tickMs s).trans (.of_chans rfl rfl)

theorem boundary (s : State) : s.KeepsTables s.boundary :=
  .of_map (f := fun c => { c with drive := { c.drive with legs := legsAtBoundary c.drive.legs } }) (fun _ => rfl) rfl rfl

theorem passCount (s : State) : s.KeepsTables s.passCount :=
  after (u := (s.passTime (countUnits s.clock.freq)).boundary) (.of_chans rfl rfl) (after (.boundary _) (.passTime s _))

theorem restOfPeriod (s : State) : s.KeepsTables s.restOfPeriod := by
  have passed := fun n => (passTime s n).trans (.boundary _)
  unfold State.restOfPeriod
  dsimp only
  split
  · exact (passed _).trans (.boundary _)
  · exact passed _

theorem startPeriod (s : State) : s.KeepsTables s.startPeriod :=
  .of_map (f := fun c => { c with
    drive := { c.drive with legs := legsAtPeriod c.drive.level ((s.clock.k + 1) % 256) c.drive.legs } }) (fun _ => rfl) rfl rfl

theorem idle (s : State) : s.KeepsTables s.idle := by
  unfold State.idle
  dsimp only
  split
  · split
    · exact .passCount s
    · exact .of_chans rfl rfl
  · exact .of_chans rfl rfl

end State.KeepsTables

/-! ### An accepted frame (R146, R157) -/

/-- What the tables alone decide, and a frame's own act keeps, the whole acceptance keeps: in LINE_LOST too, with LINE_OK before
the act or after it. -/
theorem State.accept_keeps {P : State → Prop} (hP : ∀ {u v : State}, u.KeepsTables v → P u → P v)
    {act : State → State × Fate} (hact : ∀ u, P u → P (act u).1) {s : State} (h : P s) (p : List Byte) :
    P (s.accept p act) := by
  have hear : ∀ u : State, P u → P (u.hear act) := fun u hu =>
    hP (.finish (.dispose _ _)) (hact u hu)
  have first : P (s.firstByte .uPort) := hP (.firstByte s _) h
  unfold State.accept State.hearInLost
  dsimp only
  split
  · split
    · exact hP (.discardFrame _ _) first
    · split
      · split
        · exact hear _ (hP (.restoreLine _) (hP (u := s.firstByte .uPort) (.of_chans rfl rfl) first))
        · exact hP (.restoreLine _) (hear _ (hP (u := s.firstByte .uPort) (.of_chans rfl rfl) first))
      · exact hear _ (hP (u := s.firstByte .uPort) (.of_chans rfl rfl) first)
  · exact h

/-- The same for an addressed request, by what it performs (R150). -/
theorem State.request_keeps {P : State → Prop} (hP : ∀ {u v : State}, u.KeepsTables v → P u → P v)
    {perform : State → Performed} (hperform : ∀ u, P u → P (perform u).state) {s : State} (h : P s)
    (kind station : Byte) (tag : Word16) (p : List Byte) : P (s.request kind station tag p perform) := by
  refine State.accept_keeps hP (fun u hu => ?_) h p
  unfold actAddressed
  dsimp only
  split
  · exact hu
  · split
    · exact hu
    · exact hP (u := (perform u).state) (.of_chans rfl rfl) (hperform u hu)

theorem State.KeepsTables.accept {act : State → State × Fate} (hact : ∀ u : State, u.KeepsTables (act u).1) (s : State)
    (p : List Byte) : s.KeepsTables (s.accept p act) :=
  State.accept_keeps (P := s.KeepsTables) (fun h k => k.trans h) (fun u hu => hu.trans (hact u)) (.refl s) p

theorem State.KeepsTables.request {perform : State → Performed} (hperform : ∀ u : State, u.KeepsTables (perform u).state)
    (s : State) (kind station : Byte) (tag : Word16) (p : List Byte) :
    s.KeepsTables (s.request kind station tag p perform) :=
  State.request_keeps (P := s.KeepsTables) (fun h k => k.trans h) (fun u hu => hu.trans (hperform u)) (.refl s) ..

theorem State.KeepsTables.actWeather (f : Frame) (s : State) : s.KeepsTables (actWeather f s).1 := by
  unfold Sys2Proof.Machine.actWeather
  dsimp only
  split
  · exact .weatherEvent s rfl
  · exact .refl s

theorem State.KeepsTables.actEnumerate (f : Frame) (s : State) : s.KeepsTables (actEnumerate f s).1 := by
  unfold Sys2Proof.Machine.actEnumerate
  dsimp only
  split
  · split <;> exact .of_chans rfl rfl
  · exact .refl s

end Sys2Proof.Machine
end

section
/-! SUPPORT. The five commands that write the group table or the SMOKE slots, and what every other command keeps. -/

namespace Sys2Proof.Machine

/-! ### The commands that leave the tables -/

/-- The command writes neither the group table nor a SMOKE slot: all but power-on reset, a GROUP write, a DEMAND, a RELEASE and an
input's debounced change. -/
def leavesTables : Instr → Bool
  | .powerOnReset | .groupWrite .. | .demand .. | .release .. | .debounceTimerExpiry _ => false
  | _ => true

theorem leavesTables_or (c : Instr) :
    leavesTables c = true ∨ c = .powerOnReset ∨ (∃ station tag p, c = .groupWrite station tag p)
      ∨ (∃ station tag p, c = .demand station tag p) ∨ (∃ station tag p, c = .release station tag p)
      ∨ ∃ n, c = .debounceTimerExpiry n := by
  cases c <;> simp [leavesTables]

theorem State.KeepsTables.of_next {s u t : State} (h : (.next u : Host.Outcome State Fault Refusal) = .next t)
    (k : s.KeepsTables u) : s.KeepsTables t := by
  cases h; exact k

/-- Every command but those five keeps the group table and the recorded groups of the SMOKE claims. -/
theorem exec_keepsTables {c : Instr} {s t : State} (hc : leavesTables c = true) (h : exec c s = .next t) :
    s.KeepsTables t := by
  have motion : ∀ {ch : Chan} {u : State}, ActsOn ch s u → s.KeepsTables (s.finish u) := fun h => .finish (.of_actsOn h)
  have record : ∀ (ch : Chan) (f : Channel → Channel) (p : Prop) [Decidable p], (∀ c, (f c).slots = c.slots) →
      s.KeepsTables (if p then s.modChan ch f else s) := fun ch f p _ hf => by
    split
    · exact .modChan s ch fun c => by rw [hf]
    · exact .refl s
  cases c with
  | powerOnReset | groupWrite | demand | release | debounceTimerExpiry => simp [leavesTables] at hc
  | portUp p => cases p <;> exact .of_next h (.of_chans rfl rfl)
  | portDown p =>
    cases p with
    | uPort => exact .of_next h (.uPortDown s)
    | dPort => exact .of_next h (.dPortDown s)
  | frameFirstByte p => exact .of_next h (.firstByte s p)
  | frameDiscarded p bytes byteError => exact .of_next h (.endBadFrame s p bytes byteError)
  | upstreamFrameAccepted f => exact .of_next h (.acceptUpstream s f)
  | weather => exact .of_next h (.accept (.actWeather _) s _)
  | beacon => exact .of_next h (.accept (act := actForward _) (fun u => .refl u) s _)
  | unknownKindFrame f => exact .of_next h (.accept (act := actForward f) (fun u => .refl u) s _)
  | enumerate => exact .of_next h (.accept (.actEnumerate _) s _)
  | profileWrite _ _ p => exact .of_next h (.request (.performProfileWrite p) s ..)
  | inputWrite _ _ p => exact .of_next h (.request (.performInputWrite p) s ..)
  | settingsWrite _ _ p => exact .of_next h (.request (.performSettingsWrite p) s ..)
  | tableRead _ _ p => exact .of_next h (.request (.performTableRead p) s ..)
  | statusRead _ _ p => exact .of_next h (.request (.performStatusRead p) s ..)
  | clearFault _ _ p => exact .of_next h (.request (.performClearFault p) s ..)
  | clearSupply => exact .of_next h (.request .performClearSupply s ..)
  | stationReset _ _ p => exact .of_next h (.request (.performStationReset p) s ..)
  | dPortTransmitStart ready =>
    refine .of_next h ?_
    split <;> exact .of_chans rfl rfl
  | dPortFrameSent =>
    refine .of_next h ?_
    split <;> exact .of_chans rfl rfl
  | uPortTransmitChoice ready =>
    refine .of_next h ?_
    split
    · exact .chooseFrame s
    · exact .refl s
  | uPortFrameSent => exact .of_next h (.frameSent s)
  | lineWatchdogExpiry => exact .of_next h (.finish (.watchdogExpires s))
  | claimExpiry ch cls => exact .of_next h (.finish (.expireClaim s ch cls))
  | releaseTimerExpiry => exact .of_next h (.finish (.releaseExpires s))
  | settleTimerExpiry => exact .of_next h (.finish (.settleExpires s))
  | rainReleaseTimerExpiry => exact .of_next h (.finish (.rainExpires s))
  | staleTimeExpiry => exact .of_next h (.finish (.goesStale s))
  | airingDwellExpiry ch => exact .of_next h (.finish (.endDwell s ch))
  | pulse ch highMicros =>
    refine .of_next h ?_
    split
    · exact .refl s
    · exact .pulse s ch
  | pulsePeriodTimeout ch => exact .of_next h (record ch _ _ fun _ => rfl)
  | stallTimerExpiry ch => exact .of_next h (motion (.stallExpires ch s))
  | blankingTimerExpiry ch => exact .of_next h (record ch _ _ fun _ => rfl)
  | filterTimerExpiry ch => exact .of_next h (motion (.filterExpires ch s))
  | shortFilterExpiry ch => exact .of_next h (motion (.shortExpires ch s))
  | timedDurationReached ch => exact .of_next h (motion (.timedArrives ch s))
  | brakeSettleExpiry ch => exact .of_next h (motion (.settleExpired ch s))
  | reverseDwellExpiry ch => exact .of_next h (motion (.dwellExpired ch s))
  | restTimerExpiry ch => exact .of_next h (record ch _ _ fun _ => rfl)
  | rampStep ch => exact .of_next h (record ch _ _ fun c => c.kept_rampStep.2.1)
  | staggerTimerExpiry =>
    refine .of_next h ?_
    split
    · exact .after (.of_startsAndSheds (.evaluateAdmission _)) (.of_chans rfl rfl)
    · exact .refl s
  | firstSupplyMeasurement v1 v2 v3 v4 => exact .of_next h (.finish (.firstSupply s v1 v2 v3 v4))
  | supplyMeasurement v => exact .of_next h (.finish (.measureSupply s v))
  | holdOffExpiry => exact .of_next h (.finish (.holdOffExpires s))
  | thermalMeasurement celsius => exact .of_next h (.finish (.measureThermal s celsius))
  | currentSample ch value => exact .of_next h (.of_actsOn (.modChan ch s _ fun c => c.kept_sampleCurrent _))
  | pwmPeriod => exact .of_next h (.after (.startPeriod _) (.restOfPeriod s))
  | inputSample => exact .of_next h (.of_chans rfl rfl)

/-! ### Placements: a DEMAND and an input's function (R9, R13) -/

/-- The group table is as before, and no channel has lost a SMOKE claim; one may have been placed or replaced. -/
structure State.KeepsSmokeOccupied (s u : State) : Prop where
  groups : u.groups = s.groups
  smoke : ∀ ch, (s.smokeGroup ch).isSome = true → (u.smokeGroup ch).isSome = true

namespace State.KeepsSmokeOccupied

theorem refl (s : State) : s.KeepsSmokeOccupied s := ⟨rfl, fun _ h => h⟩

theorem trans {s u v : State} (h : s.KeepsSmokeOccupied u) (k : u.KeepsSmokeOccupied v) : s.KeepsSmokeOccupied v :=
  ⟨k.groups.trans h.groups, fun ch hs => k.smoke ch (h.smoke ch hs)⟩

theorem of_keepsTables {s u : State} (h : s.KeepsTables u) : s.KeepsSmokeOccupied u :=
  ⟨h.groups, fun ch hs => by rw [h.smoke ch]; exact hs⟩

/-- A claim of any class stored on one channel leaves no SMOKE slot empty that was occupied. -/
theorem modChan (s : State) (ch : Chan) {put : Channel → Channel} {cls : ClaimClass} {claim : Channel → Claim}
    (hput : ∀ c, (put c).slots = c.slots.set cls (some (claim c))) : s.KeepsSmokeOccupied (s.modChan ch put) := by
  refine ⟨rfl, fun d hd => ?_⟩
  by_cases hdc : d = ch
  · subst hdc
    cases cls with
    | smoke => simp [State.smokeGroup, hput, ClaimSlots.set]
    | service | fallback | manual | comfort | airing =>
      simpa [State.smokeGroup, hput, ClaimSlots.set] using hd
  · simpa [State.smokeGroup, State.chan_modChan_ne s put hdc] using hd

theorem placeOn (s : State) (members : List Chan) {put : Channel → Channel} {cls : ClaimClass} {claim : Channel → Claim}
    (hput : ∀ c, (put c).slots = c.slots.set cls (some (claim c))) :
    s.KeepsSmokeOccupied (s.placeOn members put).state := by
  have stored : ∀ chs : List Chan, s.KeepsSmokeOccupied (chs.foldl (fun s c => s.modChan c put) s) := fun chs =>
    List.foldlRecOn chs _ (motive := s.KeepsSmokeOccupied) (.refl s) fun u h ch _ => h.trans (.modChan u ch hput)
  exact (stored _).trans (.of_keepsTables (.retargetAll _ _))

theorem placeDemand (s : State) (tag : Word16) (p : List Byte) : s.KeepsSmokeOccupied (s.placeDemand tag p).state := by
  unfold State.placeDemand
  dsimp only
  split
  · exact .refl s
  · split
    · exact .refl s
    · split
      · exact .placeOn s _ fun _ => rfl
      · exact .refl s

theorem actDemand (f : Frame) (s : State) : s.KeepsSmokeOccupied (actDemand f s).1 := by
  unfold Sys2Proof.Machine.actDemand
  dsimp only
  split
  · exact .placeDemand s _ _
  · exact .refl s

theorem execDemand {s t : State} {station : Byte} {tag : Word16} {p : List Byte}
    (h : exec (.demand station tag p) s = .next t) : s.KeepsSmokeOccupied t := by
  obtain rfl : s.accept p _ = t := Host.Outcome.next.inj h
  exact State.accept_keeps (P := s.KeepsSmokeOccupied) (fun h k => k.trans (.of_keepsTables h))
    (fun u hu => hu.trans (.actDemand _ u)) (.refl s) p

theorem placeLocal (s : State) (n : InputNo) (cls : ClaimClass) (asked : Asked) (expiry : Option Nat) :
    s.KeepsSmokeOccupied (s.placeLocal n cls asked expiry).1 := by
  unfold State.placeLocal
  dsimp only
  split
  · exact .refl s
  · split
    · exact .placeOn s _ fun _ => rfl
    · exact .refl s

theorem activate (s : State) (n : InputNo) : s.KeepsSmokeOccupied (s.activate n).1 := by
  have outcome : ∀ r : State × Option Nat, (outcomeOf r).1 = r.1 := fun r => by unfold outcomeOf; split <;> rfl
  unfold State.activate
  dsimp only
  split
  · rw [outcome]; exact .placeLocal s ..
  · rw [outcome]; exact .placeLocal s ..
  · rw [outcome]; exact .placeLocal s ..
  · rw [outcome]; exact .placeLocal s ..
  · exact .refl s
  · exact .refl s

theorem debounce (s : State) (n : InputNo) : s.KeepsSmokeOccupied (s.debounce n) := by
  have turned : ∀ (e : InputEntry) (b : Bool), s.KeepsTables ((s.setInput n e).setActive n b) := fun e b =>
    .after (.weatherEvent _ rfl) (.setInput s n e)
  unfold State.debounce
  dsimp only
  split
  · split
    · exact .of_keepsTables (.setInput s n _)
    · split
      · exact ((KeepsSmokeOccupied.of_keepsTables (turned _ _)).trans (.activate _ n)).trans (.of_keepsTables (.post _ _))
      · exact .of_keepsTables (.after (.post _ _) (.after (.deactivate _ n) (turned _ _)))
  · exact .refl s

theorem execDebounce {s t : State} {n : InputNo} (h : exec (.debounceTimerExpiry n) s = .next t) :
    s.KeepsSmokeOccupied t := by
  obtain rfl : s.finish (s.debounce n) = t := Host.Outcome.next.inj h
  exact (debounce s n).trans (.of_keepsTables (.finish (.refl _)))

end State.KeepsSmokeOccupied

/-! ### A RELEASE (R15, R16) -/

theorem removeWhere_groups (s : State) (cls : ClaimClass) (hit : Claim → Bool) : (s.removeWhere cls hit).1.groups = s.groups :=
  (State.removeWhere_spec s cls hit).1.groups

theorem releaseClaims_groups (s : State) (p : List Byte) : (s.releaseClaims p).1.groups = s.groups := by
  unfold State.releaseClaims
  split
  · rfl
  · rfl
  · exact removeWhere_groups s _ _

/-- A RELEASE leaves a SMOKE claim that it does not name: one of another recorded group, or of any when its class is not SMOKE. -/
theorem releaseClaims_smokeGroup {s : State} {p : List Byte} {ch : Chan} {g : Option Nat} (hs : s.smokeGroup ch = some g)
    (hne : ¬ (frameClass p = some .smoke ∧ (frameGroup p = 0 ∨ g = some (frameGroup p)))) :
    (s.releaseClaims p).1.smokeGroup ch = some g := by
  unfold State.releaseClaims
  split
  · exact hs
  · exact hs
  · rename_i cls _ hcls
    by_cases hsmoke : cls = .smoke
    · subst hsmoke
      obtain ⟨-, -, -, -, -, unhit, -⟩ := State.removeWhere_spec s .smoke
        (fun c => frameGroup p == 0 || c.group == some (frameGroup p))
      rw [State.smokeGroup, unhit ch ?_]
      · exact hs
      · rintro ⟨claim, hclaim, hhit⟩
        have hg : claim.group = g := by
          change (s.chan ch).slots.smoke = some claim at hclaim
          simpa [State.smokeGroup, hclaim] using hs
        exact hne ⟨hcls, by simpa [hg] using hhit⟩
    · rw [(State.KeepsTables.removeWhere s hsmoke _).smoke ch]; exact hs

theorem execRelease_groups {s t : State} {station : Byte} {tag : Word16} {p : List Byte}
    (h : exec (.release station tag p) s = .next t) : t.groups = s.groups := by
  obtain rfl : s.accept p _ = t := Host.Outcome.next.inj h
  refine State.accept_keeps (P := fun u => u.groups = s.groups) (fun h k => h.groups.trans k) (fun u hu => ?_) rfl p
  unfold actRelease
  dsimp only
  split
  · exact (releaseClaims_groups u p).trans hu
  · exact hu

theorem execRelease_smokeGroup {s t : State} {station : Byte} {tag : Word16} {p : List Byte} {ch : Chan} {g : Option Nat}
    (hs : s.smokeGroup ch = some g)
    (hne : ¬ (frameClass p = some .smoke ∧ (frameGroup p = 0 ∨ g = some (frameGroup p))))
    (h : exec (.release station tag p) s = .next t) : t.smokeGroup ch = some g := by
  obtain rfl : s.accept p _ = t := Host.Outcome.next.inj h
  refine State.accept_keeps (P := fun u => u.smokeGroup ch = some g) (fun h k => (h.smoke ch).trans k) (fun u hu => ?_) hs p
  unfold actRelease
  dsimp only
  split
  · exact releaseClaims_smokeGroup hu hne
  · exact hu

/-! ### A GROUP write (R160) -/

theorem performGroupWrite_smokeGroup (p : List Byte) (s : State) (ch : Chan) :
    (performGroupWrite p s).state.smokeGroup ch = s.smokeGroup ch := by
  unfold performGroupWrite
  dsimp only
  split
  · rfl
  · split
    · rfl
    · split
      · rfl
      · split
        · rfl
        · split <;> rfl

theorem execGroupWrite_smokeGroup {s t : State} {station : Byte} {tag : Word16} {p : List Byte} (ch : Chan)
    (h : exec (.groupWrite station tag p) s = .next t) : t.smokeGroup ch = s.smokeGroup ch := by
  obtain rfl : s.request 0x10 station tag p (performGroupWrite p) = t := Host.Outcome.next.inj h
  exact State.request_keeps (P := fun u => u.smokeGroup ch = s.smokeGroup ch) (fun h k => (h.smoke ch).trans k)
    (fun u hu => (performGroupWrite_smokeGroup p u ch).trans hu) rfl ..

/-! ### The SMOKE claims in every step (R16) -/

theorem smokeGroup_of_smoke {s : State} {ch : Chan} {claim : Claim} (h : (s.chan ch).slots.smoke = some claim) :
    s.smokeGroup ch = some claim.group := by simp [State.smokeGroup, h]

theorem smoke_isSome (s : State) (ch : Chan) : (s.chan ch).slots.smoke.isSome = (s.smokeGroup ch).isSome := by
  simp [State.smokeGroup]

/-- A command leaves a SMOKE slot occupied, unless it is power-on reset or a RELEASE of class SMOKE that names the claim. -/
theorem exec_smoke_stays {c : Instr} {s t : State} {ch : Chan} {g : Option Nat} (hs : s.smokeGroup ch = some g)
    (h : exec c s = .next t) :
    (t.smokeGroup ch).isSome = true ∨ c = .powerOnReset
      ∨ ∃ station tag p, c = .release station tag p ∧ frameClass p = some .smoke ∧ (frameGroup p = 0 ∨ g = some (frameGroup p)) := by
  have occupied : (s.smokeGroup ch).isSome = true := by simp [hs]
  rcases leavesTables_or c with hc | rfl | ⟨station, tag, p, rfl⟩ | ⟨station, tag, p, rfl⟩ | ⟨station, tag, p, rfl⟩ | ⟨n, rfl⟩
  · exact .inl (by rw [(exec_keepsTables hc h).smoke ch]; exact occupied)
  · exact .inr (.inl rfl)
  · exact .inl (by rw [execGroupWrite_smokeGroup ch h]; exact occupied)
  · exact .inl ((State.KeepsSmokeOccupied.execDemand h).smoke ch occupied)
  · by_cases named : frameClass p = some .smoke ∧ (frameGroup p = 0 ∨ g = some (frameGroup p))
    · exact .inr (.inr ⟨station, tag, p, rfl, named⟩)
    · exact .inl (by simp [execRelease_smokeGroup hs named h])
  · exact .inl ((State.KeepsSmokeOccupied.execDebounce h).smoke ch occupied)

/-- Settles O16: the recorded group of a SMOKE claim is kept by every command but five, and the slot stays occupied through those
that place claims; a RELEASE that takes the claim names its recorded group or 0. -/
theorem smokeClaimStays : Obligations.SmokeClaimStays := by
  intro s t ch claim hclaim hstep
  rw [smoke_isSome]
  have hs := smokeGroup_of_smoke hclaim
  unfold step at hstep
  split at hstep
  · obtain rfl : s.idle = t := Host.Outcome.next.inj hstep
    left
    rw [(State.KeepsTables.idle s).smoke ch]; simp [hs]
  · rename_i c rest hpending
    rcases exec_smoke_stays (s := { s with pending := rest }) hs hstep with stays | rfl | ⟨station, tag, p, rfl, named⟩
    · exact .inl stays
    · exact .inr (.inl ⟨rest, hpending⟩)
    · exact .inr (.inr ⟨station, tag, p, rest, hpending, named⟩)

end Sys2Proof.Machine
end

section
/-! SUPPORT. The group table (R1): its lookup, and its law under a GROUP write. -/

namespace Sys2Proof.Machine

/-! ### Lookup -/

theorem GroupEntry.valid_iff (e : GroupEntry) : e.valid = true ↔ 1 ≤ e.number ∧ e.number ≤ 1023 := by
  simp [GroupEntry.valid]

theorem lookupGroup_some {groups : List GroupEntry} {g : Nat} {e : GroupEntry} (h : lookupGroup groups g = some e) :
    e ∈ groups ∧ e.number = g ∧ 1 ≤ g ∧ g ≤ 1023 := by
  have hvalid := List.find?_some h
  simp only [Bool.and_eq_true, e.valid_iff, beq_iff_eq] at hvalid
  obtain ⟨hrange, rfl⟩ := hvalid
  exact ⟨List.mem_of_find?_eq_some h, rfl, hrange⟩

theorem lookupGroup_eq_none {groups : List GroupEntry} {g : Nat} :
    lookupGroup groups g = none ↔ ∀ e ∈ groups, e.number = g → g = 0 ∨ 1023 < g := by
  simp only [lookupGroup, List.find?_eq_none, Bool.and_eq_true, GroupEntry.valid_iff, beq_iff_eq]
  refine forall₂_congr fun e _ => ?_
  constructor
  · rintro h rfl; omega
  · rintro h ⟨hrange, rfl⟩
    have := h rfl
    omega

/-- Two entries of one number other than 0 are the same entry of the table. -/
theorem eq_of_number_eq {groups : List GroupEntry} (hp : groups.Pairwise (fun a b => a.number = b.number → a.number = 0))
    {a b : GroupEntry} (ha : a ∈ groups) (hb : b ∈ groups) (hn : a.number = b.number) (h0 : a.number ≠ 0) : a = b := by
  by_contra hne
  have symm : Std.Symm (fun a b : GroupEntry => a.number = b.number → a.number = 0) :=
    ⟨fun x y h k => k.trans (h k.symm)⟩
  exact h0 (hp.forall ha hb hne hn)

theorem lookupGroup_of_mem {groups : List GroupEntry} (hp : groups.Pairwise (fun a b => a.number = b.number → a.number = 0))
    {e : GroupEntry} (he : e ∈ groups) (h1 : 1 ≤ e.number) (h2 : e.number ≤ 1023) :
    lookupGroup groups e.number = some e := by
  cases hf : lookupGroup groups e.number with
  | none =>
    have := lookupGroup_eq_none.1 hf e he rfl
    omega
  | some f =>
    obtain ⟨hmem, hnum, -⟩ := lookupGroup_some hf
    rw [eq_of_number_eq hp hmem he hnum (by omega)]

/-! ### The law of the table -/

/-- The law reads the group table alone. -/
theorem GroupsOk.of_groups {s t : State} (h : GroupsOk s) (hg : t.groups = s.groups) : GroupsOk t := by
  unfold GroupsOk at *; rw [hg]; exact h

theorem groupsOk_reset : GroupsOk State.reset := by
  refine ⟨by simp [State.reset], List.pairwise_replicate.2 (.inr fun _ => rfl), fun e he hne => ?_⟩
  rw [List.eq_of_mem_replicate he] at hne
  exact absurd rfl hne

/-- An entry laid over index `i` that is empty, or valid with members and of a number held at no other index. -/
theorem GroupsOk.set {s : State} (h : GroupsOk s) (i : Nat) (e : GroupEntry)
    (he : e.number ≠ 0 → e.number ≤ 1023 ∧ ∃ ch, e.members.get ch = true)
    (helse : e.number ≠ 0 → ∀ j (hj : j < s.groups.length), j ≠ i → (s.groups[j]).number ≠ e.number) :
    GroupsOk { s with groups := s.groups.set i e } := by
  obtain ⟨hlen, hpair, hvalid⟩ := h
  refine ⟨by simp [hlen], ?_, fun f hf => ?_⟩
  · simp only [List.pairwise_iff_getElem, List.length_set, List.getElem_set] at hpair ⊢
    intro j k hj hk hjk
    split
    · rename_i hij
      rw [if_neg (by omega)]
      intro hn
      by_contra h0
      exact helse h0 k hk (by omega) hn.symm
    · rename_i hij
      split
      · intro hn
        by_contra h0
        exact helse (by rwa [← hn]) j hj (Ne.symm hij) hn
      · exact hpair j k hj hk hjk
  · rcases List.mem_or_eq_of_mem_set hf with hf | rfl
    · exact hvalid f hf
    · exact he

theorem groupElsewhere_eq_false {groups : List GroupEntry} {i g : Nat} (h : groupElsewhere groups i g = false) :
    ∀ j (hj : j < groups.length), j ≠ i → (groups[j]).number ≠ g := by
  intro j hj hji hn
  have found : groupElsewhere groups i g = true :=
    List.any_eq_true.2 ⟨j, List.mem_range.2 hj, by simp [hji, List.getElem?_eq_getElem hj, hn]⟩
  simp [h] at found

theorem membersEmpty_eq_false {m : PerChan Bool} (h : membersEmpty m = false) : ∃ ch, m.get ch = true := by
  simp only [membersEmpty, Bool.not_eq_false', Bool.or_eq_true] at h
  rcases h with ((((h | h) | h) | h) | h) | h
  · exact ⟨.ch0, h⟩
  · exact ⟨.ch1, h⟩
  · exact ⟨.ch2, h⟩
  · exact ⟨.ch3, h⟩
  · exact ⟨.ch4, h⟩
  · exact ⟨.ch5, h⟩

theorem GroupsOk.performGroupWrite {s : State} (h : GroupsOk s) (p : List Byte) : GroupsOk (performGroupWrite p s).state := by
  unfold Sys2Proof.Machine.performGroupWrite
  dsimp only
  split
  · exact h
  · split
    · exact h
    · split
      · exact h.set _ {} (fun hne => absurd rfl hne) fun hne => absurd rfl hne
      · split
        · exact h
        · rename_i hrange
          simp only [Bool.or_eq_true, decide_eq_true_eq, not_or, Nat.not_lt, Bool.not_eq_true] at hrange
          obtain ⟨hnumber, hmembers⟩ := hrange
          split
          · exact h
          · rename_i helse
            exact h.set _ _ (fun _ => ⟨hnumber, membersEmpty_eq_false hmembers⟩) fun _ =>
              groupElsewhere_eq_false (by simpa using helse)

theorem GroupsOk.execGroupWrite {s t : State} (h : GroupsOk s) {station : Byte} {tag : Word16} {p : List Byte}
    (hx : exec (.groupWrite station tag p) s = .next t) : GroupsOk t := by
  obtain rfl : s.request 0x10 station tag p (Sys2Proof.Machine.performGroupWrite p) = t := Host.Outcome.next.inj hx
  exact State.request_keeps (P := GroupsOk) (fun k hu => hu.of_groups k.groups) (fun u hu => hu.performGroupWrite p) h ..

/-- Every command keeps the law of the group table: power-on reset empties the table, a GROUP write tests its entry against the
law, and no other command writes it. -/
theorem GroupsOk.exec {c : Instr} {s t : State} (h : GroupsOk s) (hx : exec c s = .next t) : GroupsOk t := by
  rcases leavesTables_or c with hc | rfl | ⟨station, tag, p, rfl⟩ | ⟨station, tag, p, rfl⟩ | ⟨station, tag, p, rfl⟩ | ⟨n, rfl⟩
  · exact h.of_groups (exec_keepsTables hc hx).groups
  · obtain rfl := Host.Outcome.next.inj hx
    exact groupsOk_reset.of_groups rfl
  · exact h.execGroupWrite hx
  · exact h.of_groups (State.KeepsSmokeOccupied.execDemand hx).groups
  · exact h.of_groups (execRelease_groups hx)
  · exact h.of_groups (State.KeepsSmokeOccupied.execDebounce hx).groups

theorem GroupsOk.step {s t : State} (h : GroupsOk s) (hx : step s = .next t) : GroupsOk t := by
  unfold Sys2Proof.Machine.step at hx
  split at hx
  · obtain rfl : s.idle = t := Host.Outcome.next.inj hx
    exact h.of_groups (State.KeepsTables.idle s).groups
  · rename_i rest _
    exact GroupsOk.exec (s := { s with pending := rest }) h hx

/-- After power-on reset no number is held. -/
theorem lookupGroup_reset (g : Nat) : lookupGroup State.reset.groups g = none := by
  refine lookupGroup_eq_none.2 fun e he hn => .inl ?_
  rw [← hn, List.eq_of_mem_replicate he]

/-- Settles O10: the lookup by its `find?`, and the law command by command, of which a GROUP write alone has something to test. -/
theorem groupTableLaw : Obligations.GroupTableLaw := by
  refine ⟨fun groups g => ⟨fun e h => lookupGroup_some h, lookupGroup_eq_none, ?found⟩, fun s t h hx => h.step hx,
    fun s => ⟨_, rfl, rfl, lookupGroup_reset⟩, fun s t station tag p hx => (exec_keepsTables rfl hx).groups⟩
  case found =>
    rintro e he rfl h1 h2 hp
    exact lookupGroup_of_mem hp he h1 h2

/-! ### The expiry of a claim (R12) -/

/-- CLAIM_EXPIRY of a claim that has run out, as a removal from its one channel with that channel's re-target. -/
theorem State.expireClaim_of_due {s : State} {ch : Chan} {cls : ClaimClass} {claim : Claim}
    (hclaim : (s.chan ch).slots.get cls = some claim) (hdue : claim.expiry = some 0) (hcls : cls ≠ .smoke) :
    s.expireClaim ch cls = ([ch].foldl (fun s c => s.modChan c (fun x => x.dropClaim cls)) s).retargetAll [ch] := by
  simp [State.expireClaim, hclaim, hdue, hcls, timerDue, State.retargetAll]

/-- Settles O15: what a removal with its re-targets does, for the list of the one channel. -/
theorem claimExpiryEmptiesTheSlot : Obligations.ClaimExpiryEmptiesTheSlot := by
  intro s ch cls claim hclaim hdue hcls
  obtain ⟨honly, hreports, hline, htargets, hdropped, hothers⟩ :=
    State.claims_spec (fun x => x.dropClaim cls) (fun c => c.dropClaim_eq cls) [ch] (List.nodup_singleton ch) s
  rw [← State.expireClaim_of_due hclaim hdue hcls] at honly hreports hline htargets hdropped hothers
  obtain ⟨hevaluated, hslots, hairing⟩ := hdropped ch (List.mem_singleton_self ch)
  refine ⟨s.expireClaim ch cls, rfl, honly, fun d hd => hothers d (by simpa using hd), hreports, hline, ?_, hslots, hairing,
    hevaluated⟩
  simpa using htargets

end Sys2Proof.Machine
end

section
/-! SUPPORT. Levels in pulses (R37) and positions in per mille (R44): each rounds half up, and what that makes of the way back. -/

namespace Sys2Proof.Machine

/-! ### A level in pulses (R37) -/

/-- Rounding half up moves the exact quotient by at most half a pulse, counted here in thousandths of a pulse. -/
theorem toPulses_rounds (d T : Nat) :
    1000 * toPulses d T ≤ d * T + 500 ∧ d * T + 500 < 1000 * toPulses d T + 1000 :=
  ⟨Nat.mul_div_le _ _, Nat.lt_mul_div_succ _ (by decide)⟩

theorem toPulses_le_travel {d : Nat} (hd : d ≤ 1000) (T : Nat) : toPulses d T ≤ T := by
  have hle := (toPulses_rounds d T).1
  have hdT := Nat.mul_le_mul_right T hd
  omega

@[simp] theorem toPulses_thousand (T : Nat) : toPulses 1000 T = T := by
  have hrounds := toPulses_rounds 1000 T
  omega

@[simp] theorem toPulses_zero (T : Nat) : toPulses 0 T = 0 := by simp [toPulses]

theorem asNumber_of_referenced {c : Channel} (h : c.motion.referenced = true) (d : Nat) :
    asNumber c d = toPulses d c.profile.travel := if_pos h

theorem asNumber_of_unreferenced {c : Channel} (h : c.motion.referenced = false) (d : Nat) : asNumber c d = d := by
  simp [asNumber, h]

/-- Settles O23, by the rounding of the one division. -/
theorem levelInPulses : Obligations.LevelInPulses := by
  refine ⟨fun d T hd _ _ => ⟨rfl, toPulses_le_travel hd T, toPulses_thousand T, toPulses_zero T, ?low, ?high⟩,
    fun c d => ⟨fun h => asNumber_of_referenced h d, fun h => asNumber_of_unreferenced h d⟩⟩
  all_goals
    have hrounds := toPulses_rounds d T
    omega

/-! ### A position in per mille (R44) -/

theorem clampPosition_mono {p q : Int} (h : p ≤ q) (T : Nat) : clampPosition p T ≤ clampPosition q T :=
  Int.toNat_le_toNat (min_le_min_right _ h)

theorem clampPosition_natCast {p T : Nat} (h : p ≤ T) : clampPosition p T = p := by
  unfold clampPosition
  omega

theorem toPermille_of_nonpos {p : Int} (hp : p ≤ 0) (T : Nat) : toPermille p T = 0 := if_pos hp

theorem toPermille_of_travel_le {p : Int} {T : Nat} (hp : 0 < p) (hT : T ≤ p) : toPermille p T = 1000 := by
  simp [toPermille, hT, Int.not_le.2 hp]

/-- On a travel above 0 the two bounds are the quotient's own values there, so the three cases are one: the clamped position in
thousandths of the travel, rounded half up. -/
theorem toPermille_eq_clamp (p : Int) {T : Nat} (hT : 0 < T) :
    toPermille p T = (clampPosition p T * 1000 + T / 2) / T := by
  have half : T / 2 < T := Nat.div_lt_self hT (by decide)
  unfold toPermille
  split
  next hp =>
    have hclamp : clampPosition p T = 0 := by unfold clampPosition; omega
    rw [hclamp, Nat.zero_mul, Nat.zero_add, Nat.div_eq_of_lt half]
  next hp =>
    split
    next hle =>
      have hclamp : clampPosition p T = T := by unfold clampPosition; omega
      rw [hclamp, Nat.mul_add_div hT, Nat.div_eq_of_lt half]
    next hlt =>
      have hclamp : clampPosition p T = p.toNat := by unfold clampPosition; omega
      rw [hclamp]

theorem toPermille_natCast {p T : Nat} (hT : 0 < T) (hp : p ≤ T) : toPermille p T = (p * 1000 + T / 2) / T := by
  rw [toPermille_eq_clamp p hT, clampPosition_natCast hp]

theorem toPermille_mono {p q : Int} (h : p ≤ q) {T : Nat} (hT : 0 < T) : toPermille p T ≤ toPermille q T := by
  rw [toPermille_eq_clamp p hT, toPermille_eq_clamp q hT]
  have hclamp := clampPosition_mono h T
  exact Nat.div_le_div_right (by omega)

theorem toPermille_le (p : Int) {T : Nat} (hT : 0 < T) : toPermille p T ≤ 1000 :=
  calc toPermille p T
    _ ≤ toPermille (max p T) T := toPermille_mono (le_max_left ..) hT
    _ = 1000 := toPermille_of_travel_le (lt_max_of_lt_right (Int.natCast_pos.2 hT)) (le_max_right ..)

/-- From a travel of 1000 pulses on, the half pulse lost by rounding is at most half a per mille, and the level comes back. At 1000
itself the two halves are equal, but there a level is its own number of pulses and nothing is rounded. -/
theorem toPermille_toPulses {d T : Nat} (hd : d ≤ 1000) (hT : 1000 ≤ T) : toPermille (toPulses d T) T = d := by
  rw [toPermille_natCast (by omega) (toPulses_le_travel hd T)]
  obtain ⟨hlow, hhigh⟩ := toPulses_rounds d T
  rcases hT.eq_or_lt with rfl | hT
  · omega
  · refine Nat.div_eq_of_lt_le (by omega) ?_
    rw [Nat.succ_mul]
    omega

theorem Channel.reported_of_referenced {c : Channel} (h : c.motion.referenced = true) :
    c.reported = some (toPermille c.travel.position c.profile.travel) := if_pos h

theorem Channel.reported_of_unreferenced {c : Channel} (h : c.motion.referenced = false) : c.reported = none := by
  simp [Channel.reported, h]

/-- Settles O24: order and bound by the one quotient of the clamped position, the way back by the rounding of the level. -/
theorem positionInPermille : Obligations.PositionInPermille := by
  refine ⟨fun p T hp => toPermille_of_nonpos hp T, fun p T => toPermille_of_travel_le, fun p T hp hlt => ?between,
    fun p q T hT h => toPermille_mono h hT, fun d T => toPermille_toPulses, by decide,
    fun c => ⟨Channel.reported_of_referenced, Channel.reported_of_unreferenced⟩⟩
  case between =>
    have hT : 0 < T := hp.trans hlt
    exact ⟨toPermille_natCast hT hlt.le, toPermille_le p hT⟩

end Sys2Proof.Machine
end

section
/-! SUPPORT. When a movement is needed (R50): one equation for each form of the target in hand. -/

namespace Sys2Proof.Machine

theorem beyondDeadband_iff (c : Channel) (t : Nat) :
    beyondDeadband c t = true ↔
      (c.profile.deadband : Int) < t - c.travel.position ∨ (c.profile.deadband : Int) < c.travel.position - t := by
  simp only [beyondDeadband, gt_iff_lt, decide_eq_true_eq]
  omega

section
variable {c : Channel} {t d : Nat}

theorem moveNeeded_of_no_target (h : c.motion.hand.target = .none) : moveNeeded c = none := by
  simp [moveNeeded, h]

theorem moveNeeded_pulses_of_referenced (h : c.motion.hand.target = .pulses t) (href : c.motion.referenced = true) :
    moveNeeded c = if beyondDeadband c t then some (.positioned, dirToward c t) else none := by
  simp [moveNeeded, h, href]

theorem moveNeeded_pulses_of_unreferenced (h : c.motion.hand.target = .pulses t) (href : c.motion.referenced = false) :
    moveNeeded c = none := by
  simp [moveNeeded, h, href]

theorem moveNeeded_level_of_referenced (h : c.motion.hand.target = .level d) (href : c.motion.referenced = true) :
    moveNeeded c = none := by
  simp [moveNeeded, h, href]

theorem moveNeeded_level_of_unreferenced (h : c.motion.hand.target = .level d) (href : c.motion.referenced = false) :
    moveNeeded c =
      if c.motion.hand.winRank = some 1 ∧ 0 < d then if c.motion.timedEst < d then some (.timed, .opening) else none
      else some (.reference, .closing) := by
  simp [moveNeeded, h, href]

/-- Beyond the deadband the sign of the distance is the direction: the deadband is not negative. -/
theorem moveNeeded_opening (h : c.motion.hand.target = .pulses t) (href : c.motion.referenced = true)
    (hfar : (c.profile.deadband : Int) < t - c.travel.position) : moveNeeded c = some (.positioned, .opening) := by
  have hdir : c.travel.position < t := by omega
  rw [moveNeeded_pulses_of_referenced h href, if_pos ((beyondDeadband_iff c t).2 (.inl hfar)), dirToward, if_pos hdir]

theorem moveNeeded_closing (h : c.motion.hand.target = .pulses t) (href : c.motion.referenced = true)
    (hfar : (c.profile.deadband : Int) < c.travel.position - t) : moveNeeded c = some (.positioned, .closing) := by
  have hdir : ¬ c.travel.position < t := by omega
  rw [moveNeeded_pulses_of_referenced h href, if_pos ((beyondDeadband_iff c t).2 (.inr hfar)), dirToward, if_neg hdir]

theorem moveNeeded_within_deadband (h : c.motion.hand.target = .pulses t) (href : c.motion.referenced = true)
    (hlow : (t : Int) - c.travel.position ≤ c.profile.deadband) (hhigh : c.travel.position - t ≤ c.profile.deadband) :
    moveNeeded c = none := by
  have hnear : ¬ beyondDeadband c t = true := by rw [beyondDeadband_iff]; omega
  rw [moveNeeded_pulses_of_referenced h href, if_neg hnear]

end

/-- Settles O26, by the form of the target in hand and the reference. -/
theorem movementNeeded : Obligations.MovementNeeded := by
  refine fun c => ⟨moveNeeded_of_no_target, fun t h href => ⟨moveNeeded_opening h href, moveNeeded_closing h href,
    fun hnear => moveNeeded_within_deadband h href hnear.1 hnear.2⟩, fun t => moveNeeded_pulses_of_unreferenced,
    fun d => moveNeeded_level_of_referenced, fun d h href => ?level⟩
  case level =>
    rw [moveNeeded_level_of_unreferenced h href]
    refine ⟨fun hrank hd hest => ?timed, fun hrank hd hest => ?reached, fun hother => ?reference⟩
    case timed => rw [if_pos ⟨hrank, hd⟩, if_pos hest]
    case reached => rw [if_pos ⟨hrank, hd⟩, if_neg (Nat.not_lt.2 hest)]
    case reference =>
      exact if_neg fun ⟨hrank, hd⟩ => hother.elim (fun h => h hrank) hd.ne'

end Sys2Proof.Machine
end

section
/-! SUPPORT. A channel at rest tests its target in hand (R50, R51): what the test, alone and after an evaluation, does and leaves. -/

namespace Sys2Proof.Machine

/-! ### One channel's record -/

theorem State.modChan_modChan (s : State) (ch : Chan) (f g : Channel → Channel) :
    (s.modChan ch f).modChan ch g = s.modChan ch (fun c => g (f c)) := by
  cases ch <;> rfl

theorem State.modChan_of_fixed {s : State} {ch : Chan} {f : Channel → Channel} (h : f (s.chan ch) = s.chan ch) :
    s.modChan ch f = s := by
  rw [State.modChan, show f (s.chans.get ch) = s.chans.get ch from h]
  cases ch <;> rfl

/-- The channel record in another motion state. -/
def Channel.inState (c : Channel) (m : MotionState) : Channel := { c with motion := { c.motion with state := m } }

/-- The state is not among what a movement is chosen by. -/
@[simp] theorem moveNeeded_inState (c : Channel) (m : MotionState) : moveNeeded (c.inState m) = moveNeeded c := rfl

theorem Channel.inState_self {c : Channel} {m : MotionState} (h : c.motion.state = m) : c.inState m = c := by
  rw [← h]; rfl

/-! ### The new queue rank of a share holder (R49) -/

/-- Only the holders' ranks can change, with the counter of free values when the rank is one (log 7). -/
theorem State.passRank_eq (s : State) (ch : Chan) (r : Option Nat) :
    s.passRank ch r = { s with
      admission := { s.admission with holders := (s.passRank ch r).admission.holders }
      freeCount := (s.passRank ch r).freeCount } := by
  unfold State.passRank
  split
  · split <;> rfl
  · rfl

@[simp] theorem State.passRank_chan (s : State) (ch d : Chan) (r : Option Nat) : (s.passRank ch r).chan d = s.chan d :=
  congrArg (·.chan d) (s.passRank_eq ch r)

@[simp] theorem State.passRank_clock (s : State) (ch : Chan) (r : Option Nat) : (s.passRank ch r).clock = s.clock :=
  congrArg (·.clock) (s.passRank_eq ch r)

theorem State.passRank_admission (s : State) (ch : Chan) (r : Option Nat) :
    (s.passRank ch r).admission = { s.admission with holders := (s.passRank ch r).admission.holders } :=
  congrArg (·.admission) (s.passRank_eq ch r)

theorem State.passRank_of_not_holder {s : State} {ch : Chan} (h : ∀ e ∈ s.admission.holders, e.chan ≠ ch) (r : Option Nat) :
    s.passRank ch r = s := by
  have hnot : s.isHolder ch = false := by simpa [State.isHolder] using h
  simp [State.passRank, hnot]

/-! ### The test of the target in hand -/

/-- From `s` to `u` channel `ch` has tested its target in hand, perhaps after an evaluation (R49 to R51): it stands IDLE or
WAITING with that target, and beside it only the start queue and the ranks of the share holders can have changed. -/
structure State.TestsAtRest (ch : Chan) (s u : State) : Prop where
  tests : TestsTarget ch s.admission.queue u
  chan : u.chan ch = { s.chan ch with
    selected := (u.chan ch).selected
    motion := { (s.chan ch).motion with
      state := (u.chan ch).motion.state, hand := (u.chan ch).motion.hand, retry := (u.chan ch).motion.retry } }
  retry : (u.chan ch).motion.retry ≤ (s.chan ch).motion.retry
  admission : u.admission = { s.admission with queue := u.admission.queue, holders := u.admission.holders }

theorem TestsTarget.not_braking {ch : Chan} {q : List QueueEntry} {u : State} (h : TestsTarget ch q u) :
    (u.chan ch).motion.state ≠ .braking := by
  unfold TestsTarget at h
  split at h
  · simp [h.1]
  · simp [h.1]

theorem TestsTarget.passRank {ch : Chan} {q : List QueueEntry} {u : State} (h : TestsTarget ch q u) (r : Option Nat) :
    TestsTarget ch q (u.passRank ch r) := by
  unfold TestsTarget
  rw [State.passRank_chan, State.passRank_clock, State.passRank_admission]
  exact h

theorem State.settleAtRest_of_needed {s : State} {ch : Chan} {move : MoveKind × Dir}
    (h : moveNeeded (s.chan ch) = some move) :
    s.settleAtRest ch = (s.modChan ch (·.inState .waiting)).joinQueue ch := by
  unfold State.settleAtRest
  rw [h]
  rfl

theorem State.settleAtRest_of_not_needed {s : State} {ch : Chan} (h : moveNeeded (s.chan ch) = none) :
    s.settleAtRest ch = s.modChan ch (·.inState .idle) := by
  unfold State.settleAtRest
  rw [h]
  rfl

/-- The test sets the state of the channel, and of the admission unit the start queue alone. -/
theorem State.settleAtRest_keeps (s : State) (ch : Chan) :
    (s.settleAtRest ch).chan ch = (s.chan ch).inState ((s.settleAtRest ch).chan ch).motion.state
      ∧ (s.settleAtRest ch).admission = { s.admission with queue := (s.settleAtRest ch).admission.queue }
      ∧ (s.settleAtRest ch).reports = s.reports := by
  cases h : moveNeeded (s.chan ch) with
  | none =>
    rw [State.settleAtRest_of_not_needed h, State.chan_modChan_self]
    exact ⟨rfl, rfl, rfl⟩
  | some move =>
    rw [State.settleAtRest_of_needed h, State.chan_joinQueue, State.chan_modChan_self]
    exact ⟨rfl, rfl, rfl⟩

theorem State.settleAtRest_tests (s : State) (ch : Chan) : TestsTarget ch s.admission.queue (s.settleAtRest ch) := by
  unfold TestsTarget
  cases h : moveNeeded (s.chan ch) with
  | none =>
    rw [State.settleAtRest_of_not_needed h, State.chan_modChan_self, moveNeeded_inState, h]
    exact ⟨rfl, rfl⟩
  | some move =>
    rw [State.settleAtRest_of_needed h, State.chan_joinQueue, State.chan_modChan_self, moveNeeded_inState, h]
    refine ⟨rfl, ?_⟩
    rw [State.joinQueue, State.chan_modChan_self]
    rfl

theorem State.TestsAtRest.settleAtRest (ch : Chan) (s : State) : TestsAtRest ch s (s.settleAtRest ch) := by
  obtain ⟨hchan, hadmission, -⟩ := s.settleAtRest_keeps ch
  refine ⟨s.settleAtRest_tests ch, ?_, ?_, ?_⟩
  · rw [hchan]; rfl
  · rw [hchan]; exact le_rfl
  · rw [hadmission]

/-- A report before the test is no part of it. -/
theorem State.TestsAtRest.of_postChan {ch d : Chan} {s u : State} {k : ReportKind} {p : Option Nat} {b : Byte}
    (h : TestsAtRest ch (s.postChan d k p b) u) : TestsAtRest ch s u := by
  obtain ⟨htests, hchan, hretry, hadmission⟩ := h
  rw [State.chan_postChan] at hchan hretry
  rw [State.postChan_admission] at htests hadmission
  exact ⟨htests, hchan, hretry, hadmission⟩

/-! ### The evaluation of a channel at rest -/

/-- The channel record that takes its evaluation under the weather `w` in hand (R49). -/
def Channel.takeInHand (w : Weather) (c : Channel) : Channel :=
  let sel := evaluate w c
  { c with
    selected := sel
    motion := { c.motion with hand := sel, retry := if c.motion.hand.target != sel.target then 0 else c.motion.retry } }

theorem Channel.retry_takeInHand_le (w : Weather) (c : Channel) : (c.takeInHand w).motion.retry ≤ c.motion.retry := by
  unfold Channel.takeInHand
  dsimp only
  split
  · exact Nat.zero_le _
  · exact le_rfl

/-- An IDLE channel that needs no movement is IDLE already, so acting on the target is the test itself. -/
theorem State.actOnTarget_of_idle {s : State} {ch : Chan} (h : (s.chan ch).motion.state = .idle) (changed : Bool) :
    s.actOnTarget ch changed = s.settleAtRest ch := by
  unfold State.actOnTarget
  rw [h]
  dsimp only
  cases hmove : moveNeeded (s.chan ch) with
  | none =>
    rw [State.settleAtRest_of_not_needed hmove]
    exact (State.modChan_of_fixed (f := (·.inState .idle)) (Channel.inState_self h)).symm
  | some move => rw [State.settleAtRest_of_needed hmove]; rfl

theorem State.retarget_of_idle {s : State} {ch : Chan} (h : (s.chan ch).motion.state = .idle) :
    s.retarget ch =
      ((s.modChan ch (·.takeInHand s.weather)).settleAtRest ch).passRank ch (evaluate s.weather (s.chan ch)).queueRank := by
  have hidle : ((s.modChan ch (·.takeInHand s.weather)).chan ch).motion.state = .idle := by
    rw [State.chan_modChan_self]; exact h
  unfold State.retarget State.takeTarget
  simp only [State.chan_modChan_self, h, reduceCtorEq, if_false, State.modChan_modChan]
  rw [← State.actOnTarget_of_idle hidle ((s.chan ch).motion.hand.target != (evaluate s.weather (s.chan ch)).target)]
  rfl

theorem State.TestsAtRest.retarget {ch : Chan} {s : State} (h : (s.chan ch).motion.state = .idle) :
    TestsAtRest ch s (s.retarget ch) := by
  obtain ⟨hchan, hadmission, -⟩ := (s.modChan ch (·.takeInHand s.weather)).settleAtRest_keeps ch
  have htests := (s.modChan ch (·.takeInHand s.weather)).settleAtRest_tests ch
  rw [State.chan_modChan_self] at hchan
  rw [State.modChan_admission] at hadmission htests
  rw [State.retarget_of_idle h]
  refine ⟨htests.passRank _, ?_, ?_, ?_⟩
  · rw [State.passRank_chan, hchan]; rfl
  · rw [State.passRank_chan, hchan]; exact Channel.retry_takeInHand_le ..
  · rw [State.passRank_admission, hadmission]

/-- A channel without a share leaves the share holders alone. -/
theorem State.retarget_holders_of_idle {s : State} {ch : Chan} (h : (s.chan ch).motion.state = .idle)
    (hnot : ∀ e ∈ s.admission.holders, e.chan ≠ ch) : (s.retarget ch).admission.holders = s.admission.holders := by
  have hholders : ((s.modChan ch (·.takeInHand s.weather)).settleAtRest ch).admission.holders = s.admission.holders := by
    rw [(State.settleAtRest_keeps _ ch).2.1]; rfl
  rw [State.retarget_of_idle h, State.passRank_of_not_holder (by rw [hholders]; exact hnot), hholders]

end Sys2Proof.Machine
end

section
/-! SUPPORT. The end of BRAKING(END) (R63): where the channel stands then, what is posted, and the test of the target after it. -/

namespace Sys2Proof.Machine

/-! ### The channel at its end -/

/-- The channel record once BRAKING(END) has ended: at the end reached, referenced and at rest. -/
def Channel.standAtEnd (c : Channel) : Channel :=
  { c with
    motion := { c.motion with
      state := .idle, settleTimer := none, stop := none, moveKind := none, retry := 0, referenced := true }
    travel := { c.travel with position := if c.motion.dir = some .opening then (c.profile.travel : Int) else 0 }
    drive := { c.drive with legs := legsOnOff c.drive.legs } }

theorem Channel.reported_standAtEnd {c : Channel} (h : 0 < c.profile.travel) :
    c.standAtEnd.reported = some (if c.motion.dir = some .opening then 1000 else 0) := by
  rw [Channel.reported_of_referenced rfl]
  simp only [Channel.standAtEnd]
  split
  · rw [toPermille_of_travel_le (Int.natCast_pos.2 h) le_rfl]
  · rw [toPermille_of_nonpos le_rfl]

/-- The station once channel `ch` has reached its end and ARRIVED is posted, before the target in hand is tested. -/
def State.arriveAtEnd (s : State) (ch : Chan) : State :=
  (s.modChan ch Channel.standAtEnd).postChan ch .arrived
    (some (if (s.chan ch).motion.dir = some .opening then 1000 else 0)) 0

theorem State.endAtEnd_eq {s : State} {ch : Chan} (htravel : 0 < (s.chan ch).profile.travel) :
    s.endAtEnd ch =
      if (s.chan ch).motion.moveKind = some .reference then
        ((s.arriveAtEnd ch).postChan ch .referenced (some 0) 0).retarget ch
      else (s.arriveAtEnd ch).settleAtRest ch := by
  have hreported : ((s.modChan ch Channel.standAtEnd).chan ch).reported
      = some (if (s.chan ch).motion.dir = some .opening then 1000 else 0) := by
    rw [State.chan_modChan_self, Channel.reported_standAtEnd htravel]
  unfold State.arriveAtEnd
  rw [← hreported]
  simp only [State.endAtEnd, beq_iff_eq]
  rfl

/-- BRAKE_SETTLE_EXPIRY stops its timer first, which the end of BRAKING stops too. -/
theorem State.arriveAtEnd_of_stopped (s : State) (ch : Chan) :
    (s.modChan ch (fun c => { c with motion := { c.motion with settleTimer := none } })).arriveAtEnd ch
      = s.arriveAtEnd ch := by
  unfold State.arriveAtEnd
  rw [State.modChan_modChan, State.chan_modChan_self]
  rfl

@[simp] theorem State.arriveAtEnd_chan (s : State) (ch : Chan) : (s.arriveAtEnd ch).chan ch = (s.chan ch).standAtEnd := by
  unfold State.arriveAtEnd
  rw [State.chan_postChan, State.chan_modChan_self]

@[simp] theorem State.arriveAtEnd_admission (s : State) (ch : Chan) : (s.arriveAtEnd ch).admission = s.admission := by
  unfold State.arriveAtEnd
  rw [State.postChan_admission, State.modChan_admission]

theorem State.arriveAtEnd_settings (s : State) (ch : Chan) : (s.arriveAtEnd ch).settings = s.settings := by
  unfold State.arriveAtEnd
  rw [State.postChan_settings, State.modChan_settings]

theorem State.arriveAtEnd_reports (s : State) (ch : Chan) :
    (s.arriveAtEnd ch).reports = (s.post {
      kind := .arrived, chan := some ch, rank := (s.chan ch).motion.hand.winRank,
      position := some (if (s.chan ch).motion.dir = some .opening then 1000 else 0), detail := { b5 := 0 } }).reports := by
  unfold State.arriveAtEnd State.postChan
  rw [State.chan_modChan_self]
  exact State.post_reports_congr _ rfl rfl

section
variable {s : State} {ch : Chan} (hstate : (s.chan ch).motion.state = .braking)
  (htimer : (s.chan ch).motion.settleTimer = some 0) (hreason : (s.chan ch).motion.reason = some .endReached)
  (htravel : 0 < (s.chan ch).profile.travel)
include hstate htimer hreason htravel

theorem State.settleExpired_of_endReached :
    s.settleExpired ch =
      if (s.chan ch).motion.moveKind = some .reference then
        ((s.arriveAtEnd ch).postChan ch .referenced (some 0) 0).retarget ch
      else (s.arriveAtEnd ch).settleAtRest ch := by
  unfold State.settleExpired State.endBraking
  simp only [htimer, timerDue, State.chan_modChan_self, hstate, hreason, beq_self_eq_true, if_true]
  rw [State.endAtEnd_eq (by rw [State.chan_modChan_self]; exact htravel), State.arriveAtEnd_of_stopped,
    State.chan_modChan_self]

/-- With an evaluation before it or without, the target in hand is tested by a channel that stands at its end. -/
theorem State.settleExpired_testsAtRest : TestsAtRest ch (s.arriveAtEnd ch) (s.settleExpired ch) := by
  rw [State.settleExpired_of_endReached hstate htimer hreason htravel]
  split
  · exact (TestsAtRest.retarget (by rw [State.chan_postChan, State.arriveAtEnd_chan]; rfl)).of_postChan
  · exact .settleAtRest ..

theorem State.settleExpired_holders
    (h : (s.chan ch).motion.moveKind ≠ some .reference ∨ ∀ e ∈ s.admission.holders, e.chan ≠ ch) :
    (s.settleExpired ch).admission.holders = s.admission.holders := by
  rw [State.settleExpired_of_endReached hstate htimer hreason htravel]
  split
  next hmove =>
    have hposted : ((s.arriveAtEnd ch).postChan ch .referenced (some 0) 0).admission = s.admission := by
      rw [State.postChan_admission, State.arriveAtEnd_admission]
    rw [State.retarget_holders_of_idle, hposted]
    · rw [State.chan_postChan, State.arriveAtEnd_chan]; rfl
    · rw [hposted]; exact h.resolve_left (not_not_intro hmove)
  next => rw [(State.settleAtRest_keeps _ ch).2.1, State.arriveAtEnd_admission]

end

/-- Settles O34: the channel comes to rest at its end, and the test of the target in hand, after a reference run with an
evaluation before it, changes no more than its state and what it has in hand. -/
theorem brakingReachesTheEnd : Obligations.BrakingReachesTheEnd := by
  rintro s ch c rfl hstate htimer hreason htravel
  obtain ⟨htests, hchan, hretry, hadmission⟩ := State.settleExpired_testsAtRest hstate htimer hreason htravel
  rw [State.arriveAtEnd_chan] at hchan hretry
  rw [State.arriveAtEnd_admission] at htests hadmission
  rw [Nat.le_zero.1 hretry] at hchan
  refine ⟨s.settleExpired ch, rfl, .settleExpired ch s, ?leaves, congrArg (·.motion.referenced) hchan,
    congrArg (·.travel.position) hchan, congrArg (·.motion.eOpen) hchan, congrArg (·.motion.eClose) hchan,
    congrArg (·.motion.retry) hchan, htests, ?chan, hadmission, State.settleExpired_holders hstate htimer hreason htravel,
    fun hmove => ⟨?evaluated, ?referencedPosted⟩, fun hmove => ?unevaluated⟩
  case leaves =>
    refine ⟨htests.not_braking, ?_⟩
    rw [hchan]
    exact ⟨rfl, rfl, rfl, rfl, rfl, rfl, rfl, rfl⟩
  case chan => rw [hchan]; rfl
  case evaluated =>
    rw [State.settleExpired_of_endReached hstate htimer hreason htravel, if_pos hmove]
    exact (State.Retargets.retarget ch _).evaluated
  case referencedPosted =>
    rw [State.settleExpired_of_endReached hstate htimer hreason htravel, if_pos hmove, (State.Retargets.retarget ch _).reports,
      State.postChan, State.arriveAtEnd_chan]
    exact State.post_reports_congr _ (s.arriveAtEnd_reports ch)
      ((s.arriveAtEnd_settings ch).trans (State.post_settings ..).symm)
  case unevaluated =>
    obtain ⟨hkept, -, hreports⟩ := State.settleAtRest_keeps (s.arriveAtEnd ch) ch
    rw [State.arriveAtEnd_chan] at hkept
    rw [State.settleExpired_of_endReached hstate htimer hreason htravel, if_neg hmove]
    exact ⟨congrArg (·.motion.hand) hkept, congrArg (·.selected) hkept, hreports.trans (s.arriveAtEnd_reports ch)⟩

end Sys2Proof.Machine
end

section
/-! SUPPORT. The clock, and with it the period index: of the commands, PWM_PERIOD and power-on reset alone move it (R111, R112).
One lemma per operation, then one for the commands together. -/

namespace Sys2Proof.Machine

/-! ### The motion engine and the admission unit -/

/-- What concerns one channel's motion leaves the clock. -/
theorem ActsOn.clock {ch : Chan} {s u : State} (h : ActsOn ch s u) : u.clock = s.clock := by
  rw [show u = _ from h.1]

/-- Admissions, preemptions and sheds leave the clock. -/
theorem StartsAndSheds.clock {s u : State} (h : StartsAndSheds s u) : u.clock = s.clock := by rw [h.1]

/-- A choice between a change that leaves the clock and none leaves it. -/
theorem State.ite_clock {s u : State} (p : Prop) [Decidable p] (h : u.clock = s.clock) : (if p then u else s).clock = s.clock := by
  split
  · exact h
  · rfl

/-- A fold of changes that each leave the clock leaves it. -/
theorem State.foldl_clock {α : Type} {f : State → α → State} (hf : ∀ (u : State) a, (f u a).clock = u.clock) (l : List α)
    (s : State) : (l.foldl f s).clock = s.clock :=
  List.foldlRecOn l f (motive := fun u => u.clock = s.clock) rfl fun u h a _ => (hf u a).trans h

@[simp] theorem State.finish_clock (b u : State) : (b.finish u).clock = u.clock := (StartsAndSheds.finish b u).clock

@[simp] theorem State.evaluateAdmission_clock (s : State) : s.evaluateAdmission.clock = s.clock :=
  (StartsAndSheds.evaluateAdmission s).clock

@[simp] theorem State.brake_clock (s : State) (ch : Chan) (r : BrakingReason) (h : Option HaltCause) (b : Bool) :
    (s.brake ch r h b).clock = s.clock := (ActsOn.brake ch s r h b).clock

@[simp] theorem State.settleAtRest_clock (s : State) (ch : Chan) : (s.settleAtRest ch).clock = s.clock :=
  (ActsOn.settleAtRest ch s).clock

@[simp] theorem State.retarget_clock (s : State) (ch : Chan) : (s.retarget ch).clock = s.clock := (ActsOn.retarget ch s).clock

@[simp] theorem State.retargetAll_clock (s : State) (chs : List Chan) : (s.retargetAll chs).clock = s.clock :=
  State.foldl_clock State.retarget_clock chs s

@[simp] theorem State.rebudget_clock (s : State) (cause : HaltCause) : (s.rebudget cause).clock = s.clock := by
  unfold State.rebudget
  dsimp only
  split
  · exact (StartsAndSheds.shedLoop ..).clock
  · rfl

/-! ### Claims and airing (Chapters 1 and 7) -/

@[simp] theorem State.placeOn_clock (s : State) (members : List Chan) (put : Channel → Channel) :
    (s.placeOn members put).state.clock = s.clock :=
  (State.retargetAll_clock ..).trans (State.foldl_clock (fun u ch => u.modChan_clock ch _) ..)

@[simp] theorem State.placeDemand_clock (s : State) (tag : Word16) (p : List Byte) :
    (s.placeDemand tag p).state.clock = s.clock := by
  unfold State.placeDemand
  dsimp only
  split
  · rfl
  · split
    · rfl
    · split
      · exact State.placeOn_clock ..
      · rfl

@[simp] theorem State.removeWhere_clock (s : State) (cls : ClaimClass) (hit : Claim → Bool) :
    (s.removeWhere cls hit).1.clock = s.clock :=
  (State.retargetAll_clock ..).trans (State.foldl_clock (fun u ch => u.modChan_clock ch _) ..)

@[simp] theorem State.releaseClaims_clock (s : State) (p : List Byte) : (s.releaseClaims p).1.clock = s.clock := by
  unfold State.releaseClaims
  split
  · rfl
  · rfl
  · exact State.removeWhere_clock ..

@[simp] theorem State.placeLocal_clock (s : State) (n : InputNo) (cls : ClaimClass) (asked : Asked) (expiry : Option Nat) :
    (s.placeLocal n cls asked expiry).1.clock = s.clock := by
  unfold State.placeLocal
  split
  · rfl
  · split
    · exact State.placeOn_clock ..
    · rfl

@[simp] theorem State.expireClaim_clock (s : State) (ch : Chan) (cls : ClaimClass) :
    (s.expireClaim ch cls).clock = s.clock := by
  unfold State.expireClaim
  split
  · rfl
  · split <;> simp

@[simp] theorem State.endDwell_clock (s : State) (ch : Chan) : (s.endDwell ch).clock = s.clock := by
  have turned (b : AiringRecord) : ((s.modChan ch (fun c => c.rewriteAiring b)).retarget ch).clock = s.clock := by simp
  unfold State.endDwell
  split
  · rfl
  · split
    · rfl
    · split
      · exact turned _
      · exact turned _
      · split
        · exact turned _
        · simp [State.postAiringDone]

/-! ### Weather and inputs (Chapters 2 and 8) -/

/-- An event of the weather unit leaves the clock as its own change does. -/
theorem State.weatherEvent_clock {s : State} {change : State → State} (h : (change s).clock = s.clock) :
    (s.weatherEvent change).clock = s.clock := by
  unfold State.weatherEvent
  dsimp only
  split
  · simpa using h
  · exact h

@[simp] theorem State.releaseExpires_clock (s : State) : s.releaseExpires.clock = s.clock :=
  State.ite_clock _ (State.weatherEvent_clock rfl)

@[simp] theorem State.settleExpires_clock (s : State) : s.settleExpires.clock = s.clock :=
  State.ite_clock _ (State.weatherEvent_clock rfl)

@[simp] theorem State.rainExpires_clock (s : State) : s.rainExpires.clock = s.clock :=
  State.ite_clock _ (State.weatherEvent_clock rfl)

@[simp] theorem State.goesStale_clock (s : State) : s.goesStale.clock = s.clock :=
  State.ite_clock _ (State.weatherEvent_clock rfl)

@[simp] theorem State.activate_clock (s : State) (n : InputNo) : (s.activate n).1.clock = s.clock := by
  have outcome (r : State × Option Nat) : (outcomeOf r).1 = r.1 := by unfold outcomeOf; split <;> rfl
  unfold State.activate
  dsimp only
  split <;> simp [outcome]

@[simp] theorem State.deactivate_clock (s : State) (n : InputNo) : (s.deactivate n).clock = s.clock :=
  State.ite_clock _ (State.removeWhere_clock ..)

@[simp] theorem State.setActive_clock (s : State) (n : InputNo) (b : Bool) : (s.setActive n b).clock = s.clock :=
  State.weatherEvent_clock rfl

@[simp] theorem State.debounce_clock (s : State) (n : InputNo) : (s.debounce n).clock = s.clock := by
  unfold State.debounce
  dsimp only
  split
  · split
    · rfl
    · split <;> simp [State.postInput]
  · rfl

@[simp] theorem State.writeInput_clock (s : State) (n : InputNo) (e : InputEntry) : (s.writeInput n e).clock = s.clock := by
  unfold State.writeInput
  dsimp only
  split
  · rfl
  · rw [State.weatherEvent_clock rfl, State.ite_clock _ (s.deactivate_clock n)]

/-! ### The monitors (Chapter 4) -/

@[simp] theorem State.changeSupply_clock (s : State) (state : SupplyState) : (s.changeSupply state).clock = s.clock := by
  simp [State.changeSupply]

@[simp] theorem State.startHoldOff_clock (s : State) : s.startHoldOff.clock = s.clock := by
  unfold State.startHoldOff; split
  · exact State.changeSupply_clock ..
  · rfl

@[simp] theorem State.firstSupply_clock (s : State) (v1 v2 v3 v4 : Nat) : (s.firstSupply v1 v2 v3 v4).clock = s.clock := by
  unfold State.firstSupply
  dsimp only
  split
  · rfl
  · rw [State.rebudget_clock]
    split <;> simp

@[simp] theorem State.measureInCut_clock (s : State) : s.measureInCut.clock = s.clock := by
  unfold State.measureInCut; split
  · split <;> simp
  · rfl

@[simp] theorem State.measureSupply_clock (s : State) (v : Nat) : (s.measureSupply v).clock = s.clock := by
  unfold State.measureSupply
  dsimp only
  split
  · split
    · simp
    · split <;> simp
  · rfl

@[simp] theorem State.holdOffExpires_clock (s : State) : s.holdOffExpires.clock = s.clock := by
  unfold State.holdOffExpires; split
  · split <;> simp
  · rfl

@[simp] theorem State.clearSupply_clock (s : State) : s.clearSupply.1.clock = s.clock := by
  unfold State.clearSupply; split
  · split <;> simp
  · rfl

@[simp] theorem State.measureThermal_clock (s : State) (celsius : Int) : (s.measureThermal celsius).clock = s.clock := by
  unfold State.measureThermal
  dsimp only
  generalize (if s.thermal.formed = true then _ else _) = state
  split <;> simp

/-! ### The line interface (Chapter 9) -/

@[simp] theorem State.firstByte_clock (s : State) (p : Port) : (s.firstByte p).clock = s.clock := by
  unfold State.firstByte
  split <;> split <;> rfl

@[simp] theorem State.discardFrame_clock (s : State) (p : Port) : (s.discardFrame p).clock = s.clock := by
  cases p <;> rfl

@[simp] theorem State.endBadFrame_clock (s : State) (p : Port) (bytes : List Byte) (byteError : Bool) :
    (s.endBadFrame p bytes byteError).clock = s.clock := by
  unfold State.endBadFrame
  dsimp only
  split
  · split <;> simp
  · rfl

@[simp] theorem State.acceptUpstream_clock (s : State) (f : Frame) : (s.acceptUpstream f).clock = s.clock := by
  unfold State.acceptUpstream
  dsimp only
  split
  · split <;> simp
  · rfl

@[simp] theorem State.pushEcho_clock (s : State) (f : Frame) : (s.pushEcho f).clock = s.clock := by
  unfold State.pushEcho; split <;> rfl

@[simp] theorem State.dispose_clock (s : State) (fate : Fate) : (s.dispose fate).clock = s.clock := by
  cases fate with
  | gone => rfl
  | forward f acted => rw [State.dispose_forward]

@[simp] theorem State.restoreLine_clock (s : State) : s.restoreLine.clock = s.clock := by
  simp [State.restoreLine, State.lineOk, State.claimsLineOk]

@[simp] theorem State.watchdogExpires_clock (s : State) : s.watchdogExpires.clock = s.clock := by
  unfold State.watchdogExpires
  dsimp only
  split
  · split
    · rfl
    · simp [State.lineLost, State.claimsLineLost]
  · rfl

@[simp] theorem State.uPortDown_clock (s : State) : s.uPortDown.clock = s.clock := State.ite_clock _ rfl

@[simp] theorem State.dPortDown_clock (s : State) : s.dPortDown.clock = s.clock := by
  unfold State.dPortDown
  exact State.ite_clock _ (State.foldl_clock (fun u (d : DownFrame) => u.pushEcho_clock d.frame) ..)

@[simp] theorem State.chooseFrame_clock (s : State) : s.chooseFrame.clock = s.clock := by
  have report : s.sendReport.clock = s.clock := rfl
  unfold State.chooseFrame
  split
  · rfl
  · rfl
  · split
    · exact report
    · split
      · rfl
      · split
        · rfl
        · exact report

@[simp] theorem State.frameSent_clock (s : State) : s.frameSent.clock = s.clock := by
  unfold State.frameSent
  split
  · rfl
  · split <;> rfl

/-! ### An accepted frame (R146, R157) -/

/-- An accepted frame leaves the clock as its own act does, in LINE_LOST too. -/
theorem State.accept_clock {act : State → State × Fate} (hact : ∀ u : State, (act u).1.clock = u.clock) (s : State)
    (p : List Byte) : (s.accept p act).clock = s.clock := by
  have heard (u : State) : (u.hear act).clock = u.clock := by simp [State.hear, hact]
  have heardInLost (u : State) : (u.hearInLost act).clock = u.clock := by
    unfold State.hearInLost
    dsimp only
    split <;> simp [heard, State.freeOrder]
  unfold State.accept
  dsimp only
  split
  · split
    · simp
    · split <;> simp [heard, heardInLost]
  · rfl

theorem actDemand_clock (f : Frame) (s : State) : (actDemand f s).1.clock = s.clock := by
  unfold actDemand
  dsimp only
  split <;> simp

theorem actRelease_clock (f : Frame) (s : State) : (actRelease f s).1.clock = s.clock := by
  unfold actRelease
  dsimp only
  split <;> simp

theorem actWeather_clock (f : Frame) (s : State) : (actWeather f s).1.clock = s.clock := by
  unfold actWeather
  dsimp only
  split
  · exact State.weatherEvent_clock rfl
  · rfl

theorem actEnumerate_clock (f : Frame) (s : State) : (actEnumerate f s).1.clock = s.clock := by
  unfold actEnumerate
  dsimp only
  split
  · split <;> rfl
  · rfl

/-! ### The management unit (Chapter 10) -/

/-- An addressed request leaves the clock as what it performs does. -/
theorem State.request_clock {perform : State → Performed} (hperform : ∀ u : State, (perform u).state.clock = u.clock)
    (s : State) (kind station : Byte) (tag : Word16) (p : List Byte) :
    (s.request kind station tag p perform).clock = s.clock := by
  refine State.accept_clock (fun u => ?_) s p
  unfold actAddressed
  dsimp only
  split
  · rfl
  · split
    · rfl
    · exact hperform u

theorem performGroupWrite_clock (p : List Byte) (s : State) : (performGroupWrite p s).state.clock = s.clock := by
  unfold performGroupWrite
  dsimp only
  split
  · rfl
  · split
    · rfl
    · split
      · rfl
      · split
        · rfl
        · split <;> rfl

theorem performProfileWrite_clock (p : List Byte) (s : State) : (performProfileWrite p s).state.clock = s.clock := by
  unfold performProfileWrite
  split
  · rfl
  · split
    · rfl
    · split
      · rfl
      · split
        · rfl
        · split
          · simp
          · rfl

theorem performInputWrite_clock (p : List Byte) (s : State) : (performInputWrite p s).state.clock = s.clock := by
  unfold performInputWrite
  split
  · rfl
  · split
    · rfl
    · split
      · rfl
      · split
        · rfl
        · split
          · exact State.writeInput_clock ..
          · rfl

theorem State.writeSettings_clock (s : State) (t : Settings) : (s.writeSettings t).clock = s.clock := by
  unfold State.writeSettings
  dsimp only
  split <;> simp

theorem performSettingsWrite_clock (p : List Byte) (s : State) : (performSettingsWrite p s).state.clock = s.clock := by
  unfold performSettingsWrite
  split
  · rfl
  · split
    · rfl
    · split
      · rfl
      · split
        · rfl
        · split
          · exact State.writeSettings_clock ..
          · rfl

theorem performTableRead_clock (p : List Byte) (s : State) : (performTableRead p s).state.clock = s.clock := by
  unfold performTableRead
  split
  · split <;> rfl
  · rfl

theorem performStatusRead_clock (p : List Byte) (s : State) : (performStatusRead p s).state.clock = s.clock := by
  unfold performStatusRead
  dsimp only
  split
  · split
    · rfl
    · split <;> rfl
  · rfl

theorem State.clearChannel_clock (s : State) (ch : Chan) : (s.clearChannel ch).state.clock = s.clock := by
  unfold State.clearChannel
  dsimp only
  split
  · rfl
  · split
    · simp
    · rfl

theorem performClearFault_clock (p : List Byte) (s : State) : (performClearFault p s).state.clock = s.clock := by
  unfold performClearFault
  split
  · split
    · exact State.clearSupply_clock s
    · split
      · rfl
      · exact State.clearChannel_clock ..
  · rfl

@[simp] theorem State.resetMotion_clock (s : State) (ch : Chan) : (s.resetMotion ch).clock = s.clock := by
  unfold State.resetMotion
  dsimp only
  rw [State.modChan_clock]
  split
  · exact State.brake_clock ..
  · exact State.brake_clock ..
  · split <;> simp
  · simp
  · simp
  · rfl

theorem State.resetChannel_clock (s : State) (ch : Chan) (changed : Bool) : (s.resetChannel ch changed).clock = s.clock := by
  have retargeted (u : State) : (if changed then u.retarget ch else u).clock = u.clock :=
    State.ite_clock _ (u.retarget_clock ch)
  unfold State.resetChannel
  dsimp only
  rw [State.modChan_clock]
  split <;> simp [retargeted, State.freeOrder]

theorem performStationReset_clock (p : List Byte) (s : State) : (performStationReset p s).state.clock = s.clock := by
  cases p with
  | nil => exact State.foldl_clock (fun u ch => u.resetChannel_clock ch _) ..
  | cons => rfl

/-! ### Travel sensing (Chapter 5) -/

@[simp] theorem State.pulse_clock (s : State) (ch : Chan) : (s.pulse ch).clock = s.clock := by
  have taken : (s.finish (s.takePulse ch)).clock = s.clock := by rw [State.finish_clock, (ActsOn.takePulse ch s).clock]
  unfold State.pulse
  dsimp only
  split
  · rw [State.finish_clock, State.retarget_clock, taken]
  · exact taken

/-! ### The commands together -/

/-- A command that answers with `u` leaves the clock when `u` has it as before. -/
theorem clock_of_next {s u t : State} (h : (.next u : Host.Outcome State Fault Refusal) = .next t) (k : u.clock = s.clock) :
    t.clock = s.clock := by
  cases h; exact k

/-- Every command but PWM_PERIOD and power-on reset leaves the clock. -/
theorem exec_clock {c : Instr} {s t : State} (h : exec c s = .next t) (hperiod : c ≠ .pwmPeriod) (hreset : c ≠ .powerOnReset) :
    t.clock = s.clock := by
  have motion {ch : Chan} {u : State} (hu : ActsOn ch s u) : (s.finish u).clock = s.clock := by
    rw [State.finish_clock, hu.clock]
  cases c with
  | powerOnReset => exact absurd rfl hreset
  | pwmPeriod => exact absurd rfl hperiod
  | portUp p => cases p <;> exact clock_of_next h rfl
  | portDown p =>
    cases p with
    | uPort => exact clock_of_next h s.uPortDown_clock
    | dPort => exact clock_of_next h s.dPortDown_clock
  | frameFirstByte p => exact clock_of_next h (s.firstByte_clock p)
  | frameDiscarded p bytes byteError => exact clock_of_next h (s.endBadFrame_clock p bytes byteError)
  | upstreamFrameAccepted f => exact clock_of_next h (s.acceptUpstream_clock f)
  | demand => exact clock_of_next h (State.accept_clock (actDemand_clock _) s _)
  | release => exact clock_of_next h (State.accept_clock (actRelease_clock _) s _)
  | weather => exact clock_of_next h (State.accept_clock (actWeather_clock _) s _)
  | enumerate => exact clock_of_next h (State.accept_clock (actEnumerate_clock _) s _)
  | beacon => exact clock_of_next h (State.accept_clock (act := actForward _) (fun _ => rfl) s _)
  | unknownKindFrame f => exact clock_of_next h (State.accept_clock (act := actForward f) (fun _ => rfl) s _)
  | groupWrite _ _ p => exact clock_of_next h (State.request_clock (performGroupWrite_clock p) s ..)
  | profileWrite _ _ p => exact clock_of_next h (State.request_clock (performProfileWrite_clock p) s ..)
  | inputWrite _ _ p => exact clock_of_next h (State.request_clock (performInputWrite_clock p) s ..)
  | settingsWrite _ _ p => exact clock_of_next h (State.request_clock (performSettingsWrite_clock p) s ..)
  | tableRead _ _ p => exact clock_of_next h (State.request_clock (performTableRead_clock p) s ..)
  | statusRead _ _ p => exact clock_of_next h (State.request_clock (performStatusRead_clock p) s ..)
  | clearFault _ _ p => exact clock_of_next h (State.request_clock (performClearFault_clock p) s ..)
  | clearSupply => exact clock_of_next h (State.request_clock (perform := performClearSupply) State.clearSupply_clock s ..)
  | stationReset _ _ p => exact clock_of_next h (State.request_clock (performStationReset_clock p) s ..)
  | dPortTransmitStart => exact clock_of_next h (State.ite_clock _ rfl)
  | dPortFrameSent => exact clock_of_next h (State.ite_clock _ rfl)
  | uPortTransmitChoice => exact clock_of_next h (State.ite_clock _ s.chooseFrame_clock)
  | uPortFrameSent => exact clock_of_next h s.frameSent_clock
  | lineWatchdogExpiry | claimExpiry | airingDwellExpiry | debounceTimerExpiry => exact clock_of_next h (by simp)
  | releaseTimerExpiry | settleTimerExpiry | rainReleaseTimerExpiry | staleTimeExpiry => exact clock_of_next h (by simp)
  | firstSupplyMeasurement | supplyMeasurement | holdOffExpiry | thermalMeasurement => exact clock_of_next h (by simp)
  | staggerTimerExpiry => exact clock_of_next h (State.ite_clock _ (by simp))
  | pulse ch =>
    refine clock_of_next h ?_
    split <;> simp
  | stallTimerExpiry ch => exact clock_of_next h (motion (.stallExpires ch s))
  | filterTimerExpiry ch => exact clock_of_next h (motion (.filterExpires ch s))
  | shortFilterExpiry ch => exact clock_of_next h (motion (.shortExpires ch s))
  | timedDurationReached ch => exact clock_of_next h (motion (.timedArrives ch s))
  | brakeSettleExpiry ch => exact clock_of_next h (motion (.settleExpired ch s))
  | reverseDwellExpiry ch => exact clock_of_next h (motion (.dwellExpired ch s))
  | pulsePeriodTimeout | blankingTimerExpiry | restTimerExpiry | rampStep => exact clock_of_next h (State.ite_clock _ rfl)
  | currentSample | inputSample => exact clock_of_next h rfl

/-! ### The period index (R112) -/

@[simp] theorem State.passTime_k (s : State) (units : Nat) : (s.passTime units).clock.k = s.clock.k := by
  unfold State.passTime
  dsimp only
  split <;> rfl

/-- The rest of the running period passes within it: the index stays. -/
@[simp] theorem State.restOfPeriod_k (s : State) : s.restOfPeriod.clock.k = s.clock.k := by
  unfold State.restOfPeriod
  dsimp only
  split <;> exact s.passTime_k _

/-- 256 periods in a row give the index each value once. -/
theorem periodIndex_takes_each_value_once (k v : Nat) (hv : v < 256) :
    ∃ j, j < 256 ∧ (k + j) % 256 = v ∧ ∀ i, i < 256 → (k + i) % 256 = v → i = j :=
  ⟨(v + 256 - k % 256) % 256, by omega, by omega, fun i hi h => by omega⟩

/-- Settles O6: the running period passes with its index, which the start of the next one advances; reset gives 0, and no other
command touches the clock. -/
theorem periodIndexCounts : Obligations.PeriodIndexCounts := by
  refine ⟨fun s => ⟨_, rfl, ?advances⟩, fun c s t h hperiod hreset => ?kept, fun s => ⟨_, rfl, rfl⟩,
    fun k v _ hv => periodIndex_takes_each_value_once k v hv⟩
  case advances =>
    change (s.restOfPeriod.clock.k + 1) % 256 = (s.clock.k + 1) % 256
    rw [State.restOfPeriod_k]
  case kept => rw [exec_clock h hperiod hreset]

end Sys2Proof.Machine
end

section
/-! SUPPORT. The station number: what an ENUMERATE makes of it and how its frame goes on (R149), and what keeps it (R157,
R170). -/

namespace Sys2Proof.Machine

/-! ### A frame that is forwarded (R146) -/

/-- A frame that is heard, and whose act changes the line interface alone and forwards it, leaves the rest of the station: the
admission unit has nothing new to evaluate. -/
theorem State.accept_of_forward {s : State} {p : List Byte} (h : Hears s p) {act : State → State × Fate} {l : Line}
    {f : Frame} {acted : Bool} (hact : act { s with line := heard s } = ({ s with line := l }, .forward f acted)) :
    s.accept p act = { s with line := passesOn l f acted } := by
  rw [State.accept_of_hears h, hact, State.dispose_forward]
  exact State.finish_eq_self rfl

/-! ### ENUMERATE (R149) -/

theorem byteOf_toNat_of_lt {n : Nat} (h : n < 256) : (byteOf n).toNat = n := by
  rw [byteOf, BitVec.toNat_ofNat, Nat.mod_eq_of_lt h]

/-- A NEXT in range numbers the station and goes on raised by one. -/
theorem actEnumerate_of_number {station : Byte} {tag : Word16} {n : Nat} (hlow : 1 ≤ n) (hhigh : n ≤ 32) (s : State) :
    actEnumerate ⟨0x05, station, tag, [byteOf n]⟩ s =
      ({ s with line := { s.line with station := n } }, .forward ⟨0x05, station, tag, [byteOf (n + 1)]⟩ true) := by
  have hnext : (byteOf n).toNat = n := byteOf_toNat_of_lt (by omega)
  simp [actEnumerate, byteAt, hnext, hlow, hhigh]

/-- A NEXT out of range makes the station unnumbered and goes on as it came. -/
theorem actEnumerate_of_out_of_range {station : Byte} {tag : Word16} {b : Byte} (hb : b.toNat = 0 ∨ 32 < b.toNat) (s : State) :
    actEnumerate ⟨0x05, station, tag, [b]⟩ s =
      ({ s with line := { s.line with station := 0 } }, .forward ⟨0x05, station, tag, [b]⟩ true) := by
  have hrange : ¬ (1 ≤ b.toNat ∧ b.toNat ≤ 32) := by omega
  exact if_neg hrange

/-- A payload of another length is not acted on. -/
theorem actEnumerate_of_length_ne {f : Frame} (hf : f.payload.length ≠ 1) (s : State) :
    actEnumerate f s = (s, .forward f false) := if_neg hf

/-! ### What keeps the station number -/

@[simp] theorem passesOn_station (l : Line) (f : Frame) (acted : Bool) : (passesOn l f acted).station = l.station := by
  unfold passesOn
  split
  · rfl
  · split
    · split <;> rfl
    · rfl

@[simp] theorem State.dispose_station (s : State) (fate : Fate) : (s.dispose fate).line.station = s.line.station := by
  cases fate with
  | gone => rfl
  | forward f acted => rw [State.dispose_forward]; exact passesOn_station ..

@[simp] theorem State.firstByte_station (s : State) (p : Port) : (s.firstByte p).line.station = s.line.station := by
  unfold State.firstByte
  split <;> split <;> rfl

@[simp] theorem State.discardFrame_station (s : State) (p : Port) : (s.discardFrame p).line.station = s.line.station := by
  cases p <;> rfl

/-- The admission evaluation leaves the line interface. -/
@[simp] theorem State.finish_line (b u : State) : (b.finish u).line = u.line := by
  rw [(StartsAndSheds.finish b u).1]

/-- LINE_OK changes the line state alone of the line interface. -/
theorem State.restoreLine_line (s : State) : s.restoreLine.line = { s.line with lost := false } := by
  obtain ⟨-, -, hline, -⟩ := State.removeWhere_spec { s with line := { s.line with lost := false } } .fallback fun _ => true
  rw [State.restoreLine, State.finish_line, State.lineOk, State.post_line, State.claimsLineOk, hline]

/-- An accepted frame keeps the station number as its own act does, in LINE_LOST too. -/
theorem State.accept_station {act : State → State × Fate} (hact : ∀ u : State, (act u).1.line.station = u.line.station)
    (s : State) (p : List Byte) : (s.accept p act).line.station = s.line.station := by
  have heard (u : State) : (u.hear act).line.station = u.line.station := by simp [State.hear, hact]
  have heardInLost (u : State) : (u.hearInLost act).line.station = u.line.station := by
    unfold State.hearInLost
    dsimp only
    split <;> simp [heard, State.restoreLine_line, State.freeOrder]
  unfold State.accept
  dsimp only
  split
  · split
    · simp
    · split <;> simp [heard, heardInLost, Line.heard]
  · rfl

/-- An addressed request keeps the station number as what it performs does. -/
theorem State.request_station {perform : State → Performed}
    (hperform : ∀ u : State, (perform u).state.line.station = u.line.station) (s : State) (kind station : Byte) (tag : Word16)
    (p : List Byte) : (s.request kind station tag p perform).line.station = s.line.station := by
  refine State.accept_station (fun u => ?_) s p
  unfold actAddressed
  dsimp only
  split
  · rfl
  · split
    · rfl
    · exact hperform u

/-! ### STATION RESET (R74, R170) -/

/-- The motion engine's response to STATION RESET concerns its channel alone. -/
theorem ActsOn.resetMotion (ch : Chan) (s : State) : ActsOn ch s (s.resetMotion ch) := by
  unfold State.resetMotion
  dsimp only
  refine .after (.modChan ch _ _ fun _ => ⟨rfl, rfl, rfl⟩) ?_
  split
  · exact .brake ..
  · exact .brake ..
  · split
    · exact .after (.releaseShare ..) (.modChan ch s _ fun _ => ⟨rfl, rfl, rfl⟩)
    · exact .refl ch s
  · exact .after (.settleAtRest ..) (.after (.leaveQueue ..) (.modChan ch s _ fun _ => ⟨rfl, rfl, rfl⟩))
  · exact .after (.settleAtRest ..) (.modChan ch s _ fun _ => ⟨rfl, rfl, rfl⟩)
  · exact .refl ch s

/-- STATION RESET at one channel, whichever order is taken, concerns that channel alone. -/
theorem ActsOn.resetChannel (ch : Chan) (s : State) (changed : Bool) : ActsOn ch s (s.resetChannel ch changed) := by
  have retargeted (u : State) : ActsOn ch u (if changed then u.retarget ch else u) := by
    split
    · exact .retarget ch u
    · exact .refl ch u
  have ordered : ActsOn ch s s.freeOrder.2 := .of_chans rfl rfl
  unfold State.resetChannel
  dsimp only
  refine .after (.modChan ch _ _ fun _ => ⟨rfl, rfl, rfl⟩) ?_
  split
  · exact .after (retargeted _) (.after (.resetMotion ch _) ordered)
  · exact .after (.resetMotion ch _) (.after (retargeted _) ordered)

theorem ActsOn.line {ch : Chan} {s u : State} (h : ActsOn ch s u) : u.line = s.line := by
  rw [show u = _ from h.1]

/-- A fold of changes that each leave the line interface leaves it. -/
theorem State.foldl_line {α : Type} {f : State → α → State} (hf : ∀ (u : State) a, (f u a).line = u.line) (l : List α)
    (s : State) : (l.foldl f s).line = s.line :=
  List.foldlRecOn l f (motive := fun u => u.line = s.line) rfl fun u h a _ => (hf u a).trans h

/-- STATION RESET empties claims and reports and stops the motion; the line interface is as before. -/
theorem State.stationReset_line (s : State) : s.stationReset.line = s.line :=
  State.foldl_line (fun u ch => (ActsOn.resetChannel ch u _).line) ..

theorem performStationReset_line (p : List Byte) (s : State) : (performStationReset p s).state.line = s.line := by
  cases p with
  | nil => exact s.stationReset_line
  | cons => rfl

/-! ### The obligation -/

/-- Settles O50: the three kinds of payload by what the act makes of each, the power-on state, and the line interface that
STATION RESET leaves in its own act and in the acceptance around it. -/
theorem enumerateNumbersTheStation : Obligations.EnumerateNumbersTheStation := by
  refine ⟨fun s station tag p hears => ⟨?numbered, ?unnumbered, ?otherLength⟩, fun s => ⟨_, rfl, rfl⟩, ?stationReset⟩
  case numbered =>
    rintro n hlow hhigh rfl
    exact congrArg _ (State.accept_of_forward hears (actEnumerate_of_number hlow hhigh _))
  case unnumbered =>
    rintro b hb rfl
    exact congrArg _ (State.accept_of_forward hears (actEnumerate_of_out_of_range hb _))
  case otherLength =>
    intro hp
    exact congrArg _ (State.accept_of_forward hears (actEnumerate_of_length_ne hp _))
  case stationReset =>
    intro s t station tag p h
    obtain rfl : s.request 0x14 station tag p (performStationReset p) = t := Host.Outcome.next.inj h
    exact State.request_station (fun u => congrArg (·.station) (performStationReset_line p u)) s ..

end Sys2Proof.Machine
end

section
/-! SUPPORT. The report queue (R173): what it does with one report, what that keeps, and what every step keeps of it. One lemma
per operation, then one for the commands together. -/

namespace Sys2Proof.Machine

/-! ### The pair of a report -/

theorem samePair_iff {a b : Report} : samePair a b = true ↔ a.kind = b.kind ∧ a.chan = b.chan := by simp [samePair]

theorem samePair_eq_false_iff {a b : Report} : samePair a b = false ↔ b.kind ≠ a.kind ∨ b.chan ≠ a.chan := by
  rw [← Bool.not_eq_true, samePair_iff, not_and_or, ne_comm, @ne_comm _ b.chan]

theorem samePair_comm (a b : Report) : samePair a b = samePair b a := by
  simp only [samePair, BEq.comm]

theorem hasPair_eq_false_iff {r : Report} {q : List Report} :
    hasPair r q = false ↔ ∀ x ∈ q, x.kind ≠ r.kind ∨ x.chan ≠ r.chan := by
  simp only [hasPair, List.any_eq_false, Bool.not_eq_true, samePair_eq_false_iff]

theorem hasPair_middle {r old : Report} (h : samePair r old = true) (a b : List Report) :
    hasPair r (a ++ old :: b) = true := by simp [hasPair, h]

theorem replacePair_of_no_pair {r : Report} {q : List Report} (h : hasPair r q = false) : replacePair r q = q := by
  have other : ∀ x ∈ q, ¬ samePair r x = true := List.any_eq_false.1 h
  exact (List.map_congr_left fun x hx => if_neg (other x hx)).trans q.map_id'

/-- The only record of its pair is replaced in its place, and the records around it stay. -/
theorem replacePair_middle {r old : Report} {a b : List Report} (h : samePair r old = true)
    (ha : hasPair r a = false) (hb : hasPair r b = false) : replacePair r (a ++ old :: b) = a ++ r :: b := by
  calc replacePair r (a ++ old :: b)
    _ = replacePair r a ++ (if samePair r old then r else old) :: replacePair r b := by simp [replacePair]
    _ = a ++ r :: b := by rw [replacePair_of_no_pair ha, replacePair_of_no_pair hb, if_pos h]

/-- A replacement leaves the pair of the record in every place as it was. -/
theorem samePair_replaced (r a b : Report) :
    samePair (if samePair r a then r else a) (if samePair r b then r else b) = samePair a b := by
  have pair (x : Report) : (if samePair r x then r else x).kind = x.kind ∧ (if samePair r x then r else x).chan = x.chan := by
    split
    next h => exact samePair_iff.1 h
    next => exact ⟨rfl, rfl⟩
  rw [Bool.eq_iff_iff, samePair_iff, @samePair_iff a, (pair a).1, (pair a).2, (pair b).1, (pair b).2]

/-! ### What the queue does with a report (R173) -/

theorem State.post_of_masked {s : State} {r : Report} (h : reportEnabled s.settings.reportMask r.kind = false) :
    s.post r = s := by simp [State.post, h]

theorem State.post_of_enabled {s : State} {r : Report} (h : reportEnabled s.settings.reportMask r.kind = true) :
    s.post r = { s with reports := s.reports.offer r } := if_pos h

theorem Reports.offer_of_pair {q : Reports} {r : Report} (h : hasPair r q.records = true) :
    q.offer r = { q with records := replacePair r q.records } := if_pos h

theorem Reports.offer_of_room {q : Reports} {r : Report} (h : hasPair r q.records = false) (hroom : q.records.length < 16) :
    q.offer r = { q with records := q.records ++ [r] } := by simp [Reports.offer, h, hroom]

theorem Reports.offer_of_full {q : Reports} {r : Report} (h : hasPair r q.records = false) (hfull : 16 ≤ q.records.length) :
    q.offer r = { q with lost := true } := by simp [Reports.offer, h, Nat.not_lt.2 hfull]

/-! ### What keeps the queue's law -/

namespace ReportsOk

variable {s : State} {ch : Chan}

/-- The law speaks of the records alone; fewer of them, in their order, keep it. -/
theorem of_sublist (h : ReportsOk s) {u : State} (hu : u.reports.records.Sublist s.reports.records) : ReportsOk u :=
  ⟨hu.length_le.trans h.1, h.2.sublist hu⟩

theorem of_reports (h : ReportsOk s) {u : State} (hu : u.reports = s.reports) : ReportsOk u :=
  h.of_sublist (by rw [hu])

/-- A report replaces the record of its pair, or is appended where there is none and at most 15 others, or leaves the records. -/
theorem post {r : Report} (h : ReportsOk s) : ReportsOk (s.post r) := by
  obtain ⟨hlen, hpairs⟩ := h
  cases hmask : reportEnabled s.settings.reportMask r.kind with
  | false => rw [State.post_of_masked hmask]; exact ⟨hlen, hpairs⟩
  | true =>
    rw [State.post_of_enabled hmask]
    cases hpair : hasPair r s.reports.records with
    | true =>
      rw [Reports.offer_of_pair hpair]
      refine ⟨by simpa [replacePair] using hlen, List.pairwise_map.2 ?_⟩
      simpa only [samePair_replaced] using hpairs
    | false =>
      rcases Nat.lt_or_ge s.reports.records.length 16 with hroom | hfull
      · rw [Reports.offer_of_room hpair hroom]
        refine ⟨by simpa using hroom, List.pairwise_append.2 ⟨hpairs, List.pairwise_singleton .., fun x hx y hy => ?_⟩⟩
        obtain rfl := List.mem_singleton.1 hy
        rw [samePair_comm]
        exact samePair_eq_false_iff.2 (hasPair_eq_false_iff.1 hpair x hx)
      · rw [Reports.offer_of_full hpair hfull]; exact ⟨hlen, hpairs⟩

theorem postChan {k : ReportKind} {p : Option Nat} {b : Byte} (h : ReportsOk s) : ReportsOk (s.postChan ch k p b) := post h

theorem modChan {f : Channel → Channel} (h : ReportsOk s) : ReportsOk (s.modChan ch f) := h

/-- A choice between two states that each meet the law. -/
theorem ite {p : Prop} [Decidable p] {u v : State} (hu : ReportsOk u) (hv : ReportsOk v) :
    ReportsOk (if p then u else v) := by
  split
  · exact hu
  · exact hv

/-- A fold of changes that each keep the law keeps it. -/
theorem foldl {α : Type} {f : State → α → State} {l : List α} (hf : ∀ u a, ReportsOk u → ReportsOk (f u a))
    (h : ReportsOk s) : ReportsOk (l.foldl f s) :=
  List.foldlRecOn l f (motive := ReportsOk) h fun u hu a _ => hf u a hu

/-! ### The motion engine (Chapter 3) -/

theorem retarget (h : ReportsOk s) : ReportsOk (s.retarget ch) := h.of_reports (State.Retargets.retarget ch s).reports

theorem retargetAll {chs : List Chan} (h : ReportsOk s) : ReportsOk (s.retargetAll chs) := foldl (fun _ _ => retarget) h

theorem brake {reason : BrakingReason} {cause : Option HaltCause} {b : Bool} (h : ReportsOk s) :
    ReportsOk (s.brake ch reason cause b) := ite h h

theorem settleAtRest (h : ReportsOk s) : ReportsOk (s.settleAtRest ch) := by
  obtain ⟨-, -, hreports⟩ := s.settleAtRest_keeps ch
  exact h.of_reports hreports

theorem faultChannel {code : FaultCode} (h : ReportsOk s) : ReportsOk (s.faultChannel ch code) := ite h (postChan h)

theorem endArrive (h : ReportsOk s) : ReportsOk (s.endArrive ch) := by
  unfold State.endArrive
  exact settleAtRest (postChan h)

theorem endAtEnd (h : ReportsOk s) : ReportsOk (s.endAtEnd ch) := by
  unfold State.endAtEnd
  exact ite (retarget (postChan (postChan h))) (settleAtRest (postChan h))

theorem postStopped {cause : Option HaltCause} {byReset : Bool} (h : ReportsOk s) :
    ReportsOk (s.postStopped ch cause byReset) := by
  cases cause with
  | none => exact ite (postChan h) h
  | some cause => exact ite (postChan (postChan h)) (postChan h)

theorem endStop (h : ReportsOk s) : ReportsOk (s.endStop ch) := by
  unfold State.endStop
  dsimp only
  split
  · exact postStopped (ch := ch) h
  · split
    · exact postStopped h
    · exact ite (settleAtRest (postStopped h)) (postStopped (ch := ch) h)

theorem endObstruct (h : ReportsOk s) : ReportsOk (s.endObstruct ch) := ite (faultChannel h) (ite h h)

theorem endBraking (h : ReportsOk s) : ReportsOk (s.endBraking ch) := by
  unfold State.endBraking
  split
  · exact endArrive h
  · exact endAtEnd h
  · exact endObstruct h
  · exact endStop h
  · exact endStop h

theorem settleExpired (h : ReportsOk s) : ReportsOk (s.settleExpired ch) := ite (ite (endBraking h) h) h

theorem dwellExpired (h : ReportsOk s) : ReportsOk (s.dwellExpired ch) := ite (ite (settleAtRest h) h) h

theorem timedArrives (h : ReportsOk s) : ReportsOk (s.timedArrives ch) := ite (brake h) h

theorem resetMotion (h : ReportsOk s) : ReportsOk (s.resetMotion ch) := by
  unfold State.resetMotion
  dsimp only
  refine modChan ?_
  split
  · exact brake h
  · exact brake h
  · exact ite h h
  · exact settleAtRest h
  · exact settleAtRest h
  · exact h

theorem resetChannel {changed : Bool} (h : ReportsOk s) : ReportsOk (s.resetChannel ch changed) := by
  have retargeted {u : State} (hu : ReportsOk u) : ReportsOk (if changed then u.retarget ch else u) := ite (retarget hu) hu
  unfold State.resetChannel
  dsimp only
  exact modChan (ite (retargeted (resetMotion h)) (resetMotion (retargeted h)))

/-! ### The admission unit and the monitors (Chapter 4) -/

theorem of_startsAndSheds {u : State} (hu : StartsAndSheds s u) (h : ReportsOk s) : ReportsOk u :=
  h.of_reports (by rw [hu.1])

theorem finish {before : State} (h : ReportsOk s) : ReportsOk (before.finish s) := of_startsAndSheds (.finish before s) h

theorem rebudget {cause : HaltCause} (h : ReportsOk s) : ReportsOk (s.rebudget cause) :=
  ite (of_startsAndSheds (.shedLoop ..) h) h

theorem changeSupply {state : SupplyState} (h : ReportsOk s) : ReportsOk (s.changeSupply state) := by
  unfold State.changeSupply
  exact rebudget (post h)

theorem startHoldOff (h : ReportsOk s) : ReportsOk s.startHoldOff := ite (changeSupply h) h

theorem firstSupply {v1 v2 v3 v4 : Nat} (h : ReportsOk s) : ReportsOk (s.firstSupply v1 v2 v3 v4) :=
  ite h (rebudget (ite h (post h)))

theorem measureInCut (h : ReportsOk s) : ReportsOk s.measureInCut := ite (ite (startHoldOff h) h) h

theorem measureSupply {v : Nat} (h : ReportsOk s) : ReportsOk (s.measureSupply v) :=
  ite (ite (measureInCut h) (ite h (changeSupply h))) h

theorem holdOffExpires (h : ReportsOk s) : ReportsOk s.holdOffExpires := ite (ite (changeSupply h) h) h

theorem clearSupply (h : ReportsOk s) : ReportsOk s.clearSupply.1 := by
  unfold State.clearSupply
  split
  · split
    · exact startHoldOff h
    · exact h
  · exact h

theorem measureThermal {celsius : Int} (h : ReportsOk s) : ReportsOk (s.measureThermal celsius) :=
  ite h (rebudget (post h))

/-! ### Claims and airing (Chapters 1 and 7) -/

theorem placeOn {members : List Chan} {put : Channel → Channel} (h : ReportsOk s) :
    ReportsOk (s.placeOn members put).state := retargetAll (foldl (fun _ _ => modChan) h)

theorem placeDemand {tag : Word16} {p : List Byte} (h : ReportsOk s) : ReportsOk (s.placeDemand tag p).state := by
  unfold State.placeDemand
  dsimp only
  split
  · exact h
  · split
    · exact h
    · split
      · exact placeOn h
      · exact h

theorem removeWhere {cls : ClaimClass} {hit : Claim → Bool} (h : ReportsOk s) : ReportsOk (s.removeWhere cls hit).1 :=
  retargetAll (foldl (fun _ _ => modChan) h)

theorem releaseClaims {p : List Byte} (h : ReportsOk s) : ReportsOk (s.releaseClaims p).1 := by
  unfold State.releaseClaims
  split
  · exact h
  · exact h
  · exact removeWhere h

theorem placeLocal {n : InputNo} {cls : ClaimClass} {asked : Asked} {expiry : Option Nat} (h : ReportsOk s) :
    ReportsOk (s.placeLocal n cls asked expiry).1 := by
  unfold State.placeLocal
  split
  · exact h
  · split
    · exact placeOn h
    · exact h

theorem expireClaim {cls : ClaimClass} (h : ReportsOk s) : ReportsOk (s.expireClaim ch cls) := by
  unfold State.expireClaim
  split
  · exact h
  · exact ite (retarget (modChan h)) h

theorem endDwell (h : ReportsOk s) : ReportsOk (s.endDwell ch) := by
  unfold State.endDwell
  split
  · exact h
  · refine ite h ?_
    split
    · exact retarget (modChan h)
    · exact retarget (modChan h)
    · exact ite (retarget (modChan h)) (post (retarget (modChan h)))

/-! ### Weather and inputs (Chapters 2 and 8) -/

/-- An event of the weather unit posts at most its one report over what its own change leaves. -/
theorem weatherEvent {change : State → State} (h : ReportsOk (change s)) : ReportsOk (s.weatherEvent change) :=
  ite (retargetAll (post h)) h

theorem releaseExpires (h : ReportsOk s) : ReportsOk s.releaseExpires := ite (weatherEvent h) h

theorem settleExpires (h : ReportsOk s) : ReportsOk s.settleExpires := ite (weatherEvent h) h

theorem rainExpires (h : ReportsOk s) : ReportsOk s.rainExpires := ite (weatherEvent h) h

theorem goesStale (h : ReportsOk s) : ReportsOk s.goesStale := ite (weatherEvent h) h

theorem activate {n : InputNo} (h : ReportsOk s) : ReportsOk (s.activate n).1 := by
  have outcome {r : State × Option Nat} (hr : ReportsOk r.1) : ReportsOk (outcomeOf r).1 := by
    unfold outcomeOf
    split <;> exact hr
  unfold State.activate
  dsimp only
  split
  · exact outcome (placeLocal h)
  · exact outcome (placeLocal h)
  · exact outcome (placeLocal h)
  · exact outcome (placeLocal h)
  · exact h
  · exact h

theorem deactivate {n : InputNo} (h : ReportsOk s) : ReportsOk (s.deactivate n) := ite (removeWhere h) h

theorem setActive {n : InputNo} {active : Bool} (h : ReportsOk s) : ReportsOk (s.setActive n active) := weatherEvent h

theorem debounce {n : InputNo} (h : ReportsOk s) : ReportsOk (s.debounce n) :=
  ite (ite h (ite (post (activate (setActive h))) (post (deactivate (setActive h))))) h

theorem writeInput {n : InputNo} {e : InputEntry} (h : ReportsOk s) : ReportsOk (s.writeInput n e) := by
  have ended : ReportsOk (if (s.input n).active then s.deactivate n else s) := ite (deactivate h) h
  exact ite h (weatherEvent ended)

/-! ### The line interface (Chapter 9) -/

theorem firstByte {p : Port} (h : ReportsOk s) : ReportsOk (s.firstByte p) := by
  cases p <;> exact ite h h

theorem discardFrame {p : Port} (h : ReportsOk s) : ReportsOk (s.discardFrame p) := by
  cases p <;> exact h

theorem endBadFrame {p : Port} {bytes : List Byte} {byteError : Bool} (h : ReportsOk s) :
    ReportsOk (s.endBadFrame p bytes byteError) := ite (ite (discardFrame (firstByte h)) h) h

theorem acceptUpstream {f : Frame} (h : ReportsOk s) : ReportsOk (s.acceptUpstream f) :=
  have first : ReportsOk (s.firstByte .dPort) := firstByte h
  ite (ite (discardFrame first) first) h

theorem pushEcho {f : Frame} (h : ReportsOk s) : ReportsOk (s.pushEcho f) := ite h h

theorem dispose {fate : Fate} (h : ReportsOk s) : ReportsOk (s.dispose fate) := by
  cases fate with
  | gone => exact h
  | forward f acted => rw [State.dispose_forward]; exact h

theorem lineOk (h : ReportsOk s) : ReportsOk s.lineOk := by
  unfold State.lineOk
  exact post (removeWhere h)

theorem restoreLine (h : ReportsOk s) : ReportsOk s.restoreLine := finish (lineOk h)

theorem lineLost (h : ReportsOk s) : ReportsOk s.lineLost := by
  unfold State.lineLost State.claimsLineLost
  exact post (retargetAll h)

theorem watchdogExpires (h : ReportsOk s) : ReportsOk s.watchdogExpires := ite (ite h (lineLost h)) h

theorem uPortDown (h : ReportsOk s) : ReportsOk s.uPortDown := ite h h

theorem dPortDown (h : ReportsOk s) : ReportsOk s.dPortDown := ite (foldl (fun _ _ => pushEcho) h) h

/-- A REPORT frame takes the oldest five records, and the others stay in their order (R156, R174). -/
theorem sendReport (h : ReportsOk s) : ReportsOk s.sendReport := h.of_sublist (List.drop_sublist 5 _)

theorem chooseFrame (h : ReportsOk s) : ReportsOk s.chooseFrame := by
  unfold State.chooseFrame
  split
  · exact h
  · exact h
  · refine ite (sendReport h) ?_
    split
    · exact h
    · exact ite h (sendReport h)

theorem frameSent (h : ReportsOk s) : ReportsOk s.frameSent := by
  unfold State.frameSent
  split
  · exact h
  · split <;> exact h

/-! ### An accepted frame (R146, R157) -/

section
variable {act : State → State × Fate}

theorem hear (hact : ∀ u, ReportsOk u → ReportsOk (act u).1) (h : ReportsOk s) : ReportsOk (s.hear act) :=
  finish (dispose (hact s h))

/-- LINE_OK and the frame's own act keep the law in either order. -/
theorem hearInLost (hact : ∀ u, ReportsOk u → ReportsOk (act u).1) (h : ReportsOk s) : ReportsOk (s.hearInLost act) :=
  ite (hear hact (restoreLine h)) (restoreLine (hear hact h))

theorem accept {p : List Byte} (hact : ∀ u, ReportsOk u → ReportsOk (act u).1) (h : ReportsOk s) :
    ReportsOk (s.accept p act) :=
  have first : ReportsOk (s.firstByte .uPort) := firstByte h
  ite (ite (discardFrame first) (ite (hearInLost hact first) (hear hact first))) h

end

theorem actDemand {f : Frame} (h : ReportsOk s) : ReportsOk (actDemand f s).1 := by
  unfold Sys2Proof.Machine.actDemand
  dsimp only
  split
  · exact placeDemand h
  · exact h

theorem actRelease {f : Frame} (h : ReportsOk s) : ReportsOk (actRelease f s).1 := by
  unfold Sys2Proof.Machine.actRelease
  dsimp only
  split
  · exact releaseClaims h
  · exact h

theorem actWeather {f : Frame} (h : ReportsOk s) : ReportsOk (actWeather f s).1 := ite (weatherEvent h) h

theorem actEnumerate {f : Frame} (h : ReportsOk s) : ReportsOk (actEnumerate f s).1 := by
  unfold Sys2Proof.Machine.actEnumerate
  dsimp only
  split
  · split <;> exact h
  · exact h

/-! ### The management unit (Chapter 10) -/

/-- An addressed request keeps the law as what it performs does (R150). -/
theorem request {perform : State → Performed} {kind station : Byte} {tag : Word16} {p : List Byte}
    (hperform : ∀ u, ReportsOk u → ReportsOk (perform u).state) (h : ReportsOk s) :
    ReportsOk (s.request kind station tag p perform) := by
  refine accept (fun u hu => ?_) h
  unfold actAddressed
  dsimp only
  split
  · exact hu
  · split
    · exact hu
    · exact hperform u hu

theorem performGroupWrite {p : List Byte} (h : ReportsOk s) : ReportsOk (performGroupWrite p s).state := by
  unfold Sys2Proof.Machine.performGroupWrite
  dsimp only
  split
  · exact h
  · split
    · exact h
    · split
      · exact h
      · split
        · exact h
        · split <;> exact h

theorem performProfileWrite {p : List Byte} (h : ReportsOk s) : ReportsOk (performProfileWrite p s).state := by
  unfold Sys2Proof.Machine.performProfileWrite
  split
  · exact h
  · split
    · exact h
    · split
      · exact h
      · split
        · exact h
        · split
          · exact retarget (modChan h)
          · exact h

theorem performInputWrite {p : List Byte} (h : ReportsOk s) : ReportsOk (performInputWrite p s).state := by
  unfold Sys2Proof.Machine.performInputWrite
  split
  · exact h
  · split
    · exact h
    · split
      · exact h
      · split
        · exact h
        · split
          · exact writeInput h
          · exact h

theorem writeSettings {t : Settings} (h : ReportsOk s) : ReportsOk (s.writeSettings t) := ite h (rebudget h)

theorem performSettingsWrite {p : List Byte} (h : ReportsOk s) : ReportsOk (performSettingsWrite p s).state := by
  unfold Sys2Proof.Machine.performSettingsWrite
  split
  · exact h
  · split
    · exact h
    · split
      · exact h
      · split
        · exact h
        · split
          · exact writeSettings h
          · exact h

theorem performTableRead {p : List Byte} (h : ReportsOk s) : ReportsOk (performTableRead p s).state := by
  unfold Sys2Proof.Machine.performTableRead
  split
  · split <;> exact h
  · exact h

theorem performStatusRead {p : List Byte} (h : ReportsOk s) : ReportsOk (performStatusRead p s).state := by
  unfold Sys2Proof.Machine.performStatusRead
  dsimp only
  split
  · split
    · exact h
    · split <;> exact h
  · exact h

theorem clearChannel (h : ReportsOk s) : ReportsOk (s.clearChannel ch).state := by
  unfold State.clearChannel
  dsimp only
  split
  · exact h
  · split
    · exact retarget (postChan h)
    · exact h

theorem performClearFault {p : List Byte} (h : ReportsOk s) : ReportsOk (performClearFault p s).state := by
  unfold Sys2Proof.Machine.performClearFault
  split
  · split
    · exact clearSupply h
    · split
      · exact h
      · exact clearChannel h
  · exact h

theorem of_no_records (h : s.reports.records = []) : ReportsOk s := by simp [ReportsOk, h]

/-- STATION RESET empties the queue, and stops the motion without a report (R170). -/
theorem stationReset (s : State) : ReportsOk s.stationReset := foldl (fun _ _ => resetChannel) (of_no_records rfl)

theorem performStationReset {p : List Byte} (h : ReportsOk s) : ReportsOk (performStationReset p s).state := by
  cases p with
  | nil => exact stationReset s
  | cons => exact h

/-- After power-on reset FRESH START is the one record (R171). -/
theorem reset : ReportsOk State.reset := by simp [ReportsOk, State.reset]

/-! ### Travel sensing and the time base (Chapters 5 and 6) -/

theorem actOnPulse (h : ReportsOk s) : ReportsOk (s.actOnPulse ch) := by
  have drift : ReportsOk (s.driftPulse ch) := by
    unfold State.driftPulse
    dsimp only
    split
    · exact settleAtRest h
    · exact h
    · exact h
  unfold State.actOnPulse
  dsimp only
  split
  · split
    · exact ite (brake h) (ite h h)
    · exact h
  · exact ite (brake h) h
  · exact ite drift h
  · exact ite drift h
  · exact ite drift h
  · exact h

theorem dropReference (h : ReportsOk s) : ReportsOk (s.dropReference ch) := by
  unfold State.dropReference
  dsimp only
  split <;> exact postChan (ch := ch) h

theorem takePulse (h : ReportsOk s) : ReportsOk (s.takePulse ch) :=
  ite (faultChannel h) (ite (dropReference h) (actOnPulse h))

theorem pulse (h : ReportsOk s) : ReportsOk (s.pulse ch) :=
  have taken : ReportsOk (s.finish (s.takePulse ch)) := finish (takePulse h)
  ite (finish (retarget taken)) taken

theorem resistance {elsewhere : State → State} (helse : ReportsOk (elsewhere s)) (h : ReportsOk s) :
    ReportsOk (s.resistance ch elsewhere) := by
  unfold State.resistance
  dsimp only
  split
  · split
    · exact brake h
    · exact ite (brake h) helse
    · exact brake h
  · exact brake h
  · exact h

theorem stallExpires (h : ReportsOk s) : ReportsOk (s.stallExpires ch) := ite (resistance (faultChannel h) h) h

theorem filterExpires (h : ReportsOk s) : ReportsOk (s.filterExpires ch) := ite (resistance (brake h) h) h

theorem shortExpires (h : ReportsOk s) : ReportsOk (s.shortExpires ch) := ite (ite (faultChannel h) h) h

theorem passTime {units : Nat} (h : ReportsOk s) : ReportsOk (s.passTime units) := ite h h

theorem restOfPeriod (h : ReportsOk s) : ReportsOk s.restOfPeriod := ite (passTime h) (passTime h)

theorem idle (h : ReportsOk s) : ReportsOk s.idle := ite (ite (passTime h) h) h

/-! ### The commands together -/

theorem of_next {u t : State} (h : (.next u : Host.Outcome State Fault Refusal) = .next t) (k : ReportsOk u) : ReportsOk t := by
  cases h; exact k

/-- Every command keeps the law: a report is posted through the queue, power-on reset leaves one record, and what else writes
the queue only shortens it. -/
theorem exec {c : Instr} {t : State} (h : ReportsOk s) (hx : exec c s = .next t) : ReportsOk t := by
  cases c with
  | powerOnReset => exact of_next hx reset
  | portUp p => cases p <;> exact of_next hx h
  | portDown p =>
    cases p with
    | uPort => exact of_next hx (uPortDown h)
    | dPort => exact of_next hx (dPortDown h)
  | frameFirstByte => exact of_next hx (firstByte h)
  | frameDiscarded => exact of_next hx (endBadFrame h)
  | upstreamFrameAccepted => exact of_next hx (acceptUpstream h)
  | demand => exact of_next hx (accept (fun _ => actDemand) h)
  | release => exact of_next hx (accept (fun _ => actRelease) h)
  | weather => exact of_next hx (accept (fun _ => actWeather) h)
  | enumerate => exact of_next hx (accept (fun _ => actEnumerate) h)
  | beacon | unknownKindFrame => exact of_next hx (accept (fun _ hu => hu) h)
  | groupWrite => exact of_next hx (request (fun _ => performGroupWrite) h)
  | profileWrite => exact of_next hx (request (fun _ => performProfileWrite) h)
  | inputWrite => exact of_next hx (request (fun _ => performInputWrite) h)
  | settingsWrite => exact of_next hx (request (fun _ => performSettingsWrite) h)
  | tableRead => exact of_next hx (request (fun _ => performTableRead) h)
  | statusRead => exact of_next hx (request (fun _ => performStatusRead) h)
  | clearFault => exact of_next hx (request (fun _ => performClearFault) h)
  | clearSupply => exact of_next hx (request (fun _ => clearSupply) h)
  | stationReset => exact of_next hx (request (fun _ => performStationReset) h)
  | dPortTransmitStart | dPortFrameSent => exact of_next hx (ite h h)
  | uPortTransmitChoice => exact of_next hx (ite (chooseFrame h) h)
  | uPortFrameSent => exact of_next hx (frameSent h)
  | lineWatchdogExpiry => exact of_next hx (finish (watchdogExpires h))
  | claimExpiry => exact of_next hx (finish (expireClaim h))
  | releaseTimerExpiry => exact of_next hx (finish (releaseExpires h))
  | settleTimerExpiry => exact of_next hx (finish (settleExpires h))
  | rainReleaseTimerExpiry => exact of_next hx (finish (rainExpires h))
  | staleTimeExpiry => exact of_next hx (finish (goesStale h))
  | airingDwellExpiry => exact of_next hx (finish (endDwell h))
  | debounceTimerExpiry => exact of_next hx (finish (debounce h))
  | pulse => exact of_next hx (ite h (pulse h))
  | stallTimerExpiry => exact of_next hx (finish (stallExpires h))
  | filterTimerExpiry => exact of_next hx (finish (filterExpires h))
  | shortFilterExpiry => exact of_next hx (finish (shortExpires h))
  | timedDurationReached => exact of_next hx (finish (timedArrives h))
  | brakeSettleExpiry => exact of_next hx (finish (settleExpired h))
  | reverseDwellExpiry => exact of_next hx (finish (dwellExpired h))
  | pulsePeriodTimeout | blankingTimerExpiry | restTimerExpiry | rampStep => exact of_next hx (ite h h)
  | currentSample | inputSample => exact of_next hx h
  | staggerTimerExpiry => exact of_next hx (ite (of_startsAndSheds (.evaluateAdmission _) h) h)
  | firstSupplyMeasurement => exact of_next hx (finish (firstSupply h))
  | supplyMeasurement => exact of_next hx (finish (measureSupply h))
  | holdOffExpiry => exact of_next hx (finish (holdOffExpires h))
  | thermalMeasurement => exact of_next hx (finish (measureThermal h))
  | pwmPeriod => exact of_next hx (restOfPeriod h)

theorem step {t : State} (h : ReportsOk s) (hx : step s = .next t) : ReportsOk t := by
  unfold Sys2Proof.Machine.step at hx
  split at hx
  · exact of_next hx (idle h)
  · rename_i rest _
    exact exec (s := { s with pending := rest }) h hx

end ReportsOk

/-! ### The obligation -/

/-- Settles O58: the masked report, and the enabled one by whether its pair has a record and the queue has room; the law of the
queue is kept by each report and so by every command. -/
theorem reportQueueLaw : Obligations.ReportQueueLaw := by
  refine ⟨fun s r hmask => State.post_of_masked hmask, fun s r hmask => ⟨?replaced, fun hother => ?unpaired⟩,
    fun s t h hx => h.step hx⟩
  case replaced =>
    intro a b old hrecords hkind hchan hothers
    have hold : samePair r old = true := samePair_iff.2 ⟨hkind.symm, hchan.symm⟩
    have ha : hasPair r a = false := hasPair_eq_false_iff.2 fun x hx => hothers x (List.mem_append_left b hx)
    have hb : hasPair r b = false := hasPair_eq_false_iff.2 fun x hx => hothers x (List.mem_append_right a hx)
    rw [State.post_of_enabled hmask, Reports.offer_of_pair (hrecords ▸ hasPair_middle hold a b), hrecords,
      replacePair_middle hold ha hb]
  case unpaired =>
    have hpair : hasPair r s.reports.records = false := hasPair_eq_false_iff.2 hother
    rw [State.post_of_enabled hmask]
    exact ⟨fun hroom => by rw [Reports.offer_of_room hpair hroom], fun hfull => by rw [Reports.offer_of_full hpair hfull]⟩

end Sys2Proof.Machine
end

section
/-! SUPPORT. A property that every step keeps, packaged once: the events from which the commands are composed, what keeps the
property in each of them, and from that every command and every step. -/

namespace Sys2Proof.Machine

/-! ### The events of one channel's motion -/

/-- What the motion engine, travel sensing and current supervision of channel `ch` can make of the station in one event, before
its admission evaluation. -/
inductive State.MotionEvent (ch : Chan) (s : State) : State → Prop
  | retarget : MotionEvent ch s (s.retarget ch)
  | settleExpired : MotionEvent ch s (s.settleExpired ch)
  | dwellExpired : MotionEvent ch s (s.dwellExpired ch)
  | timedArrives : MotionEvent ch s (s.timedArrives ch)
  | takePulse : MotionEvent ch s (s.takePulse ch)
  | stallExpires : MotionEvent ch s (s.stallExpires ch)
  | filterExpires : MotionEvent ch s (s.filterExpires ch)
  | shortExpires : MotionEvent ch s (s.shortExpires ch)
  | clearChannel : MotionEvent ch s (s.clearChannel ch).state
  | resetChannel (changed : Bool) : MotionEvent ch s (s.resetChannel ch changed)
  | rampStep : MotionEvent ch s (s.modChan ch Channel.rampStep)
  | sample (v : Nat) : MotionEvent ch s (s.modChan ch (fun c => c.sampleCurrent (min v 255)))
  | blankingEnds : MotionEvent ch s (s.modChan ch (fun c => { c with current := { c.current with blanking := none } }))
  | restEnds : MotionEvent ch s (s.modChan ch (fun c => { c with motion := { c.motion with restTimer := none } }))
  | periodEnds :
      MotionEvent ch s (s.modChan ch (fun c => { c with travel := { c.travel with period := longestPeriod } }))

theorem ActsOn.clearChannel (ch : Chan) (s : State) : ActsOn ch s (s.clearChannel ch).state := by
  unfold State.clearChannel
  dsimp only
  split
  · exact .refl ch s
  · split
    · exact .after (.retarget ch _) (.after (.postChan ..) (.modChan ch s _ Channel.kept_clearFault))
    · exact .refl ch s

/-- Each event concerns its channel alone. -/
theorem State.MotionEvent.actsOn {ch : Chan} {s u : State} (h : s.MotionEvent ch u) : ActsOn ch s u := by
  cases h with
  | retarget => exact .retarget ch s
  | settleExpired => exact .settleExpired ch s
  | dwellExpired => exact .dwellExpired ch s
  | timedArrives => exact .timedArrives ch s
  | takePulse => exact .takePulse ch s
  | stallExpires => exact .stallExpires ch s
  | filterExpires => exact .filterExpires ch s
  | shortExpires => exact .shortExpires ch s
  | clearChannel => exact .clearChannel ch s
  | resetChannel changed => exact .resetChannel ch s changed
  | rampStep => exact .modChan ch s _ Channel.kept_rampStep
  | sample v => exact .modChan ch s _ fun c => c.kept_sampleCurrent _
  | blankingEnds | restEnds | periodEnds => exact .modChan ch s _ fun _ => ⟨rfl, rfl, rfl⟩

/-- The commands of the blocks behind the line interface, those that let time pass and POWER_ON_RESET apart. -/
def isInside : Instr → Bool
  | .claimExpiry .. | .releaseTimerExpiry | .settleTimerExpiry | .rainReleaseTimerExpiry | .staleTimeExpiry
  | .airingDwellExpiry _ | .debounceTimerExpiry _ | .pulse .. | .pulsePeriodTimeout _ | .stallTimerExpiry _
  | .blankingTimerExpiry _ | .filterTimerExpiry _ | .shortFilterExpiry _ | .timedDurationReached _ | .brakeSettleExpiry _
  | .reverseDwellExpiry _ | .restTimerExpiry _ | .rampStep _ | .staggerTimerExpiry | .firstSupplyMeasurement ..
  | .supplyMeasurement _ | .holdOffExpiry | .thermalMeasurement _ | .currentSample .. | .inputSample .. => true
  | _ => false

/-! ### Ranges of the records that are written whole -/

/-- The weather record, with the limits in force, lies in the ranges of Table 2.1. -/
def Weather.InRange (w : Weather) : Prop :=
  w.windSpeed ≤ 700 ∧ w.lastSpeed ≤ 700 ∧ (∀ b, w.settled = some b → b ≤ 15) ∧ (∀ b, w.candidate = some b → b ≤ 15)
    ∧ w.w1InForce ≤ 700 ∧ w.hystInForce < w.w1InForce

/-- The supply monitor, with the thresholds in force, lies in its ranges (R86, R91). -/
def Supply.InRange (m : Supply) : Prop :=
  m.measured ≤ 400 ∧ (∀ v ∈ m.samples, v ≤ 400) ∧ m.samples.length ≤ 4
    ∧ m.cutInForce < m.lowInForce ∧ m.lowInForce < m.overInForce ∧ m.overInForce ≤ 400

/-- An input entry, with its debounce timer, lies in the ranges of Table 8.1. -/
def InputEntry.InRange (e : InputEntry) : Prop := inputInRange e = true ∧ ∀ r, e.timer = some r → r ≤ 2550

theorem RangesOk.weather {s : State} (h : RangesOk s) : s.weather.InRange := by
  obtain ⟨-, -, -, -, -, ⟨h1, h2, h3, h4, h5, h6, -⟩, -⟩ := h
  exact ⟨h1, h2, h3, h4, h5, h6⟩

theorem RangesOk.supply {s : State} (h : RangesOk s) : s.supply.InRange := by
  obtain ⟨-, -, -, -, -, ⟨-, -, -, -, -, -, h1, h2, h3, h4, h5, h6, -⟩, -⟩ := h
  exact ⟨h1, h2, h3, h4, h5, h6⟩

theorem RangesOk.input {s : State} (h : RangesOk s) (n : InputNo) : (s.input n).InRange := h.2.1 n

theorem RangesOk.settings {s : State} (h : RangesOk s) : settingsInRange s.settings = true := h.2.2.1

theorem inRange_iff {lo x hi : Nat} : inRange lo x hi = true ↔ lo ≤ x ∧ x ≤ hi := by simp [inRange]

/-- The ranges of the settings record that bound what the blocks store, and its cross-checks (Table 10.3, R164). -/
structure Settings.Bounds (t : Settings) : Prop where
  defaultHold : t.defaultHold ≤ 3600
  w1 : t.w1 ≤ 700
  hysteresis : t.hysteresis < t.w1
  cutVolt : t.cutVolt < t.lowVolt
  lowVolt : t.lowVolt < t.overVolt
  overVolt : t.overVolt ≤ 400

theorem Settings.bounds {t : Settings} (h : settingsInRange t = true) : t.Bounds := by
  simp only [settingsInRange, Bool.and_eq_true, inRange_iff, decide_eq_true_eq] at h
  constructor <;> omega

/-! ### A channel that stores a claim -/

/-- The channel record that stores a claim of class `cls` (R10), and with an AIRING claim its airing record (R125). -/
def Channel.storeClaim (cls : ClaimClass) (claim : Channel → Claim) (air : AiringRecord) (c : Channel) : Channel :=
  { c.putClaim cls (claim c) with airing := if cls = .airing then some air else c.airing }

/-! ### What a property has to keep -/

/-- A property that the blocks of the station keep while the line interface stands. -/
structure KeptInside (P : State → Prop) : Prop where
  motion {ch : Chan} {s u : State} : s.MotionEvent ch u → P s → P u
  finish {b s : State} : P s → P (b.finish s)
  reports {s : State} {r : Reports} : P s → P { s with reports := r }
  dropClaim {s : State} {ch : Chan} {cls : ClaimClass} : P s → P (s.modChan ch (fun c => c.dropClaim cls))
  storeClaim {s : State} {l : List Chan} {cls : ClaimClass} {claim : Channel → Claim} {air : AiringRecord} : l.Nodup →
    cls ≠ .fallback → (RangesOk s → (∀ c, ClaimOk c.profile.travel (claim c)) ∧ AiringRangesOk air) → P s →
    P (l.foldl (fun s c => s.modChan c (Channel.storeClaim cls claim air)) s)
  rewriteAiring {s : State} {ch : Chan} {a b : AiringRecord} : (s.chan ch).airing = some a →
    (AiringRangesOk a → AiringRangesOk b) → P s → P (s.modChan ch (fun c => c.rewriteAiring b))
  weather {s : State} {w : Weather} : (RangesOk s → w.InRange) → P s → P { s with weather := w }
  input {s : State} {n : InputNo} {e : InputEntry} : (RangesOk s → e.InRange) → P s → P (s.setInput n e)
  group {s : State} {i : Nat} {e : GroupEntry} : e.number ≤ 1023 → P s → P { s with groups := s.groups.set i e }
  supply {s : State} {m : Supply} : m.state = s.supply.state → (RangesOk s → m.InRange) → P s → P { s with supply := m }
  changeSupply {s : State} {state : SupplyState} : P s → P (s.changeSupply state)
  firstSupply {s : State} {v1 v2 v3 v4 : Nat} : P s → P (s.firstSupply v1 v2 v3 v4)
  measureThermal {s : State} {celsius : Int} : P s → P (s.measureThermal celsius)
  writeSettings {s : State} {t : Settings} : settingsInRange t = true → P s → P (s.writeSettings t)
  writeProfile {s : State} {ch : Chan} {p : Profile} : isBusy (s.chan ch).motion.state = false → profileInRange p = true →
    P s → P ((s.modChan ch (fun c => c.writeProfile p)).retarget ch)
  resetClaims {s : State} : P s → P { s with chans := s.chans.map Channel.resetClaims }
  stagger {s : State} : P s → P { s with admission := { s.admission with stagger := none } }.evaluateAdmission

/-- A property that every command keeps. -/
structure KeptByCommands (P : State → Prop) : Prop extends KeptInside P where
  line {s : State} {l : Line} : l.lost = s.line.lost → P s → P { s with line := l }
  freshStart {s : State} {b : Bool} : P s → P { s with freshStart := b }
  freeCount {s : State} {n : Nat} : P s → P { s with freeCount := n }
  lineOk {s : State} : P s → P s.lineOk
  lineLost {s : State} : P s → P s.lineLost
  period {s : State} : P s → P s.restOfPeriod.startPeriod
  reset {s : State} : P s → P { State.reset with pending := s.pending, freeCount := s.freeCount }

/-- A property that every step keeps. -/
structure KeptBySteps (P : State → Prop) : Prop extends KeptByCommands P where
  pending {s : State} {l : List Instr} : P s → P { s with pending := l }
  passCount {s : State} : s.clock.count < periodCounts - 1 → P s → P s.passCount

namespace KeptInside

variable {P : State → Prop} {s : State} {ch : Chan}

/-- A choice between two states that each meet the property. -/
theorem choice {p : Prop} [Decidable p] {u v : State} (hu : P u) (hv : P v) : P (if p then u else v) := by
  split
  · exact hu
  · exact hv

/-- A fold of changes that each keep the property keeps it. -/
theorem foldl {α : Type} {f : State → α → State} {l : List α} (hf : ∀ u a, P u → P (f u a)) (h : P s) : P (l.foldl f s) :=
  List.foldlRecOn l f (motive := P) h fun u hu a _ => hf u a hu

variable (k : KeptInside P)
include k

theorem post {r : Report} (h : P s) : P (s.post r) := choice (k.reports h) h

theorem retarget (h : P s) : P (s.retarget ch) := k.motion .retarget h

theorem retargetAll {chs : List Chan} (h : P s) : P (s.retargetAll chs) := foldl (fun _ _ => k.retarget) h

/-! ### Claims (Chapter 1) -/

theorem removeWhere {cls : ClaimClass} {hit : Claim → Bool} (h : P s) : P (s.removeWhere cls hit).1 :=
  k.retargetAll (foldl (fun _ _ => k.dropClaim) h)

theorem releaseClaims {p : List Byte} (h : P s) : P (s.releaseClaims p).1 := by
  unfold State.releaseClaims
  split
  · exact h
  · exact h
  · exact k.removeWhere h

theorem expireClaim {cls : ClaimClass} (h : P s) : P (s.expireClaim ch cls) := by
  unfold State.expireClaim
  split
  · exact h
  · exact choice (k.retarget (k.dropClaim h)) h

theorem placeOn {m : PerChan Bool} {put : Channel → Channel} {cls : ClaimClass} {claim : Channel → Claim} {air : AiringRecord}
    (hput : put = Channel.storeClaim cls claim air) (hcls : cls ≠ .fallback)
    (hok : RangesOk s → (∀ c, ClaimOk c.profile.travel (claim c)) ∧ AiringRangesOk air) (h : P s) :
    P (s.placeOn (memberList m) put).state := by
  subst hput
  exact k.retargetAll (k.storeClaim ((nodup_allChans.filter _).filter _) hcls hok h)

end KeptInside

/-! ### The ranges of what the frames and the inputs place -/

theorem demandOk_captureStay (c : Channel) : DemandOk c.profile.travel (captureStay c) := by
  unfold captureStay
  split
  · exact Int.toNat_le.2 (min_le_right _ _)
  · trivial

theorem demandOk_demandFor {a : Asked} (h : ∀ d, a = .level d → d ≤ 1000) (c : Channel) :
    DemandOk c.profile.travel (a.demandFor c) := by
  cases a with
  | level d => exact h d rfl
  | stay => exact demandOk_captureStay c

theorem clampLevel_le (d : Nat) : clampLevel d ≤ 1000 := Nat.min_le_right ..

theorem askedOf_le {d e : Nat} (h : askedOf d = .level e) : e ≤ 1000 := by
  unfold askedOf at h
  split at h
  · cases h
  · cases h; exact clampLevel_le d

theorem clampDwell_range (d : Nat) : 10 ≤ clampDwell d ∧ clampDwell d ≤ 7200 := by
  unfold clampDwell
  omega

theorem airingRangesOk_turnTo {a : AiringRecord} (h : AiringRangesOk a) (ph : AiringPhase) : AiringRangesOk (a.turnTo ph) := by
  obtain ⟨hlevel, hopen, hopen', hclosed, hclosed', hleft, hcycles, -⟩ := h
  refine ⟨hlevel, hopen, hopen', hclosed, hclosed', hleft, hcycles, ?_⟩
  cases ph <;> simp only [AiringRecord.turnTo] <;> omega

/-- The cycle count of an airing part is a byte, and 0 stands for ENDLESS (R124). -/
theorem airingRangesOk_airingOf (p : List Byte) : AiringRangesOk (airingOf p) := by
  have hopen := clampDwell_range (wordAt p 10)
  have hclosed := clampDwell_range (wordAt p 12)
  have hbyte := (byteAt p 14).isLt
  have hcount : ∀ n, (if (byteAt p 14).toNat = 0 then none else some (byteAt p 14).toNat) = some n → 1 ≤ n ∧ n ≤ 255 := by
    intro n hn
    split at hn
    · cases hn
    · cases hn; omega
  refine ⟨clampLevel_le _, hopen.1, hopen.2, hclosed.1, hclosed.2, hcount, hcount, ?_⟩
  simp only [airingOf]
  split <;> omega

theorem AiringRangesOk.level_le {a : AiringRecord} (h : AiringRangesOk a) : a.level ≤ 1000 := by
  obtain ⟨hlevel, -⟩ := h
  unfold AiringRecord.level
  split
  · exact hlevel
  · exact Nat.zero_le _

theorem holdMs_le {t : Settings} (h : settingsInRange t = true) (hold : Nat) : holdMs t hold ≤ 3600000 := by
  have hdefault := (Settings.bounds h).defaultHold
  unfold holdMs
  split <;> omega

theorem lineExpiry_le {t : Settings} (h : settingsInRange t = true) (cls : ClaimClass) (hold r : Nat)
    (hr : lineExpiry t cls hold = some r) : r ≤ 3600000 := by
  have hms := holdMs_le h hold
  cases cls with
  | smoke | fallback | airing => cases hr
  | service =>
    simp only [lineExpiry] at hr
    split at hr <;> cases hr
    exact hms
  | manual | comfort => cases hr; exact hms

/-- The ranges of an input entry that bound what it places (Table 8.1). -/
theorem InputEntry.InRange.bounds {e : InputEntry} (h : e.InRange) :
    1 ≤ e.debounce ∧ e.debounce ≤ 255 ∧ e.level ≤ 1000 ∧ e.hold ≤ 3600 := by
  obtain ⟨h, -⟩ := h
  simp only [inputInRange, Bool.and_eq_true, inRange_iff] at h
  omega

namespace KeptInside

variable {P : State → Prop} {s : State} {ch : Chan} (k : KeptInside P)
include k

/-- A DEMAND's claim lies in the ranges of Table 1.2 whatever the frame: its levels, dwells and hold are clamped. -/
theorem placeDemand {tag : Word16} {p : List Byte} (h : P s) : P (s.placeDemand tag p).state := by
  unfold State.placeDemand
  dsimp only
  split
  · exact h
  · rename_i cls _
    split
    · exact h
    · rename_i entry hentry
      split
      · rename_i hadmits
        obtain ⟨-, hnumber, hgroup⟩ := lookupGroup_some hentry
        refine k.placeOn (cls := cls) (air := airingOf p)
          (claim := fun c => { origin := .line, group := some entry.number, demand := _, expiry := _, tag := tag.toNat })
          rfl ?_ (fun hr => ⟨fun c => ⟨demandOk_demandFor ?_ c, ?_, lineExpiry_le hr.settings cls _, ?_⟩, airingRangesOk_airingOf p⟩) h
        · rintro rfl; cases hadmits
        · intro d hd
          split at hd
          · cases hd; exact (airingRangesOk_airingOf p).level_le
          · exact askedOf_le hd
        · have := tag.isLt; dsimp only; omega
        · rintro g ⟨⟩; rw [hnumber]; exact hgroup
      · exact h

theorem placeLocal {n : InputNo} {cls : ClaimClass} {asked : Asked} {expiry : Option Nat} (hcls : cls ≠ .fallback)
    (hair : cls ≠ .airing) (hasked : RangesOk s → ∀ d, asked = .level d → d ≤ 1000)
    (hexpiry : RangesOk s → ∀ r, expiry = some r → r ≤ 3600000) (h : P s) : P (s.placeLocal n cls asked expiry).1 := by
  unfold State.placeLocal
  dsimp only
  split
  · exact h
  · rename_i entry hentry
    obtain ⟨-, hnumber, hgroup⟩ := lookupGroup_some hentry
    split
    · refine k.placeOn (cls := cls) (air := airingOf []) (claim := fun c => { origin := .input n, group := some entry.number, demand := asked.demandFor c, expiry, tag := 0 })
        ?_ hcls (fun hr => ⟨fun c => ⟨demandOk_demandFor (hasked hr) c, Nat.zero_le _, hexpiry hr, ?_⟩, airingRangesOk_airingOf []⟩) h
      · funext c
        rw [Channel.storeClaim, if_neg hair]
        rfl
      · rintro g ⟨⟩; rw [hnumber]; exact hgroup
    · exact h

/-! ### Airing (Chapter 7) -/

theorem endDwell (h : P s) : P (s.endDwell ch) := by
  unfold State.endDwell
  split
  · exact h
  · rename_i a hair
    have turn {b : AiringRecord} (hb : AiringRangesOk a → AiringRangesOk b) :
        P ((s.modChan ch (fun c => c.rewriteAiring b)).retarget ch) := k.retarget (k.rewriteAiring hair hb h)
    dsimp only
    split
    · exact h
    · split
      · exact turn (airingRangesOk_turnTo · _)
      · exact turn (airingRangesOk_turnTo · _)
      · rename_i n _ hn
        split
        · refine turn fun ha => airingRangesOk_turnTo ?_ _
          obtain ⟨hlevel, hopen, hopen', hclosed, hclosed', hleft, hcycles, hdwell⟩ := ha
          refine ⟨hlevel, hopen, hopen', hclosed, hclosed', ?_, hcycles, hdwell⟩
          rintro m ⟨⟩
          have := hleft n hn
          omega
        · exact k.post (k.retarget (k.dropClaim h))

/-! ### The weather unit (Chapter 2) -/

theorem weatherEvent {change : State → State} (hc : P (change s)) : P (s.weatherEvent change) := by
  have wetted : P { change s with
      weather := ((change s).weather.onWet (change s).settings (wetCondition s) (wetCondition (change s))) } := by
    refine k.weather (fun hr => ?_) hc
    rw [Weather.onWet_eq]
    exact hr.weather
  unfold State.weatherEvent
  exact choice (k.retargetAll (k.post wetted)) wetted

theorem releaseExpires (h : P s) : P s.releaseExpires := choice (k.weatherEvent (k.weather (fun hr => hr.weather) h)) h

theorem settleExpires (h : P s) : P s.settleExpires := by
  refine choice (k.weatherEvent (k.weather (fun hr => ?_) h)) h
  obtain ⟨hspeed, hlast, hsettled, hcandidate, hw1, hhyst⟩ := hr.weather
  refine ⟨hspeed, hlast, fun b hb => ?_, nofun, hw1, hhyst⟩
  rcases Option.or_eq_some_iff.1 hb with hb | ⟨-, hb⟩
  · exact hcandidate b hb
  · exact hsettled b hb

theorem rainExpires (h : P s) : P s.rainExpires := choice (k.weatherEvent (k.weather (fun hr => hr.weather) h)) h

theorem goesStale (h : P s) : P s.goesStale := by
  refine choice (k.weatherEvent (k.weather (fun hr => ?_) h)) h
  obtain ⟨hspeed, hlast, -, -, hw1, hhyst⟩ := hr.weather
  exact ⟨hspeed, hlast, nofun, nofun, hw1, hhyst⟩

end KeptInside

theorem Weather.InRange.settle {w : Weather} (h : w.InRange) (t : Settings) (b : Nat) : (w.settle t b).InRange := by
  obtain ⟨hspeed, hlast, hsettled, hcandidate, hw1, hhyst⟩ := h
  unfold Weather.settle
  split
  · exact ⟨hspeed, hlast, hsettled, hcandidate, hw1, hhyst⟩
  · have hb : ∀ x, some b = some x → x ≤ 15 := by rintro x ⟨⟩; omega
    have adopted : ({ w with settled := some b, candidate := none, settleTimer := none } : Weather).InRange :=
      ⟨hspeed, hlast, hb, nofun, hw1, hhyst⟩
    dsimp only
    split
    · exact adopted
    · split
      · exact ⟨hspeed, hlast, hsettled, nofun, hw1, hhyst⟩
      · split
        · exact ⟨hspeed, hlast, hsettled, hcandidate, hw1, hhyst⟩
        · split
          · exact adopted
          · exact ⟨hspeed, hlast, hsettled, hb, hw1, hhyst⟩

theorem meanOf_le {l : List Nat} (hl : l.length ≤ 4) (h : ∀ v ∈ l, v ≤ 400) : meanOf l ≤ 400 := by
  have hsum := List.sum_le_card_nsmul l 400 h
  simp only [smul_eq_mul] at hsum
  unfold meanOf
  omega

namespace KeptInside

variable {P : State → Prop} {s : State} {ch : Chan} (k : KeptInside P)
include k

theorem takeWeather {p : List Byte} (h : P s) : P (s.takeWeather p) := by
  refine k.weather (fun hr => Weather.InRange.settle ?_ ..) h
  obtain ⟨-, -, hsettled, hcandidate, -⟩ := hr.weather
  have bounds := Settings.bounds hr.settings
  exact ⟨Nat.min_le_right .., Nat.min_le_right .., hsettled, hcandidate, bounds.w1, bounds.hysteresis⟩

/-! ### The local inputs (Chapter 8) -/

theorem inputEntry {n : InputNo} {e : InputEntry} {t : Option Nat}
    (he : RangesOk s → inputInRange e = true) (ht : RangesOk s → t = none ∨ t = (s.input n).timer) (h : P s) :
    P (s.setInput n { e with timer := t }) := by
  refine k.input (fun hr => ⟨he hr, fun r htimer => ?_⟩) h
  rcases ht hr with rfl | rfl
  · cases htimer
  · exact (hr.input n).2 r htimer

theorem inputSample {n : InputNo} {high : Bool} (h : P s) : P (s.setInput n ((s.input n).sample high)) := by
  refine k.input (fun hr => ?_) h
  obtain ⟨hentry, htimer⟩ := hr.input n
  have hbounds := (hr.input n).bounds
  unfold InputEntry.sample
  dsimp only
  split
  · exact ⟨hentry, htimer⟩
  · split
    · exact ⟨hentry, nofun⟩
    · split
      · refine ⟨hentry, ?_⟩
        rintro r ⟨⟩
        omega
      · exact ⟨hentry, htimer⟩

theorem activate {n : InputNo} (h : P s) : P (s.activate n).1 := by
  have outcome {r : State × Option Nat} (hr : P r.1) : P (outcomeOf r).1 := by
    unfold outcomeOf
    split <;> exact hr
  have level : RangesOk s → ∀ d, Asked.level (s.input n).level = .level d → d ≤ 1000 := by
    rintro hr d ⟨⟩
    have := (hr.input n).bounds
    omega
  have keys (d : Nat) (hd : RangesOk s → ∀ e, Asked.level d = .level e → e ≤ 1000) :
      P (outcomeOf (s.placeLocal n .manual (if bothKeys s n then .stay else .level d) (some (1000 * (s.input n).hold)))).1 := by
    refine outcome (k.placeLocal (by decide) (by decide) (fun hr e he => ?_) (fun hr r hhold => ?_) h)
    · split at he
      · cases he
      · exact hd hr e he
    · cases hhold
      have := (hr.input n).bounds
      omega
  unfold State.activate
  dsimp only
  split
  · exact outcome (k.placeLocal (by decide) (by decide) level nofun h)
  · exact keys _ level
  · exact keys 0 (by rintro - e ⟨⟩; omega)
  · exact outcome (k.placeLocal (by decide) (by decide) nofun nofun h)
  · exact h
  · exact h

theorem deactivate {n : InputNo} (h : P s) : P (s.deactivate n) := choice (k.removeWhere h) h

theorem debounce {n : InputNo} (h : P s) : P (s.debounce n) := by
  have stopped : P (s.setInput n { s.input n with timer := none }) :=
    k.inputEntry (fun hr => (hr.input n).1) (fun _ => .inl rfl) h
  have turned {b : Bool} : P ((s.setInput n { s.input n with timer := none }).setActive n b) := by
    refine k.weatherEvent (k.input (fun hr => ?_) stopped)
    exact hr.input n
  exact choice (choice stopped (choice (k.post (k.activate turned)) (k.post (k.deactivate turned)))) h

theorem writeInput {n : InputNo} {e : InputEntry} (he : inputInRange e = true) (ht : e.timer = (s.input n).timer) (h : P s) :
    P (s.writeInput n e) := by
  have ended : P (if (s.input n).active then s.deactivate n else s) := choice (k.deactivate h) h
  refine choice (k.input (fun hr => ⟨he, ?_⟩) h) (k.weatherEvent (k.input (fun _ => ⟨he, nofun⟩) ended))
  rw [ht]
  exact (hr.input n).2

/-! ### The monitors (Chapter 4) -/

theorem startHoldOff (h : P s) : P s.startHoldOff :=
  choice (k.changeSupply h) (k.supply rfl (fun hr => hr.supply) h)

theorem measureInCut (h : P s) : P s.measureInCut :=
  choice (choice (k.startHoldOff h) h) (k.supply rfl (fun hr => hr.supply) h)

theorem measureSupply {v : Nat} (h : P s) : P (s.measureSupply v) := by
  have measured : P { s with supply := { s.supply with
      samples := clampVolt v :: s.supply.samples.take 3, measured := meanOf (clampVolt v :: s.supply.samples.take 3)
      cutInForce := s.settings.cutVolt, lowInForce := s.settings.lowVolt, overInForce := s.settings.overVolt } } := by
    refine k.supply rfl (fun hr => ?_) h
    obtain ⟨-, hsamples, -⟩ := hr.supply
    have bounds := Settings.bounds hr.settings
    have hnew : ∀ x ∈ clampVolt v :: s.supply.samples.take 3, x ≤ 400 := by
      intro x hx
      rcases List.mem_cons.1 hx with rfl | hx
      · exact Nat.min_le_right ..
      · exact hsamples x (List.mem_of_mem_take hx)
    have hlen : (clampVolt v :: s.supply.samples.take 3).length ≤ 4 := by simp
    exact ⟨meanOf_le hlen hnew, hnew, hlen, bounds.cutVolt, bounds.lowVolt, bounds.overVolt⟩
  exact choice (choice (k.measureInCut measured) (choice measured (k.changeSupply measured))) h

theorem holdOffExpires (h : P s) : P s.holdOffExpires :=
  choice (choice (k.changeSupply h) (k.supply rfl (fun hr => hr.supply) h)) h

theorem clearSupply (h : P s) : P s.clearSupply.1 := by
  unfold State.clearSupply
  split
  · split
    · exact k.startHoldOff (k.supply rfl (fun hr => hr.supply) h)
    · exact h
  · exact h

/-! ### The requests (Chapter 10) -/

theorem performGroupWrite {p : List Byte} (h : P s) : P (performGroupWrite p s).state := by
  unfold Sys2Proof.Machine.performGroupWrite
  dsimp only
  split
  · exact h
  · split
    · exact h
    · split
      · exact k.group (Nat.zero_le _) h
      · split
        · exact h
        · rename_i hrange
          simp only [Bool.or_eq_true, decide_eq_true_eq, not_or, Nat.not_lt] at hrange
          split
          · exact h
          · exact k.group hrange.1 h

theorem performProfileWrite {p : List Byte} (h : P s) : P (performProfileWrite p s).state := by
  unfold Sys2Proof.Machine.performProfileWrite
  split
  · exact h
  · split
    · exact h
    · split
      · exact h
      · split
        · exact h
        · rename_i hbusy
          split
          · rename_i hrange
            exact k.writeProfile (Bool.eq_false_iff.2 hbusy) hrange h
          · exact h

end KeptInside

/-- An INPUT write lays its fields over the entry's own state: the debounce timer stays. -/
theorem inputOf_timer {r : List Byte} {old e : InputEntry} (h : inputOf r old = some e) : e.timer = old.timer := by
  unfold inputOf at h
  split at h
  · cases h
  · cases h; rfl

namespace KeptInside

variable {P : State → Prop} {s : State} {ch : Chan} (k : KeptInside P)
include k

theorem performInputWrite {p : List Byte} (h : P s) : P (performInputWrite p s).state := by
  unfold Sys2Proof.Machine.performInputWrite
  split
  · exact h
  · split
    · exact h
    · split
      · exact h
      · split
        · exact h
        · rename_i hentry
          split
          · rename_i hrange
            exact k.writeInput hrange (inputOf_timer hentry) h
          · exact h

theorem performSettingsWrite {p : List Byte} (h : P s) : P (performSettingsWrite p s).state := by
  unfold Sys2Proof.Machine.performSettingsWrite
  split
  · exact h
  · split
    · exact h
    · split
      · exact h
      · split
        · exact h
        · split
          · rename_i hrange
            exact k.writeSettings hrange h
          · exact h

omit k in
theorem performTableRead {p : List Byte} (h : P s) : P (performTableRead p s).state := by
  unfold Sys2Proof.Machine.performTableRead
  split
  · split <;> exact h
  · exact h

theorem performClearFault {p : List Byte} (h : P s) : P (performClearFault p s).state := by
  unfold Sys2Proof.Machine.performClearFault
  split
  · split
    · exact k.clearSupply h
    · split
      · exact h
      · exact k.motion .clearChannel h
  · exact h

theorem performStationReset {p : List Byte} (h : P s) : P (performStationReset p s).state := by
  cases p with
  | nil => exact foldl (fun _ _ hu => k.motion (.resetChannel _) hu) (k.reports (k.resetClaims h))
  | cons => exact h

/-! ### A pulse (Chapter 5) -/

theorem pulse (h : P s) : P (s.pulse ch) :=
  have taken : P (s.finish (s.takePulse ch)) := k.finish (k.motion .takePulse h)
  choice (k.finish (k.retarget taken)) taken

/-! ### The commands inside the station -/

omit k in
theorem of_next {u t : State} (h : (.next u : Host.Outcome State Fault Refusal) = .next t) (hu : P u) : P t := by
  cases h; exact hu

/-- Every command inside the station keeps the property, event by event. -/
theorem exec {c : Instr} {t : State} (hc : isInside c = true) (h : P s) (hx : exec c s = .next t) : P t := by
  have motion {ch : Chan} {u : State} (e : s.MotionEvent ch u) : P (s.finish u) := k.finish (k.motion e h)
  have event {ch : Chan} {u : State} {p : Prop} [Decidable p] (e : s.MotionEvent ch u) : P (if p then u else s) :=
    choice (k.motion e h) h
  cases c with
  | claimExpiry => exact of_next hx (k.finish (k.expireClaim h))
  | releaseTimerExpiry => exact of_next hx (k.finish (k.releaseExpires h))
  | settleTimerExpiry => exact of_next hx (k.finish (k.settleExpires h))
  | rainReleaseTimerExpiry => exact of_next hx (k.finish (k.rainExpires h))
  | staleTimeExpiry => exact of_next hx (k.finish (k.goesStale h))
  | airingDwellExpiry => exact of_next hx (k.finish (k.endDwell h))
  | debounceTimerExpiry => exact of_next hx (k.finish (k.debounce h))
  | pulse => exact of_next hx (choice h (k.pulse h))
  | stallTimerExpiry => exact of_next hx (motion .stallExpires)
  | filterTimerExpiry => exact of_next hx (motion .filterExpires)
  | shortFilterExpiry => exact of_next hx (motion .shortExpires)
  | timedDurationReached => exact of_next hx (motion .timedArrives)
  | brakeSettleExpiry => exact of_next hx (motion .settleExpired)
  | reverseDwellExpiry => exact of_next hx (motion .dwellExpired)
  | pulsePeriodTimeout => exact of_next hx (event .periodEnds)
  | blankingTimerExpiry => exact of_next hx (event .blankingEnds)
  | restTimerExpiry => exact of_next hx (event .restEnds)
  | rampStep => exact of_next hx (event .rampStep)
  | currentSample _ v => exact of_next hx (k.motion (.sample v) h)
  | inputSample h1 h2 h3 h4 =>
    exact of_next hx (k.inputSample (n := .in4) (high := h4) (k.inputSample (n := .in3) (high := h3)
      (k.inputSample (n := .in2) (high := h2) (k.inputSample (n := .in1) (high := h1) h))))
  | staggerTimerExpiry => exact of_next hx (choice (k.stagger h) h)
  | firstSupplyMeasurement => exact of_next hx (k.finish (k.firstSupply h))
  | supplyMeasurement => exact of_next hx (k.finish (k.measureSupply h))
  | holdOffExpiry => exact of_next hx (k.finish (k.holdOffExpires h))
  | thermalMeasurement => exact of_next hx (k.finish (k.measureThermal h))
  | _ => cases hc

end KeptInside

namespace KeptByCommands

open KeptInside (choice foldl)

variable {P : State → Prop} {s : State} {ch : Chan} (k : KeptByCommands P)
include k

/-! ### The line interface (Chapter 9) -/

theorem firstByte {p : Port} (h : P s) : P (s.firstByte p) := by
  cases p <;> exact choice (k.line rfl h) h

theorem discardFrame {p : Port} (h : P s) : P (s.discardFrame p) := by
  cases p <;> exact k.line rfl h

theorem endBadFrame {p : Port} {bytes : List Byte} {byteError : Bool} (h : P s) : P (s.endBadFrame p bytes byteError) :=
  choice (choice (k.discardFrame (k.firstByte h)) h) h

theorem acceptUpstream {f : Frame} (h : P s) : P (s.acceptUpstream f) :=
  have first : P (s.firstByte .dPort) := k.firstByte h
  choice (choice (k.discardFrame first) (k.line rfl first)) h

theorem pushEcho {f : Frame} (h : P s) : P (s.pushEcho f) := choice (k.line rfl h) (k.line rfl h)

theorem dispose {fate : Fate} (h : P s) : P (s.dispose fate) := by
  cases fate with
  | gone => exact h
  | forward f acted => exact choice (choice (k.pushEcho h) h) (k.line rfl h)

theorem watchdogExpires (h : P s) : P s.watchdogExpires :=
  have restarted : P { s with line := { s.line with watchdog := watchdogMs s.settings } } := k.line rfl h
  choice (choice restarted (k.lineLost restarted)) h

theorem uPortDown (h : P s) : P s.uPortDown := choice (k.line rfl h) h

theorem dPortDown (h : P s) : P s.dPortDown := choice (foldl (fun _ _ => k.pushEcho) (k.line rfl h)) h

theorem sendReport (h : P s) : P s.sendReport :=
  k.line (s := { s with reports := { records := s.reports.records.drop 5, lost := false } }) rfl (k.reports h)

theorem chooseFrame (h : P s) : P s.chooseFrame := by
  unfold State.chooseFrame
  split
  · exact k.line rfl h
  · exact k.line rfl h
  · refine choice (k.sendReport h) ?_
    split
    · exact k.line rfl h
    · exact choice h (k.sendReport h)

theorem frameSent (h : P s) : P s.frameSent := by
  unfold State.frameSent
  split
  · exact h
  · split <;> exact k.line rfl h

/-! ### An accepted frame (R146, R157) -/

theorem hear {act : State → State × Fate} (hact : ∀ u, P u → P (act u).1) (h : P s) : P (s.hear act) :=
  k.finish (k.dispose (hact s h))

/-- LINE_OK and the frame's own act keep the property in either order. -/
theorem hearInLost {act : State → State × Fate} (hact : ∀ u, P u → P (act u).1) (h : P s) : P (s.hearInLost act) :=
  have ordered : P s.freeOrder.2 := k.freeCount h
  choice (k.hear hact (k.finish (k.lineOk ordered))) (k.finish (k.lineOk (k.hear hact ordered)))

theorem accept {p : List Byte} {act : State → State × Fate} (hact : ∀ u, P u → P (act u).1) (h : P s) : P (s.accept p act) :=
  have first : P (s.firstByte .uPort) := k.firstByte h
  choice (choice (k.discardFrame first)
    (choice (k.hearInLost hact (k.line rfl first)) (k.hear hact (k.line rfl first)))) h

theorem actDemand {f : Frame} (h : P s) : P (actDemand f s).1 := by
  unfold Sys2Proof.Machine.actDemand
  dsimp only
  split
  · exact k.placeDemand h
  · exact h

theorem actRelease {f : Frame} (h : P s) : P (actRelease f s).1 := by
  unfold Sys2Proof.Machine.actRelease
  dsimp only
  split
  · exact k.releaseClaims h
  · exact h

theorem actWeather {f : Frame} (h : P s) : P (actWeather f s).1 := choice (k.weatherEvent (k.takeWeather h)) h

theorem actEnumerate {f : Frame} (h : P s) : P (actEnumerate f s).1 := by
  unfold Sys2Proof.Machine.actEnumerate
  dsimp only
  split
  · split <;> exact k.line rfl h
  · exact h

theorem performStatusRead {p : List Byte} (h : P s) : P (performStatusRead p s).state := by
  unfold Sys2Proof.Machine.performStatusRead
  dsimp only
  split
  · split
    · exact k.freshStart (s := { s with line := { s.line with lineError := false } }) (k.line rfl h)
    · split
      · exact h
      · exact k.line rfl h
  · exact h

theorem request {perform : State → Performed} {kind station : Byte} {tag : Word16} {p : List Byte}
    (hperform : ∀ u, P u → P (perform u).state) (h : P s) : P (s.request kind station tag p perform) := by
  refine k.accept (fun u hu => ?_) h
  unfold actAddressed
  dsimp only
  split
  · exact hu
  · split
    · exact hu
    · exact k.line rfl (hperform u hu)

/-! ### The commands together -/

/-- Every command keeps the property, event by event. -/
theorem exec {c : Instr} {t : State} (h : P s) (hx : exec c s = .next t) : P t := by
  cases c with
  | powerOnReset => exact KeptInside.of_next hx (k.reset h)
  | portUp p => cases p <;> exact KeptInside.of_next hx (k.line rfl h)
  | portDown p =>
    cases p with
    | uPort => exact KeptInside.of_next hx (k.uPortDown h)
    | dPort => exact KeptInside.of_next hx (k.dPortDown h)
  | frameFirstByte => exact KeptInside.of_next hx (k.firstByte h)
  | frameDiscarded => exact KeptInside.of_next hx (k.endBadFrame h)
  | upstreamFrameAccepted => exact KeptInside.of_next hx (k.acceptUpstream h)
  | demand => exact KeptInside.of_next hx (k.accept (fun _ => k.actDemand) h)
  | release => exact KeptInside.of_next hx (k.accept (fun _ => k.actRelease) h)
  | weather => exact KeptInside.of_next hx (k.accept (fun _ => k.actWeather) h)
  | enumerate => exact KeptInside.of_next hx (k.accept (fun _ => k.actEnumerate) h)
  | beacon | unknownKindFrame => exact KeptInside.of_next hx (k.accept (fun _ hu => hu) h)
  | groupWrite => exact KeptInside.of_next hx (k.request (fun _ => k.performGroupWrite) h)
  | profileWrite => exact KeptInside.of_next hx (k.request (fun _ => k.performProfileWrite) h)
  | inputWrite => exact KeptInside.of_next hx (k.request (fun _ => k.performInputWrite) h)
  | settingsWrite => exact KeptInside.of_next hx (k.request (fun _ => k.performSettingsWrite) h)
  | tableRead => exact KeptInside.of_next hx (k.request (fun _ => KeptInside.performTableRead) h)
  | statusRead => exact KeptInside.of_next hx (k.request (fun _ => k.performStatusRead) h)
  | clearFault => exact KeptInside.of_next hx (k.request (fun _ => k.performClearFault) h)
  | clearSupply => exact KeptInside.of_next hx (k.request (fun _ => k.clearSupply) h)
  | stationReset => exact KeptInside.of_next hx (k.request (fun _ => k.performStationReset) h)
  | dPortTransmitStart | dPortFrameSent => exact KeptInside.of_next hx (choice (k.line rfl h) h)
  | uPortTransmitChoice => exact KeptInside.of_next hx (choice (k.chooseFrame h) h)
  | uPortFrameSent => exact KeptInside.of_next hx (k.frameSent h)
  | lineWatchdogExpiry => exact KeptInside.of_next hx (k.finish (k.watchdogExpires h))
  | pwmPeriod => exact KeptInside.of_next hx (k.period h)
  | _ => exact k.toKeptInside.exec rfl h hx

end KeptByCommands

namespace KeptBySteps

open KeptInside (choice)

variable {P : State → Prop} {s : State} (k : KeptBySteps P)
include k

theorem idle (h : P s) : P s.idle := by
  unfold State.idle
  dsimp only
  split
  · split
    · rename_i hcount
      exact k.passCount hcount h
    · exact k.pending h
  · exact k.pending h

theorem step {t : State} (h : P s) (hx : step s = .next t) : P t := by
  unfold Sys2Proof.Machine.step at hx
  split at hx
  · exact KeptInside.of_next hx (k.idle h)
  · rename_i rest _
    exact k.exec (s := { s with pending := rest }) (k.pending h) hx

end KeptBySteps

end Sys2Proof.Machine
end

section
/-! SUPPORT. The frames of the monitors and of the settings, and with them what waits in the queue of commands. -/

namespace Sys2Proof.Machine

/-- A change of the monitors or the settings with the budget that follows: but for the motion of the channels, the admission unit
and the reports nothing else changes, and every channel keeps its claims. -/
def State.Rebudgets (s u : State) : Prop :=
  u = { s with chans := u.chans, admission := u.admission, reports := u.reports, supply := u.supply, thermal := u.thermal,
               settings := u.settings } ∧ KeepsClaims s u

namespace State.Rebudgets

theorem refl (s : State) : s.Rebudgets s := ⟨rfl, .refl s⟩

theorem trans {s u v : State} (h : s.Rebudgets u) (k : u.Rebudgets v) : s.Rebudgets v := by
  obtain ⟨hu, hclaims⟩ := h
  obtain ⟨hv, kclaims⟩ := k
  exact ⟨by rw [hv, hu], hclaims.trans kclaims⟩

theorem of_startsAndSheds {s u : State} (h : StartsAndSheds s u) : s.Rebudgets u := by
  obtain ⟨hu, hclaims, -⟩ := h
  exact ⟨by rw [hu], hclaims⟩

theorem fields {s u : State} (h : s.Rebudgets u) : u.pending = s.pending ∧ u.line = s.line ∧ u.clock = s.clock
    ∧ u.weather = s.weather ∧ u.groups = s.groups ∧ u.inputs = s.inputs := by
  obtain ⟨hu, -⟩ := h
  rw [hu]
  exact ⟨rfl, rfl, rfl, rfl, rfl, rfl⟩

theorem post (s : State) (r : Report) : s.Rebudgets (s.post r) := by
  refine ⟨?_, fun d => by simp⟩
  rw [State.post_eq]

theorem rebudget (s : State) (cause : HaltCause) : s.Rebudgets (s.rebudget cause) := by
  have set : s.Rebudgets { s with admission := { s.admission with
      budget := budgetOf s.settings s.supply.state s.thermal.state } } := ⟨rfl, .refl s⟩
  unfold State.rebudget
  dsimp only
  split
  · exact set.trans (of_startsAndSheds (.shedLoop ..))
  · exact set

theorem changeSupply (s : State) (state : SupplyState) : s.Rebudgets (s.changeSupply state) :=
  have set (m : Supply) : s.Rebudgets { s with supply := m } := ⟨rfl, .refl s⟩
  (set _).trans ((post _ _).trans (rebudget _ _))

theorem firstSupply (s : State) (v1 v2 v3 v4 : Nat) : s.Rebudgets (s.firstSupply v1 v2 v3 v4) := by
  have set (m : Supply) : s.Rebudgets { s with supply := m } := ⟨rfl, .refl s⟩
  unfold State.firstSupply
  dsimp only
  split
  · exact refl s
  · split
    · exact (set _).trans (rebudget _ _)
    · exact ((set _).trans (post _ _)).trans (rebudget _ _)

theorem measureThermal (s : State) (celsius : Int) : s.Rebudgets (s.measureThermal celsius) := by
  have set (m : Thermal) : s.Rebudgets { s with thermal := m } := ⟨rfl, .refl s⟩
  unfold State.measureThermal
  dsimp only
  generalize (if s.thermal.formed then _ else _ : ThermalState) = state
  split
  · exact set _
  · exact (set _).trans ((post _ _).trans (rebudget _ _))

theorem writeSettings (s : State) (t : Settings) : s.Rebudgets (s.writeSettings t) := by
  have set (m : Supply) : s.Rebudgets { s with settings := t, supply := m } := ⟨rfl, .refl s⟩
  unfold State.writeSettings
  dsimp only
  split
  · exact set _
  · exact (set _).trans (rebudget _ _)

end State.Rebudgets

/-! ### The commands that wait -/

@[simp] theorem State.passTime_pending (s : State) (units : Nat) : (s.passTime units).pending = s.pending := by
  unfold State.passTime
  dsimp only
  split <;> rfl

@[simp] theorem State.startPeriod_pending (s : State) : s.startPeriod.pending = s.pending := rfl

@[simp] theorem State.boundary_pending (s : State) : s.boundary.pending = s.pending := rfl

@[simp] theorem State.restOfPeriod_pending (s : State) : s.restOfPeriod.pending = s.pending := by
  unfold State.restOfPeriod
  dsimp only
  split <;> simp

theorem State.finish_pending (b s : State) : (b.finish s).pending = s.pending := (StartsAndSheds.finish b s).fields.1

theorem State.evaluateAdmission_pending (s : State) : s.evaluateAdmission.pending = s.pending :=
  (StartsAndSheds.evaluateAdmission s).fields.1

/-- A change of claims leaves the commands that wait. -/
theorem OnlyClaims.pending {s u : State} (h : OnlyClaims s u) : u.pending = s.pending := by rw [h.1]

@[simp] theorem State.lineOk_pending (s : State) : s.lineOk.pending = s.pending := by
  obtain ⟨honly, -⟩ := State.removeWhere_spec { s with line := { s.line with lost := false } } .fallback (fun _ => true)
  have := honly.pending
  unfold State.lineOk
  rw [State.post_eq]
  exact this

@[simp] theorem State.lineLost_pending (s : State) : s.lineLost.pending = s.pending := by
  unfold State.lineLost
  rw [State.post_eq]
  exact (State.retargetAll_spec _ _).1.fields.1

/-- No command touches the commands that wait behind it. -/
theorem keptByCommands_pending (l : List Instr) : KeptByCommands (fun s => s.pending = l) where
  motion e h := e.actsOn.1.fields.1.trans h
  finish h := (State.finish_pending ..).trans h
  reports h := h
  dropClaim h := h
  storeClaim hl _ _ h := by rw [(State.foldl_modChan _ _ hl _).1]; exact h
  rewriteAiring _ _ h := h
  weather _ h := h
  input _ h := h
  group _ h := h
  supply _ _ h := h
  changeSupply h := (State.Rebudgets.changeSupply ..).fields.1.trans h
  firstSupply h := (State.Rebudgets.firstSupply ..).fields.1.trans h
  measureThermal h := (State.Rebudgets.measureThermal ..).fields.1.trans h
  writeSettings _ h := (State.Rebudgets.writeSettings ..).fields.1.trans h
  writeProfile _ _ h := (ActsOn.retarget ..).1.fields.1.trans h
  resetClaims h := h
  line _ h := h
  freshStart h := h
  freeCount h := h
  lineOk h := (State.lineOk_pending _).trans h
  lineLost h := (State.lineLost_pending _).trans h
  stagger h := (State.evaluateAdmission_pending _).trans h
  period h := by simpa using h
  reset h := h

theorem exec_pending {c : Instr} {s t : State} (h : exec c s = .next t) : t.pending = s.pending :=
  (keptByCommands_pending s.pending).exec rfl h

/-! ### An idle step -/

theorem State.passTime_moment (s : State) {units : Nat} (h : units ≤ msUnits) :
    msUnits * (s.passTime units).clock.now + (s.passTime units).clock.sub
      = msUnits * s.clock.now + s.clock.sub + units := by
  unfold State.passTime
  dsimp only
  split
  · dsimp only; omega
  · simp only [State.tickMs, Nat.mul_add]; omega

theorem countUnits_le (f : BaseFreq) : countUnits f ≤ msUnits := by cases f <;> decide

theorem idle_of_due {s : State} (h : dueCommands s ≠ []) : s.idle = { s with pending := dueCommands s } := by
  unfold State.idle
  cases hd : dueCommands s with
  | nil => exact absurd hd h
  | cons => rfl

theorem idle_of_period_over {s : State} (h : dueCommands s = []) (hcount : 199 ≤ s.clock.count) :
    s.idle = { s with pending := [.pwmPeriod] } := by
  have hlast : ¬ s.clock.count < periodCounts - 1 := Nat.not_lt.2 hcount
  simp [State.idle, h, hlast]

theorem idle_of_count {s : State} (h : dueCommands s = []) (hcount : s.clock.count < 199) : s.idle = s.passCount := by
  unfold State.idle
  rw [h]
  exact if_pos hcount

theorem step_of_empty {s : State} (h : s.pending = []) : step s = .next s.idle := by
  unfold step
  rw [h]

/-- Settles O1: the command at the front of the queue is the one that runs. -/
theorem stepRunsTheFrontCommand : Obligations.StepRunsTheFrontCommand := by
  unfold Obligations.StepRunsTheFrontCommand
  intro c rest s h
  unfold step
  rw [h]

/-- Settles O2: the queue of commands and the passing of time. -/
theorem queueAndTime : Obligations.QueueAndTime := by
  unfold Obligations.QueueAndTime
  refine ⟨fun c s t => exec_pending, fun s hs => ⟨fun h => ?_, fun h hcount => ?_, fun h hcount => ?_⟩⟩
  · rw [step_of_empty hs, idle_of_due h]
  · rw [step_of_empty hs, idle_of_period_over h hcount]
  · have hclock : (s.passTime (countUnits s.clock.freq)).clock.count = s.clock.count
        ∧ (s.passTime (countUnits s.clock.freq)).clock.k = s.clock.k
        ∧ (s.passTime (countUnits s.clock.freq)).clock.freq = s.clock.freq
        ∧ (s.passTime (countUnits s.clock.freq)).clock.firstRun = s.clock.firstRun := by
      unfold State.passTime
      dsimp only
      split <;> exact ⟨rfl, rfl, rfl, rfl⟩
    obtain ⟨hc, hk, hfreq, hrun⟩ := hclock
    refine ⟨s.passCount, by rw [step_of_empty hs, idle_of_count h hcount], ?_, congrArg (· + 1) hc, hk, hfreq, hrun, ?_⟩
    · exact (State.passTime_pending s _).trans hs
    · refine (State.passTime_moment s (countUnits_le _)).trans ?_
      cases s.clock.freq <;> rfl

end Sys2Proof.Machine
end

section
/-! SUPPORT. The station after power-on reset: its blocks, and the invariants that it meets. -/

namespace Sys2Proof.Machine

/-! ### The blocks after reset -/

@[simp] theorem State.chan_reset (ch : Chan) : State.reset.chan ch = {} := by cases ch <;> rfl

@[simp] theorem State.input_reset (n : InputNo) : State.reset.input n = {} := by cases n <;> rfl

theorem ClaimSlots.get_empty (k : ClaimClass) : ({} : ClaimSlots).get k = none := by cases k <;> rfl

theorem State.groups_reset : State.reset.groups = List.replicate 64 {} := rfl

/-- Settles O4: POWER_ON_RESET leaves the values of the After reset columns. -/
theorem powerOnResetValues : Obligations.PowerOnResetValues := by
  unfold Obligations.PowerOnResetValues
  intro s
  let t : State := { State.reset with pending := s.pending, freeCount := s.freeCount }
  have hchan (ch : Chan) : t.chan ch = {} := State.chan_reset ch
  have hinput (n : InputNo) : t.input n = {} := State.input_reset n
  have hsampled (ch : Chan) : t.lastSampled ch = 0 := rfl
  refine ⟨t, rfl, rfl, fun ch => ?claims, fun ch => ?motion, fun ch => ?sensing, ?groups, fun n => ?inputs, ?settings,
    ?weather, ?admission, ?monitors, ?line, ?reports, ?clock⟩
  case claims => rw [hchan]; exact ⟨rfl, rfl, rfl, ClaimSlots.get_empty, rfl, rfl⟩
  case motion => rw [hchan]; simp
  case sensing => rw [hsampled, hchan]; decide
  case groups => exact ⟨List.length_replicate, fun e he => List.eq_of_mem_replicate he⟩
  case inputs => rw [hinput]; simp
  case settings | weather | admission | monitors | line | reports | clock => simp [t, State.reset, isEndStation]

/-! ### The invariants after reset -/

theorem channelOk_afterReset : ChannelOk {} := by
  unfold ChannelOk DriveIsOff
  decide

theorem motionOk_reset : MotionOk State.reset := by
  refine ⟨fun ch => ?_, ⟨fun ch => ?_, .nil, nofun⟩, ⟨fun ch => ?_, .nil, nofun, rfl, fun _ => rfl, fun _ => Nat.zero_le _⟩⟩
  · rw [State.chan_reset]; exact channelOk_afterReset
  · rw [State.chan_reset]
    exact ⟨nofun, fun ⟨_, h, _⟩ => nomatch h⟩
  · rw [State.chan_reset]
    exact ⟨nofun, fun ⟨_, h, _⟩ => nomatch h⟩

theorem selectionOk_none (T : Nat) : SelectionOk T {} := ⟨trivial, nofun, nofun⟩

theorem channelRangesOk_afterReset : ChannelRangesOk {} := by
  refine ⟨.inl rfl, fun k claim hk => ?_, nofun, selectionOk_none _, selectionOk_none _, nofun, ?_⟩
  · cases (ClaimSlots.get_empty k).symm.trans hk
  · decide

theorem rangesOk_reset : RangesOk State.reset := by
  refine ⟨fun ch => ?_, fun n => ?_, by decide, List.length_replicate, fun e he => ?_, ?_, by decide, by decide, by decide⟩
  · rw [State.chan_reset]; exact channelRangesOk_afterReset
  · rw [State.input_reset]; exact ⟨by decide, nofun⟩
  · rw [List.eq_of_mem_replicate he]; exact Nat.zero_le _
  · exact ⟨by decide, by decide, nofun, nofun, by decide⟩

theorem airingOk_reset : AiringOk State.reset := fun ch => by rw [State.chan_reset]; rfl

theorem fallbackOk_reset : FallbackOk State.reset := fun _ ch => by rw [State.chan_reset]

theorem lineOk_reset : LineOk State.reset :=
  ⟨by decide, by decide, by decide, by decide, by decide, fun _ => ⟨rfl, rfl⟩, fun _ => ⟨rfl, rfl, rfl⟩, nofun, .inl rfl,
    nofun, nofun⟩

/-- Settles O60: the machine after reset meets every invariant that the steps keep. -/
theorem resetMeetsTheInvariants : Obligations.ResetMeetsTheInvariants :=
  ⟨groupsOk_reset, airingOk_reset, fallbackOk_reset, motionOk_reset, rangesOk_reset, ReportsOk.reset, lineOk_reset⟩

end Sys2Proof.Machine
end

section
/-! SUPPORT. The claims of every channel, the airing records and the line state through every step (R130, Table 0.2). -/

namespace Sys2Proof.Machine

/-- A law of the line state, a channel's slots and its airing record that every change of claims keeps. -/
structure ClaimLaw (R : Bool → ClaimSlots → Option AiringRecord → Prop) : Prop where
  drop {l : Bool} {s : ClaimSlots} {a : Option AiringRecord} (k : ClaimClass) :
    R l s a → R l (s.set k none) (if k = .airing then none else a)
  store {l : Bool} {s : ClaimSlots} {a : Option AiringRecord} (k : ClaimClass) (c : Claim) (r : AiringRecord) :
    k ≠ .fallback ∨ l = true → R l s a → R l (s.set k (some c)) (if k = .airing then some r else a)
  map {l : Bool} {s : ClaimSlots} {a : Option AiringRecord} (f : Claim → Claim) (g : AiringRecord → AiringRecord) :
    R l s a → R l (s.map f) (a.map g)
  rewrite {l : Bool} {s : ClaimSlots} {a b : AiringRecord} (f : Claim → Claim) :
    R l s (some a) → R l { s with airing := s.airing.map f } (some b)
  reset {l : Bool} {s : ClaimSlots} {a : Option AiringRecord} : R l s a → R l { smoke := s.smoke } none
  lost {l : Bool} {s : ClaimSlots} {a : Option AiringRecord} : R l s a → R true s a
  restored {l : Bool} {s : ClaimSlots} {a : Option AiringRecord} : R l s a → s.fallback = none → R false s a
  empty : R false {} none

/-- The law holds on every channel. -/
def State.Claims (R : Bool → ClaimSlots → Option AiringRecord → Prop) (s : State) : Prop :=
  ∀ ch, R s.line.lost (s.chan ch).slots (s.chan ch).airing

namespace State.Claims

variable {R : Bool → ClaimSlots → Option AiringRecord → Prop} {s u : State} {ch : Chan}

theorem of_kept (h : s.Claims R) (hclaims : KeepsClaims s u) (hline : u.line.lost = s.line.lost) : u.Claims R := by
  intro d
  obtain ⟨-, hslots, hairing⟩ := hclaims d
  rw [hline, hslots, hairing]
  exact h d

theorem of_chans (h : s.Claims R) (hchans : u.chans = s.chans) (hline : u.line.lost = s.line.lost) : u.Claims R :=
  h.of_kept (fun d => by simp [State.chan_congr hchans d]) hline

theorem modChan {f : Channel → Channel} (h : s.Claims R)
    (hf : R s.line.lost (f (s.chan ch)).slots (f (s.chan ch)).airing) : (s.modChan ch f).Claims R := by
  intro d
  by_cases hd : d = ch
  · subst hd; simpa using hf
  · rw [State.chan_modChan_ne s f hd]; exact h d

theorem mapChans {f : Channel → Channel} (h : s.Claims R)
    (hf : ∀ c, R s.line.lost c.slots c.airing → R s.line.lost (f c).slots (f c).airing)
    (hchans : u.chans = s.chans.map f) (hline : u.line.lost = s.line.lost) : u.Claims R := by
  intro d
  rw [hline, State.chan, hchans, PerChan.get_map]
  exact hf _ (h d)

end State.Claims

theorem Channel.slots_writeProfile (c : Channel) (p : Profile) :
    (c.writeProfile p).slots = c.slots ∨ (c.writeProfile p).slots = c.slots.map (Claim.reclamp p.travel) := by
  unfold Channel.writeProfile
  dsimp only
  split
  · exact .inl rfl
  · exact .inr rfl

namespace ClaimLaw

variable {R : Bool → ClaimSlots → Option AiringRecord → Prop} (k : ClaimLaw R) {s : State}
include k

/-- What LINE_LOST makes of a channel's slots is three removals and a FALLBACK claim (R17). -/
theorem loseLine {c : Channel} (h : R true c.slots c.airing) : R true c.loseLine.slots c.loseLine.airing := by
  have dropped := k.drop .airing (k.drop .comfort h)
  have placed {d : Channel} (hd : R true d.slots d.airing) :
      R true (d.putClaim .fallback (fallbackClaim c)).slots (d.putClaim .fallback (fallbackClaim c)).airing :=
    k.store .fallback (fallbackClaim c) (airingOf []) (.inr rfl) hd
  unfold Channel.loseLine
  dsimp only
  split <;> split
  · exact k.drop .manual dropped
  · exact dropped
  · exact placed (d := ((c.dropClaim .comfort).dropClaim .airing).dropClaim .manual) (k.drop .manual dropped)
  · exact placed (d := (c.dropClaim .comfort).dropClaim .airing) dropped

theorem writeProfile {l : Bool} {c : Channel} {p : Profile} (h : R l c.slots c.airing) :
    R l (c.writeProfile p).slots (c.writeProfile p).airing := by
  have mapped := k.map (Claim.reclamp p.travel) id h
  rw [Option.map_id_apply] at mapped
  rcases c.slots_writeProfile p with hslots | hslots <;> rw [hslots]
  · exact h
  · exact mapped

/-- LINE_OK takes every FALLBACK claim away (R19). -/
theorem lineOk (h : s.Claims R) : s.lineOk.Claims R := by
  obtain ⟨-, -, hline, -, hhit, hmiss, -⟩ :=
    State.removeWhere_spec { s with line := { s.line with lost := false } } .fallback (fun _ => true)
  intro d
  unfold State.lineOk State.claimsLineOk
  rw [State.post_chan, State.post_eq]
  dsimp only
  rw [hline]
  by_cases hd : ∃ c, (s.chan d).slots.get .fallback = some c ∧ (fun _ : Claim => true) c = true
  · obtain ⟨-, hslots, hairing⟩ := hhit d hd
    rw [hslots, hairing]
    exact k.restored (k.drop .fallback (h d)) rfl
  · rw [hmiss d hd]
    refine k.restored (h d) (Option.eq_none_iff_forall_ne_some.2 fun c hc => hd ⟨c, hc, rfl⟩)

theorem lineLost (h : s.Claims R) : s.lineLost.Claims R := by
  have placed : State.Claims R { s with line := { s.line with lost := true }, chans := s.chans.map Channel.loseLine } := by
    intro d
    rw [State.chan, PerChan.get_map]
    exact k.loseLine (k.lost (h d))
  have rest := State.retargetAll_spec (allChans.filter (fun c =>
    (s.chan c).motion.state != .disabled || (s.chan c).loseLine.slots != (s.chan c).slots))
    { s with line := { s.line with lost := true }, chans := s.chans.map Channel.loseLine }
  obtain ⟨hrest, hclaims, -⟩ := rest
  have targeted := placed.of_kept hclaims (by rw [hrest])
  unfold State.lineLost
  exact targeted.of_chans (by simp [State.claimsLineLost, State.chan]) (by rw [State.post_eq]; rfl)

theorem passTime (h : s.Claims R) (units : Nat) : (s.passTime units).Claims R := by
  unfold State.passTime
  dsimp only
  split
  · exact h
  · exact h.mapChans (f := Channel.tick) (fun c hc => k.map _ _ hc) rfl rfl

omit k in
theorem boundary (h : s.Claims R) : s.boundary.Claims R :=
  h.mapChans (f := fun c => { c with drive := { c.drive with legs := legsAtBoundary c.drive.legs } }) (fun _ hc => hc) rfl rfl

omit k in
theorem startPeriod (h : s.Claims R) : s.startPeriod.Claims R :=
  h.mapChans (f := fun c => { c with drive := { c.drive with
    legs := legsAtPeriod c.drive.level ((s.clock.k + 1) % 256) c.drive.legs } }) (fun _ hc => hc) rfl rfl

theorem restOfPeriod (h : s.Claims R) : s.restOfPeriod.Claims R :=
  KeptInside.choice (boundary (boundary (k.passTime h _))) (boundary (k.passTime h _))

theorem passCount (h : s.Claims R) : s.passCount.Claims R := boundary (k.passTime h _)

/-- A law of the claims is kept by every step. -/
theorem keptBySteps : KeptBySteps (State.Claims R) where
  motion e h := h.of_kept e.actsOn.2.2 (congrArg _ e.actsOn.1.fields.2.2.2.2.2.2.2.2.1)
  finish {b s} h := by
    have hfinish := StartsAndSheds.finish b s
    exact h.of_kept hfinish.2.1 (by rw [hfinish.1])
  reports h := h
  dropClaim h := h.modChan (k.drop _ (h _))
  storeClaim {s} l cls claim air hl hcls _ h := by
    obtain ⟨hrest, hchan⟩ := State.foldl_modChan (Channel.storeClaim cls claim air) l hl s
    intro d
    rw [hchan d, hrest]
    dsimp only
    split
    · exact k.store cls _ air (.inl hcls) (h d)
    · exact h d
  rewriteAiring {s ch a b} hair _ h := h.modChan (by have := h ch; rw [hair] at this; exact k.rewrite _ this)
  weather _ h := h
  input _ h := h
  group _ h := h
  supply _ _ h := h
  changeSupply h := h.of_kept (State.Rebudgets.changeSupply ..).2 (by rw [(State.Rebudgets.changeSupply ..).fields.2.1])
  firstSupply h := h.of_kept (State.Rebudgets.firstSupply ..).2 (by rw [(State.Rebudgets.firstSupply ..).fields.2.1])
  measureThermal h := h.of_kept (State.Rebudgets.measureThermal ..).2 (by rw [(State.Rebudgets.measureThermal ..).fields.2.1])
  writeSettings _ h := h.of_kept (State.Rebudgets.writeSettings ..).2 (by rw [(State.Rebudgets.writeSettings ..).fields.2.1])
  writeProfile {s ch p} _ _ h := by
    have written : (s.modChan ch (fun c => c.writeProfile p)).Claims R := h.modChan (k.writeProfile (h ch))
    have hacts := ActsOn.retarget ch (s.modChan ch (fun c => c.writeProfile p))
    exact written.of_kept hacts.2.2 (by rw [hacts.1])
  resetClaims h := h.mapChans (fun _ hc => k.reset hc) rfl rfl
  line hl h := h.of_chans rfl hl
  freshStart h := h
  freeCount h := h
  lineOk h := k.lineOk h
  lineLost h := k.lineLost h
  stagger {s} h := by
    have hstarts := StartsAndSheds.evaluateAdmission { s with admission := { s.admission with stagger := none } }
    exact h.of_kept hstarts.2.1 (by rw [hstarts.1])
  period h := startPeriod (k.restOfPeriod h)
  reset _ := fun d => by
    have hreset : R false (State.reset.chan d).slots (State.reset.chan d).airing := by rw [State.chan_reset]; exact k.empty
    exact hreset
  pending h := h
  passCount _ h := k.passCount h

end ClaimLaw

/-! ### The two laws -/

/-- An airing record stands exactly beside a claim in the rank-6 slot (R130). -/
theorem claimLaw_airing : ClaimLaw (fun _ s a => a.isSome = s.airing.isSome) where
  drop k h := by cases k <;> first | rfl | exact h
  store k c r _ h := by cases k <;> first | rfl | exact h
  map f g h := by simpa [ClaimSlots.map] using h
  rewrite f h := by simpa using h
  reset _ := rfl
  lost h := h
  restored h _ := h
  empty := rfl

/-- FALLBACK claims stand only while the line is lost (Table 0.2). -/
theorem claimLaw_fallback : ClaimLaw (fun l s _ => l = false → s.fallback = none) where
  drop k h hl := by cases k <;> first | rfl | exact h hl
  store k c r hk h hl := by
    cases k with
    | fallback => rcases hk with hk | hk
                  · exact absurd rfl hk
                  · rw [hl] at hk; cases hk
    | smoke | service | manual | comfort | airing => exact h hl
  map f g h hl := by simp [ClaimSlots.map, h hl]
  rewrite f h hl := h hl
  reset _ _ := rfl
  lost _ hl := nomatch hl
  restored _ h _ := h
  empty _ := rfl

/-- Settles O20: every step keeps airing records with AIRING claims, and FALLBACK claims inside line loss. Both are laws of a
channel's claims, which the steps change in the few ways of `ClaimLaw`. -/
theorem claimInvariants : Obligations.ClaimInvariants := by
  unfold Obligations.ClaimInvariants
  refine ⟨fun s t h => claimLaw_airing.keptBySteps.step h, fun s t h hx hl ch => ?_⟩
  exact claimLaw_fallback.keptBySteps.step (s := s) (fun d hd => h hd d) hx ch hl

end Sys2Proof.Machine
end

section
/-! SUPPORT. The line interface through every step (Table 9.1): what the ports, the queues and the transmitters keep, and the blocks
behind them, which leave it alone. -/

namespace Sys2Proof.Machine

/-! ### The blocks behind the line interface leave it alone -/

theorem keptInside_line (l : Line) : KeptInside (fun s => s.line = l) where
  motion e h := e.actsOn.1.fields.2.2.2.2.2.2.2.2.1.trans h
  finish h := (State.finish_line ..).trans h
  reports h := h
  dropClaim h := h
  storeClaim hl _ _ h := by rw [(State.foldl_modChan _ _ hl _).1]; exact h
  rewriteAiring _ _ h := h
  weather _ h := h
  input _ h := h
  group _ h := h
  supply _ _ h := h
  changeSupply h := (State.Rebudgets.changeSupply ..).fields.2.1.trans h
  firstSupply h := (State.Rebudgets.firstSupply ..).fields.2.1.trans h
  measureThermal h := (State.Rebudgets.measureThermal ..).fields.2.1.trans h
  writeSettings _ h := (State.Rebudgets.writeSettings ..).fields.2.1.trans h
  writeProfile _ _ h := (ActsOn.retarget ..).1.fields.2.2.2.2.2.2.2.2.1.trans h
  resetClaims h := h
  stagger h := (StartsAndSheds.evaluateAdmission _).fields.2.2.2.2.2.2.2.2.1.trans h

theorem exec_line_of_isInside {c : Instr} {s t : State} (hc : isInside c = true) (h : exec c s = .next t) : t.line = s.line :=
  (keptInside_line s.line).exec hc rfl h

@[simp] theorem State.lineOk_line (s : State) : s.lineOk.line = { s.line with lost := false } := by
  obtain ⟨-, -, hline, -⟩ := State.removeWhere_spec { s with line := { s.line with lost := false } } .fallback fun _ => true
  rw [State.lineOk, State.post_line, State.claimsLineOk, hline]

@[simp] theorem State.lineLost_line (s : State) : s.lineLost.line = { s.line with lost := true } := by
  rw [State.lineLost, State.post_line, State.claimsLineLost, (State.retargetAll_spec _ _).1.fields.2.2.2.2.2.2.2.2.1]

@[simp] theorem State.passTime_line (s : State) (units : Nat) :
    (s.passTime units).line = { s.line with watchdog := (s.passTime units).line.watchdog } := by
  unfold State.passTime
  dsimp only
  split <;> rfl

/-! ### The line interface alone -/

/-- The law of the line interface, clause by clause (Table 9.1, R143, R144, R150, R153, R154). -/
structure Line.Ok (l : Line) : Prop where
  down : l.downQueue.length + (if l.uRx = some .underReady then 1 else 0) ≤ 4
  up : l.upQueue.length + (if l.dRx = some .underReady then 1 else 0) ≤ 8
  run : l.forwardedRun ≤ 4
  number : l.reportNumber < 65536
  station : l.station ≤ 32
  uDown : l.uUp = false → l.uRx = none ∧ l.uTx = none
  dDown : l.dUp = false → l.dRx = none ∧ l.dSending = false ∧ l.downQueue = []
  sending : l.dSending = true → l.downQueue ≠ []
  oneTx : l.uTx = none ∨ l.uCut = none
  tx : ∀ t, l.uTx = some t → TxOk l t
  cut : ∀ t, l.uCut = some t → TxOk l t

theorem lineOk_iff {s : State} : LineOk s ↔ s.line.Ok :=
  ⟨fun ⟨h1, h2, h3, h4, h5, h6, h7, h8, h9, h10, h11⟩ => ⟨h1, h2, h3, h4, h5, h6, h7, h8, h9, h10, h11⟩,
    fun ⟨h1, h2, h3, h4, h5, h6, h7, h8, h9, h10, h11⟩ => ⟨h1, h2, h3, h4, h5, h6, h7, h8, h9, h10, h11⟩⟩

/-- A frame in transmission stays in its queue or slot while frames join behind it. -/
theorem TxOk.append {l : Line} {t : TxFrame} (h : TxOk l t) (f : Frame) : TxOk { l with upQueue := l.upQueue ++ [f] } t := by
  unfold TxOk at *
  split at h
  · dsimp only; rw [List.head?_append, h]; rfl
  · exact h
  · exact h

/-- A REPLY enters an empty slot, of which nothing is in transmission. -/
theorem TxOk.reply {l : Line} {t : TxFrame} (hl : l.reply = none) (h : TxOk l t) (f : Frame) :
    TxOk { l with reply := some f } t := by
  unfold TxOk at *
  split at h
  · exact h
  · rw [hl] at h; cases h
  · exact h

namespace Line.Ok

variable {l : Line}

/-- The watchdog, the line state and the line error indicator stand beside the law. -/
theorem beside (h : l.Ok) (watchdog : Nat) (lost error : Bool) :
    Line.Ok { l with watchdog := watchdog, lost := lost, lineError := error } :=
  ⟨h.down, h.up, h.run, h.number, h.station, h.uDown, h.dDown, h.sending, h.oneTx, h.tx, h.cut⟩

theorem endReceptionU (h : l.Ok) (error : Bool) : Line.Ok { l with uRx := none, lineError := error } where
  __ := h
  down := by have := h.down; simp only [reduceCtorEq, if_false]; omega
  uDown hu := ⟨rfl, (h.uDown hu).2⟩

theorem endReceptionD (h : l.Ok) (error : Bool) : Line.Ok { l with dRx := none, lineError := error } where
  __ := h
  up := by have := h.up; simp only [reduceCtorEq, if_false]; omega
  dDown hd := ⟨rfl, (h.dDown hd).2⟩

/-- An ECHO joins the upstream forward queue of an end station, or finds it full (R151, R153). -/
theorem echo (h : l.Ok) (hd : l.dUp = false) (f : Frame) :
    Line.Ok (if l.upQueue.length < upPlaces then { l with upQueue := l.upQueue ++ [f] } else { l with lineError := true }) := by
  split
  · rename_i hroom
    refine { h with
      up := ?_
      tx := fun t ht => (h.tx t ht).append f
      cut := fun t ht => (h.cut t ht).append f }
    unfold upPlaces at hroom
    simp only [(h.dDown hd).1, reduceCtorEq, if_false, List.length_append, List.length_singleton]
    omega
  · exact h.beside _ _ _

/-- A frame to be forwarded takes a free place in the downstream queue. -/
theorem forward (h : l.Ok) (hroom : l.downQueue.length < 4) (hrx : l.uRx = none) (hd : l.dUp = true) (f : DownFrame) :
    Line.Ok { l with downQueue := l.downQueue ++ [f] } where
  __ := h
  down := by
    simp only [hrx, reduceCtorEq, if_false, List.length_append, List.length_singleton]
    omega
  dDown hdown := by rw [hd] at hdown; cases hdown
  sending _ := by simp

end Line.Ok

/-! ### Ports and reception (R143, R144) -/

theorem readyU_place {s : State} (h : readyU s = true) : s.line.downQueue.length + heldPlaces s.line.uRx < 4 := by
  simp only [readyU, Bool.and_eq_true, decide_eq_true_eq] at h
  exact h.1.2

theorem readyD_place {s : State} (h : readyD s = true) : s.line.upQueue.length + heldPlaces s.line.dRx < 8 := by
  simp only [readyD, Bool.and_eq_true, decide_eq_true_eq] at h
  exact h.2

/-- A frame begun under an active ready output takes the place that the output stood for; one begun against the handshake takes
none. -/
theorem places_of_ready {n places : Nat} {rx : Option Reception} {ready : Bool}
    (h : n + (if rx = some .underReady then 1 else 0) ≤ places) (hready : ready = true → n + heldPlaces rx < places)
    (hrx : rx = none) : n + (if some (receptionOf ready) = some Reception.underReady then 1 else 0) ≤ places := by
  subst hrx
  cases ready with
  | true => exact hready rfl
  | false => exact h

namespace LineOk

variable {s : State}

theorem of_line {u : State} (h : LineOk s) (hu : u.line = s.line) : LineOk u := by
  rw [lineOk_iff] at *; rw [hu]; exact h

theorem firstByte (h : LineOk s) (p : Port) : LineOk (s.firstByte p) := by
  have ok := lineOk_iff.1 h
  cases p with
  | uPort =>
    simp only [State.firstByte]
    split
    · rename_i hrx
      simp only [Bool.and_eq_true, Option.isNone_iff_eq_none] at hrx
      refine lineOk_iff.2 { ok with down := ?_, uDown := fun hu => by rw [show s.line.uUp = false from hu] at hrx; cases hrx.1 }
      exact places_of_ready ok.down readyU_place hrx.2
    · exact h
  | dPort =>
    simp only [State.firstByte]
    split
    · rename_i hrx
      simp only [Bool.and_eq_true, Option.isNone_iff_eq_none] at hrx
      refine lineOk_iff.2 { ok with up := ?_, dDown := fun hd => by rw [show s.line.dUp = false from hd] at hrx; cases hrx.1 }
      exact places_of_ready ok.up readyD_place hrx.2
    · exact h

theorem discardFrame (h : LineOk s) (p : Port) : LineOk (s.discardFrame p) := by
  have ok := lineOk_iff.1 h
  cases p with
  | uPort => exact lineOk_iff.2 (ok.endReceptionU true)
  | dPort => exact lineOk_iff.2 (ok.endReceptionD true)

theorem endBadFrame (h : LineOk s) (p : Port) (bytes : List Byte) (byteError : Bool) :
    LineOk (s.endBadFrame p bytes byteError) :=
  KeptInside.choice (KeptInside.choice ((h.firstByte p).discardFrame p) h) h

end LineOk

/-- Once the first byte of a frame has come on a port that is UP, a frame is in reception. -/
theorem State.firstByte_uRx {s : State} (h : s.line.uUp = true) : ∃ r, (s.firstByte .uPort).line.uRx = some r := by
  simp only [State.firstByte, h, Bool.true_and]
  cases hrx : s.line.uRx with
  | none => exact ⟨_, rfl⟩
  | some r => exact ⟨r, hrx⟩

theorem State.firstByte_dRx {s : State} (h : s.line.dUp = true) : ∃ r, (s.firstByte .dPort).line.dRx = some r := by
  simp only [State.firstByte, h, Bool.true_and]
  cases hrx : s.line.dRx with
  | none => exact ⟨_, rfl⟩
  | some r => exact ⟨r, hrx⟩

theorem Reception.eq_underReady {r : Reception} (h : r ≠ .againstHandshake) : r = .underReady := by
  cases r with
  | underReady => rfl
  | againstHandshake => exact absurd rfl h

namespace LineOk

variable {s : State}

theorem acceptUpstream (h : LineOk s) (f : Frame) : LineOk (s.acceptUpstream f) := by
  unfold State.acceptUpstream
  dsimp only
  split
  · rename_i hup
    have first := h.firstByte .dPort
    have ok := lineOk_iff.1 first
    obtain ⟨r, hr⟩ := State.firstByte_dRx hup
    split
    · exact first.discardFrame .dPort
    · rename_i hgood
      simp only [hr, Bool.or_eq_true, decide_eq_true_eq, Option.some.injEq, not_or] at hgood
      have hqueue := ok.up
      rw [hr, Reception.eq_underReady hgood.1] at hqueue
      refine lineOk_iff.2 { ok with
        up := ?_
        dDown := fun hd => ⟨rfl, (ok.dDown hd).2⟩
        tx := fun t ht => (ok.tx t ht).append f
        cut := fun t ht => (ok.cut t ht).append f }
      simp only [if_true] at hqueue
      simp only [reduceCtorEq, if_false, List.length_append, List.length_singleton]
      omega
  · exact h

theorem pushEcho (h : LineOk s) (hd : s.line.dUp = false) (f : Frame) : LineOk (s.pushEcho f) := by
  have := (lineOk_iff.1 h).echo hd (echoOf s.line.station f)
  unfold State.pushEcho
  rw [lineOk_iff]
  split at this <;> rename_i hroom
  · rw [if_pos hroom]; exact this
  · rw [if_neg hroom]; exact this

theorem uPortDown (h : LineOk s) : LineOk s.uPortDown := by
  have ok := lineOk_iff.1 h
  unfold State.uPortDown
  split
  · have hdown := ok.down
    refine lineOk_iff.2 { ok with
      down := ?_, uDown := fun _ => ⟨rfl, rfl⟩, oneTx := .inl rfl, tx := nofun, cut := fun t ht => ?_ }
    · simp only [reduceCtorEq, if_false]; omega
    · rcases Option.or_eq_some_iff.1 ht with ht | ⟨-, ht⟩
      · exact ok.tx t ht
      · exact ok.cut t ht
  · exact h

/-- The ECHOs of a D-port that goes DOWN join the queue of a station that has become the end station. -/
theorem dPortDown (h : LineOk s) : LineOk s.dPortDown := by
  have ok := lineOk_iff.1 h
  unfold State.dPortDown
  dsimp only
  split
  · have hdown := ok.down
    have hqueue := ok.up
    have emptied : LineOk { s with line := { s.line with
        dUp := false, dRx := none, lineError := s.line.lineError || s.line.dRx.isSome, dSending := false, downQueue := [] } } := by
      refine lineOk_iff.2 { ok with
        down := ?_, up := ?_, dDown := fun _ => ⟨rfl, rfl, rfl⟩, sending := nofun }
      · simp only [List.length_nil]; omega
      · simp only [reduceCtorEq, if_false]; omega
    refine (List.foldlRecOn _ _ (motive := fun u : State => LineOk u ∧ u.line.dUp = false) ⟨emptied, rfl⟩
      fun u ⟨hu, hd⟩ f _ => ⟨hu.pushEcho hd f.frame, ?_⟩).1
    unfold State.pushEcho
    split <;> exact hd
  · exact h

theorem portUp (h : LineOk s) (p : Port) :
    LineOk (match p with
      | .uPort => { s with line := { s.line with uUp := true } }
      | .dPort => { s with line := { s.line with dUp := true } }) := by
  have ok := lineOk_iff.1 h
  cases p with
  | uPort => exact lineOk_iff.2 { ok with uDown := nofun }
  | dPort => exact lineOk_iff.2 { ok with dDown := nofun }

end LineOk

/-! ### Transmission (R146, R150, R154 to R156) -/

namespace LineOk

variable {s : State}

theorem transmitStart (h : LineOk s) (ready : Bool) {t : State} (hx : exec (.dPortTransmitStart ready) s = .next t) :
    LineOk t := by
  have ok := lineOk_iff.1 h
  refine KeptInside.of_next (P := LineOk) hx ?_
  split
  · rename_i hstart
    simp only [Bool.and_eq_true, Bool.not_eq_true', List.isEmpty_eq_false_iff] at hstart
    obtain ⟨⟨⟨hup, -⟩, -⟩, hqueue⟩ := hstart
    exact lineOk_iff.2 { ok with
      sending := fun _ => hqueue, dDown := fun hd => by rw [show s.line.dUp = false from hd] at hup; cases hup }
  · exact h

theorem downSent (h : LineOk s) {t : State} (hx : exec .dPortFrameSent s = .next t) : LineOk t := by
  have ok := lineOk_iff.1 h
  refine KeptInside.of_next (P := LineOk) hx ?_
  split
  · rename_i hsending
    refine lineOk_iff.2 { ok with down := ?_, dDown := fun hd => ?_, sending := nofun }
    · have := ok.down
      simp only [List.length_tail]
      omega
    · rw [(ok.dDown hd).2.1] at hsending; cases hsending
  · exact h

theorem sendReport (h : LineOk s) (hup : s.line.uUp = true) (hcut : s.line.uCut = none) : LineOk s.sendReport := by
  have ok := lineOk_iff.1 h
  exact lineOk_iff.2 { ok with
    run := Nat.zero_le _
    number := Nat.mod_lt _ (by decide)
    uDown := fun hu => by rw [show s.line.uUp = false from hu] at hup; cases hup
    oneTx := .inr hcut
    tx := by rintro t ⟨⟩; trivial }

theorem chooseFrame (h : LineOk s) (hup : s.line.uUp = true) : LineOk s.chooseFrame := by
  have ok := lineOk_iff.1 h
  have uDown : s.line.uUp = false → ∀ (p : Prop), p := fun hu => by rw [hu] at hup; cases hup
  unfold State.chooseFrame
  split
  · rename_i t hcut
    exact lineOk_iff.2 { ok with
      uDown := fun hu => uDown hu _, oneTx := .inr rfl, tx := by rintro u ⟨⟩; exact ok.cut t hcut, cut := nofun }
  · rename_i r hcut hreply
    exact lineOk_iff.2 { ok with
      uDown := fun hu => uDown hu _, oneTx := .inr hcut, tx := by rintro u ⟨⟩; exact hreply }
  · rename_i hcut hreply
    split
    · exact h.sendReport hup hcut
    · split
      · rename_i f fs hqueue
        exact lineOk_iff.2 { ok with
          run := Nat.min_le_left ..
          uDown := fun hu => uDown hu _, oneTx := .inr hcut
          tx := by rintro u ⟨⟩; exact congrArg List.head? hqueue }
      · split
        · exact h
        · exact h.sendReport hup hcut

theorem frameSent (h : LineOk s) : LineOk s.frameSent := by
  have ok := lineOk_iff.1 h
  unfold State.frameSent
  split
  · exact h
  · rename_i t htx
    have hcut : s.line.uCut = none := ok.oneTx.resolve_left (by rw [htx]; nofun)
    have uDown (hu : s.line.uUp = false) := (ok.uDown hu).1
    split
    · exact lineOk_iff.2 { ok with
        uDown := fun hu => ⟨uDown hu, rfl⟩, oneTx := .inl rfl, tx := nofun, cut := by simp [hcut] }
    · refine lineOk_iff.2 { ok with
        up := ?_, uDown := fun hu => ⟨uDown hu, rfl⟩, oneTx := .inl rfl, tx := nofun, cut := by simp [hcut] }
      have := ok.up
      simp only [List.length_tail]
      omega
    · exact lineOk_iff.2 { ok with uDown := fun hu => ⟨uDown hu, rfl⟩, oneTx := .inl rfl, tx := nofun }

end LineOk

/-! ### An accepted frame (R146, R157) -/

/-- The line interface once a frame's reception has ended: it meets its law, with a place left for the frame. -/
structure Line.Room (l : Line) : Prop extends l.Ok where
  place : l.downQueue.length < 4
  ended : l.uRx = none

namespace Line.Room

variable {l : Line}

theorem beside (h : l.Room) (watchdog : Nat) (lost error : Bool) :
    Line.Room { l with watchdog := watchdog, lost := lost, lineError := error } :=
  ⟨h.toOk.beside _ _ _, h.place, h.ended⟩

theorem numbered (h : l.Room) {n : Nat} (hn : n ≤ 32) : Line.Room { l with station := n } :=
  ⟨{ h.toOk with station := hn }, h.place, h.ended⟩

theorem answer (h : l.Room) (hreply : l.reply = none) (f : Frame) : Line.Room { l with reply := some f } :=
  ⟨{ h.toOk with tx := fun t ht => (h.tx t ht).reply hreply f, cut := fun t ht => (h.cut t ht).reply hreply f }, h.place, h.ended⟩

end Line.Room

/-- What a frame's act makes of the line interface leaves the frame its place. -/
def ActsInRoom (act : State → State × Fate) : Prop := ∀ u : State, u.line.Room → (act u).1.line.Room

theorem ActsInRoom.of_line {act : State → State × Fate} (h : ∀ u : State, (act u).1.line = u.line) : ActsInRoom act :=
  fun u hu => by rw [h u]; exact hu

theorem LineOk.dispose {s : State} (h : s.line.Room) (fate : Fate) : LineOk (s.dispose fate) := by
  cases fate with
  | gone => exact lineOk_iff.2 h.toOk
  | forward f acted =>
    unfold State.dispose isEndStation
    dsimp only
    by_cases hd : s.line.dUp = true
    · rw [if_neg (by simp [hd])]
      exact lineOk_iff.2 (h.toOk.forward h.place h.ended hd _)
    · rw [if_pos (by simp [hd])]
      exact KeptInside.choice (LineOk.pushEcho (lineOk_iff.2 h.toOk) (Bool.eq_false_iff.2 hd) f) (lineOk_iff.2 h.toOk)

namespace ActsInRoom

variable {act : State → State × Fate} (hact : ActsInRoom act) {s : State}
include hact

theorem hear (h : s.line.Room) : LineOk (s.hear act) :=
  (LineOk.dispose (hact s h) _).of_line (State.finish_line ..)

theorem hearInLost (h : s.line.Room) : LineOk (s.hearInLost act) := by
  have ordered : s.freeOrder.2.line.Room := h
  refine KeptInside.choice (hact.hear ?_) ?_
  · rw [State.restoreLine_line]; exact ordered.beside _ _ _
  · have heard := lineOk_iff.1 (hact.hear ordered)
    rw [lineOk_iff, State.restoreLine_line]
    exact heard.beside _ _ _

theorem accept (h : LineOk s) (p : List Byte) : LineOk (s.accept p act) := by
  unfold State.accept
  dsimp only
  split
  · rename_i hup
    have first := h.firstByte .uPort
    obtain ⟨r, hr⟩ := State.firstByte_uRx hup
    split
    · exact first.discardFrame .uPort
    · rename_i hgood
      simp only [hr, Bool.or_eq_true, decide_eq_true_eq, Option.some.injEq, not_or] at hgood
      have ok := lineOk_iff.1 first
      have hdown := ok.down
      rw [hr, Reception.eq_underReady hgood.1] at hdown
      simp only [if_true] at hdown
      have room : ((s.firstByte .uPort).line.heard (s.firstByte .uPort).settings).Room :=
        ⟨(ok.endReceptionU false).beside _ _ _, by simp only [Line.heard]; omega, rfl⟩
      exact KeptInside.choice (hact.hearInLost room) (hact.hear room)
  · exact h

end ActsInRoom

/-! ### The acts of the frames -/

theorem actsInRoom_demand (f : Frame) : ActsInRoom (actDemand f) := .of_line fun u => by
  unfold actDemand
  dsimp only
  split
  · exact (keptInside_line u.line).placeDemand rfl
  · rfl

theorem actsInRoom_release (f : Frame) : ActsInRoom (actRelease f) := .of_line fun u => by
  unfold actRelease
  dsimp only
  split
  · exact (keptInside_line u.line).releaseClaims rfl
  · rfl

theorem actsInRoom_weather (f : Frame) : ActsInRoom (actWeather f) := .of_line fun u =>
  KeptInside.choice (P := fun v => v.line = u.line) ((keptInside_line u.line).weatherEvent
    ((keptInside_line u.line).takeWeather rfl)) rfl

theorem actsInRoom_enumerate (f : Frame) : ActsInRoom (actEnumerate f) := by
  intro u hu
  unfold actEnumerate
  dsimp only
  split
  · split
    · rename_i hnumber
      exact hu.numbered hnumber.2
    · exact hu.numbered (Nat.zero_le _)
  · exact hu

/-- An addressed frame is answered when the reply slot is empty, and what it performs leaves the line interface but for the line
error indicator. -/
theorem actsInRoom_addressed (f : Frame) {perform : State → Performed}
    (hperform : ∀ u, (perform u).state.line = { u.line with lineError := (perform u).state.line.lineError }) :
    ActsInRoom (actAddressed f perform) := by
  intro u hu
  unfold actAddressed
  dsimp only
  split
  · exact hu
  · split
    · exact hu
    · rename_i hreply
      have room : (perform u).state.line.Room := by rw [hperform u]; exact hu.beside _ _ _
      refine room.answer ?_ _
      rw [hperform u]
      simpa using hreply

theorem performStatusRead_line (p : List Byte) (u : State) :
    (performStatusRead p u).state.line = { u.line with lineError := (performStatusRead p u).state.line.lineError } := by
  unfold performStatusRead
  dsimp only
  split
  · split
    · rfl
    · split <;> rfl
  · rfl

theorem LineOk.request {s : State} {perform : State → Performed} {kind station : Byte} {tag : Word16} {p : List Byte} (h : LineOk s)
    (hperform : ∀ u, (perform u).state.line = u.line) : LineOk (s.request kind station tag p perform) :=
  (actsInRoom_addressed _ (fun u => by rw [hperform u])).accept h p

/-! ### Every step -/

namespace LineOk

variable {s t : State}

theorem watchdogExpires (h : LineOk s) : LineOk s.watchdogExpires := by
  have ok := lineOk_iff.1 h
  refine KeptInside.choice (KeptInside.choice (lineOk_iff.2 (ok.beside _ _ _)) ?_) h
  rw [lineOk_iff, State.lineLost_line]
  exact ok.beside _ _ _

theorem passTime (h : LineOk s) (units : Nat) : LineOk (s.passTime units) := by
  rw [lineOk_iff, State.passTime_line]
  exact (lineOk_iff.1 h).beside _ _ _

theorem restOfPeriod (h : LineOk s) : LineOk s.restOfPeriod := KeptInside.choice (h.passTime _) (h.passTime _)

theorem exec {c : Instr} (h : LineOk s) (hx : exec c s = .next t) : LineOk t := by
  have request {perform : State → Performed} {kind station : Byte} {tag : Word16} {p : List Byte}
      (hx : (.next (s.request kind station tag p perform) : Host.Outcome State Fault Refusal) = .next t)
      (hperform : ∀ u, (perform u).state.line = u.line) : LineOk t := KeptInside.of_next hx (h.request hperform)
  have inside (u : State) := keptInside_line u.line
  cases c with
  | powerOnReset => exact KeptInside.of_next (P := LineOk) hx (lineOk_reset.of_line rfl)
  | portUp p => exact KeptInside.of_next hx (h.portUp p)
  | portDown p =>
    cases p with
    | uPort => exact KeptInside.of_next hx h.uPortDown
    | dPort => exact KeptInside.of_next hx h.dPortDown
  | frameFirstByte p => exact KeptInside.of_next hx (h.firstByte p)
  | frameDiscarded p => exact KeptInside.of_next hx (h.endBadFrame p ..)
  | upstreamFrameAccepted f => exact KeptInside.of_next hx (h.acceptUpstream f)
  | demand => exact KeptInside.of_next hx ((actsInRoom_demand _).accept h _)
  | release => exact KeptInside.of_next hx ((actsInRoom_release _).accept h _)
  | weather => exact KeptInside.of_next hx ((actsInRoom_weather _).accept h _)
  | enumerate => exact KeptInside.of_next hx ((actsInRoom_enumerate _).accept h _)
  | beacon | unknownKindFrame => exact KeptInside.of_next hx (ActsInRoom.accept (.of_line fun _ => rfl) h _)
  | groupWrite => exact request hx fun u => (inside u).performGroupWrite rfl
  | profileWrite => exact request hx fun u => (inside u).performProfileWrite rfl
  | inputWrite => exact request hx fun u => (inside u).performInputWrite rfl
  | settingsWrite => exact request hx fun u => (inside u).performSettingsWrite rfl
  | tableRead => exact request hx fun u => KeptInside.performTableRead (P := fun v => v.line = u.line) rfl
  | statusRead => exact KeptInside.of_next hx ((actsInRoom_addressed _ (performStatusRead_line _)).accept h _)
  | clearFault => exact request hx fun u => (inside u).performClearFault rfl
  | clearSupply => exact request hx fun u => (inside u).clearSupply rfl
  | stationReset => exact request hx fun u => (inside u).performStationReset rfl
  | dPortTransmitStart ready => exact h.transmitStart ready hx
  | dPortFrameSent => exact h.downSent hx
  | uPortTransmitChoice ready =>
    refine KeptInside.of_next (P := LineOk) hx ?_
    split
    · rename_i hchoice
      simp only [Bool.and_eq_true] at hchoice
      exact h.chooseFrame hchoice.1.1
    · exact h
  | uPortFrameSent => exact KeptInside.of_next hx h.frameSent
  | lineWatchdogExpiry => exact KeptInside.of_next hx (h.watchdogExpires.of_line (State.finish_line ..))
  | pwmPeriod => exact KeptInside.of_next (P := LineOk) hx (h.restOfPeriod.of_line rfl)
  | _ => exact h.of_line (exec_line_of_isInside rfl hx)

theorem idle (h : LineOk s) : LineOk s.idle :=
  KeptInside.choice (KeptInside.choice ((h.passTime _).of_line rfl) (h.of_line rfl)) (h.of_line rfl)

theorem step (h : LineOk s) (hx : step s = .next t) : LineOk t := by
  unfold Sys2Proof.Machine.step at hx
  split at hx
  · exact KeptInside.of_next hx h.idle
  · rename_i rest _
    exact exec (s := { s with pending := rest }) (h.of_line rfl) hx

end LineOk

/-- Settles O59: every step keeps the line interface within its places and counts, command by command. -/
theorem lineInvariant : Obligations.LineInvariant := fun _ _ => LineOk.step

end Sys2Proof.Machine
end

section
/-! SUPPORT. The seats of the channels in the admission unit: what the law of `MotionOk` asks of one channel, and of the queue and the
share holders; and what each operation on one channel's seat leaves of the others'. -/

namespace Sys2Proof.Machine

/-! ### The order of the start queue (R75) -/

theorem chanIndex_injective {a b : Chan} (h : chanIndex a = chanIndex b) : a = b := by
  cases a <;> cases b <;> first | rfl | cases h

theorem queueBefore_iff (a b : QueueEntry) : queueBefore a b = true ↔
    a.rank < b.rank ∨ a.rank = b.rank ∧ (a.time < b.time ∨ a.time = b.time ∧ chanIndex a.chan < chanIndex b.chan) := by
  simp [queueBefore]

theorem queueBefore_trans {a b c : QueueEntry} (hab : queueBefore a b = true) (hbc : queueBefore b c = true) :
    queueBefore a c = true := by
  rw [queueBefore_iff] at *
  omega

/-- Of two channels one stands before the other. -/
theorem queueBefore_of_not {a b : QueueEntry} (hne : a.chan ≠ b.chan) (h : ¬ queueBefore a b = true) : queueBefore b a = true := by
  have hindex : chanIndex a.chan ≠ chanIndex b.chan := fun h => hne (chanIndex_injective h)
  rw [queueBefore_iff] at *
  omega

/-- A start queue: each channel once, in order. -/
abbrev Sorted (l : List QueueEntry) : Prop := l.Pairwise (fun a b => a.chan ≠ b.chan ∧ queueBefore a b = true)

theorem Sorted.dropChan {l : List QueueEntry} (h : Sorted l) (c : Chan) : Sorted (dropChan c l) := h.filter _

theorem Sorted.insertEntry {e : QueueEntry} {l : List QueueEntry} (h : Sorted l) (he : ∀ x ∈ l, x.chan ≠ e.chan) :
    Sorted (insertEntry e l) := by
  induction l with
  | nil => exact List.pairwise_singleton ..
  | cons x xs ih =>
    obtain ⟨hx, hxs⟩ := List.pairwise_cons.1 h
    unfold Sys2Proof.Machine.insertEntry
    split
    · rename_i hbefore
      refine List.pairwise_cons.2 ⟨fun y hy => ⟨(he y hy).symm, ?_⟩, h⟩
      rcases List.mem_cons.1 hy with rfl | hy
      · exact hbefore
      · exact queueBefore_trans hbefore (hx y hy).2
    · rename_i hbefore
      refine List.pairwise_cons.2 ⟨fun y hy => ?_, ih hxs fun y hy => he y (List.mem_cons_of_mem _ hy)⟩
      rcases mem_insertEntry.1 hy with rfl | hy
      · have hne := he x (List.mem_cons_self ..)
        exact ⟨hne, queueBefore_of_not hne.symm hbefore⟩
      · exact hx y hy

theorem findChan_eq_some {c : Chan} {l : List QueueEntry} {e : QueueEntry} (h : findChan c l = some e) : e ∈ l ∧ e.chan = c := by
  have hchan := List.find?_some h
  exact ⟨List.mem_of_find?_eq_some h, by simpa using hchan⟩

theorem findChan_eq_none {c : Chan} {l : List QueueEntry} (h : findChan c l = none) : ∀ e ∈ l, e.chan ≠ c := by
  simpa [findChan] using h

/-! ### The law of the share holders (R76) -/

/-- The law of R76 for the share holders under the budget `b`. -/
structure HoldersLaw (b : Nat) (l : List QueueEntry) : Prop where
  none : b = 0 → l = []
  total : 2 ≤ l.length → totalWeight l ≤ b

/-- Fewer holders meet the law too. -/
theorem HoldersLaw.of_sublist {b : Nat} {l m : List QueueEntry} (h : HoldersLaw b l)
    (hsub : (m.map (·.weight)).Sublist (l.map (·.weight))) : HoldersLaw b m where
  none hb := by
    rw [h.none hb] at hsub
    simpa using hsub
  total hm := by
    have hlen := hsub.length_le
    have hsum := hsub.sum_le_sum (fun _ _ => Nat.zero_le _)
    simp only [List.length_map] at hlen
    exact Nat.le_trans hsum (h.total (by omega))

theorem HoldersLaw.dropChan {b : Nat} {l : List QueueEntry} (h : HoldersLaw b l) (c : Chan) : HoldersLaw b (dropChan c l) :=
  h.of_sublist (List.filter_sublist.map _)

/-! ### One channel's seat -/

/-- Channel `ch` has no entry in the start queue. -/
def State.NotQueued (ch : Chan) (s : State) : Prop := ∀ e ∈ s.admission.queue, e.chan ≠ ch

/-- Channel `ch` holds no share. -/
def State.NotHolding (ch : Chan) (s : State) : Prop := ∀ e ∈ s.admission.holders, e.chan ≠ ch

/-- What `MotionOk` asks of channel `ch`: its motion, timers and drive agree, and its entries in the start queue and among the
share holders are those of its state. -/
structure SeatOk (ch : Chan) (s : State) : Prop where
  channel : ChannelOk (s.chan ch)
  waiting : (s.chan ch).motion.state = .waiting ↔ ∃ e ∈ s.admission.queue, e.chan = ch
  entry : ∀ e ∈ s.admission.queue, e.chan = ch →
    (s.chan ch).motion.hand.queueRank = some e.rank ∧ e.weight = (s.chan ch).profile.weight
  sharing : holdsShare (s.chan ch) = true ↔ ∃ e ∈ s.admission.holders, e.chan = ch
  weight : ∀ e ∈ s.admission.holders, e.chan = ch → e.weight = (s.chan ch).profile.weight

namespace SeatOk

variable {ch : Chan} {s u : State}

theorem congr (h : SeatOk ch s) (hchan : u.chan ch = s.chan ch)
    (hqueue : ∀ e, e.chan = ch → (e ∈ u.admission.queue ↔ e ∈ s.admission.queue))
    (hholders : ∀ e, e.chan = ch → (e ∈ u.admission.holders ↔ e ∈ s.admission.holders)) : SeatOk ch u where
  channel := by rw [hchan]; exact h.channel
  waiting := by
    rw [hchan, h.waiting]
    exact exists_congr fun e => ⟨fun ⟨he, hc⟩ => ⟨(hqueue e hc).2 he, hc⟩, fun ⟨he, hc⟩ => ⟨(hqueue e hc).1 he, hc⟩⟩
  entry e he hc := by rw [hchan]; exact h.entry e ((hqueue e hc).1 he) hc
  sharing := by
    rw [hchan, h.sharing]
    exact exists_congr fun e => ⟨fun ⟨he, hc⟩ => ⟨(hholders e hc).2 he, hc⟩, fun ⟨he, hc⟩ => ⟨(hholders e hc).1 he, hc⟩⟩
  weight e he hc := by rw [hchan]; exact h.weight e ((hholders e hc).1 he) hc

theorem notQueued (h : SeatOk ch s) (hstate : (s.chan ch).motion.state ≠ .waiting) : s.NotQueued ch :=
  fun e he hc => hstate (h.waiting.2 ⟨e, he, hc⟩)

theorem notHolding (h : SeatOk ch s) (hshare : holdsShare (s.chan ch) = false) : s.NotHolding ch := fun e he hc => by
  have := h.sharing.2 ⟨e, he, hc⟩
  rw [hshare] at this
  cases this

/-- A channel without a seat. -/
theorem of_free (hc : ChannelOk (s.chan ch)) (hstate : (s.chan ch).motion.state ≠ .waiting)
    (hshare : holdsShare (s.chan ch) = false) (hq : s.NotQueued ch) (hh : s.NotHolding ch) : SeatOk ch s where
  channel := hc
  waiting := ⟨fun h => absurd h hstate, fun ⟨e, he, h⟩ => absurd h (hq e he)⟩
  entry e he h := absurd h (hq e he)
  sharing := ⟨fun h => (by rw [hshare] at h; cases h), fun ⟨e, he, h⟩ => absurd h (hh e he)⟩
  weight e he h := absurd h (hh e he)

end SeatOk

/-! ### The other seats -/

/-- Every seat but that of channel `ch`, with the order of the queue and the budget `b`; the law of R76 when it is `strict`. -/
structure SeatsBut (strict : Bool) (b : Nat) (ch : Chan) (s : State) : Prop where
  seat : ∀ d, d ≠ ch → SeatOk d s
  sorted : Sorted s.admission.queue
  distinct : s.admission.holders.Pairwise (fun a b => a.chan ≠ b.chan)
  budget : s.admission.budget = b
  law : strict = true → HoldersLaw b s.admission.holders

/-- Every seat, with the order of the queue and the budget `b`; the law of R76 when it is `strict`. -/
structure Seats (strict : Bool) (b : Nat) (s : State) : Prop where
  seat : ∀ d, SeatOk d s
  sorted : Sorted s.admission.queue
  distinct : s.admission.holders.Pairwise (fun a b => a.chan ≠ b.chan)
  budget : s.admission.budget = b
  law : strict = true → HoldersLaw b s.admission.holders

/-- The engines agree when every seat is in order under the effective budget. -/
theorem motionOk_iff {s : State} :
    MotionOk s ↔ Seats true (budgetOf s.settings s.supply.state s.thermal.state) s := by
  constructor
  · rintro ⟨hchan, ⟨hwaiting, hsorted, hentry⟩, ⟨hsharing, hdistinct, hweight, hbudget, hnone, htotal⟩⟩
    refine ⟨fun d => ⟨hchan d, hwaiting d, fun e he hd => ?_, hsharing d, fun e he hd => ?_⟩, hsorted, hdistinct, hbudget,
      fun _ => hbudget ▸ ⟨hnone, htotal⟩⟩
    · subst hd; exact hentry e he
    · subst hd; exact hweight e he
  · intro h
    have law := h.law rfl
    rw [← h.budget] at law
    exact ⟨fun d => (h.seat d).channel, ⟨fun d => (h.seat d).waiting, h.sorted, fun e he => (h.seat e.chan).entry e he rfl⟩,
      ⟨fun d => (h.seat d).sharing, h.distinct, fun e he => (h.seat e.chan).weight e he rfl, h.budget, law.none, law.total⟩⟩

variable {strict : Bool} {b : Nat} {ch : Chan} {s u : State}

theorem Seats.but (h : Seats strict b s) (ch : Chan) : SeatsBut strict b ch s :=
  ⟨fun d _ => h.seat d, h.sorted, h.distinct, h.budget, h.law⟩

/-- The last seat with the others. -/
theorem SeatsBut.seats (h : SeatsBut strict b ch s) (hch : SeatOk ch s) : Seats strict b s := by
  refine ⟨fun d => ?_, h.sorted, h.distinct, h.budget, h.law⟩
  by_cases hd : d = ch
  · rw [hd]; exact hch
  · exact h.seat d hd

/-- A change that leaves the admission unit and the channels as they were leaves every seat. -/
theorem Seats.of_eq (h : Seats strict b s) (hchans : u.chans = s.chans) (hadm : u.admission = s.admission) : Seats strict b u :=
  ⟨fun d => (h.seat d).congr (State.chan_congr hchans d) (fun _ _ => by rw [hadm]) (fun _ _ => by rw [hadm]),
    by rw [hadm]; exact h.sorted, by rw [hadm]; exact h.distinct, by rw [hadm]; exact h.budget, fun hs => by rw [hadm]; exact h.law hs⟩

namespace SeatsBut

theorem of_eq (h : SeatsBut strict b ch s) (hchans : ∀ d, d ≠ ch → u.chan d = s.chan d) (hadm : u.admission = s.admission) :
    SeatsBut strict b ch u :=
  ⟨fun d hd => (h.seat d hd).congr (hchans d hd) (fun _ _ => by rw [hadm]) (fun _ _ => by rw [hadm]),
    by rw [hadm]; exact h.sorted, by rw [hadm]; exact h.distinct, by rw [hadm]; exact h.budget, fun hs => by rw [hadm]; exact h.law hs⟩

theorem modChan (h : SeatsBut strict b ch s) (f : Channel → Channel) : SeatsBut strict b ch (s.modChan ch f) :=
  h.of_eq (fun _ hd => State.chan_modChan_ne s f hd) rfl

theorem post (h : SeatsBut strict b ch s) (r : Report) : SeatsBut strict b ch (s.post r) :=
  h.of_eq (fun _ _ => by simp) (by simp)

theorem postChan (h : SeatsBut strict b ch s) (d : Chan) (k : ReportKind) (p : Option Nat) (x : Byte) :
    SeatsBut strict b ch (s.postChan d k p x) := h.post _

/-- The queue changes in the entry of `ch` alone. -/
theorem setQueue (h : SeatsBut strict b ch s) {q : List QueueEntry} (hsorted : Sorted q)
    (hq : ∀ e, e.chan ≠ ch → (e ∈ q ↔ e ∈ s.admission.queue)) : SeatsBut strict b ch (s.setQueue q) :=
  ⟨fun d hd => (h.seat d hd).congr rfl (fun e he => hq e (he ▸ hd)) (fun _ _ => .rfl), hsorted, h.distinct, h.budget, h.law⟩

theorem leaveQueue (h : SeatsBut strict b ch s) : SeatsBut strict b ch (s.leaveQueue ch) :=
  h.setQueue (h.sorted.dropChan ch) fun _ he => mem_dropChan.trans (and_iff_left he)

theorem insertQueue (h : SeatsBut strict b ch s) {e : QueueEntry} (he : e.chan = ch) :
    SeatsBut strict b ch (s.setQueue (insertEntry e (dropChan ch s.admission.queue))) := by
  refine h.setQueue ((h.sorted.dropChan ch).insertEntry fun x hx => ?_) fun x hx => ?_
  · rw [he]; exact (mem_dropChan.1 hx).2
  · rw [mem_insertEntry, mem_dropChan]
    exact ⟨fun h => h.elim (fun h => absurd (h ▸ he) hx) (·.1), fun h => .inr ⟨h, hx⟩⟩

theorem joinQueue (h : SeatsBut strict b ch s) : SeatsBut strict b ch (s.joinQueue ch) := h.insertQueue rfl

theorem resortQueue (h : SeatsBut strict b ch s) (r : Nat) : SeatsBut strict b ch (s.resortQueue ch r) := by
  unfold State.resortQueue
  split
  · exact h
  · rename_i e he
    exact h.insertQueue (findChan_eq_some he).2

theorem releaseShare (h : SeatsBut strict b ch s) : SeatsBut strict b ch (s.releaseShare ch) :=
  ⟨fun d hd => (h.seat d hd).congr rfl (fun _ _ => .rfl) (fun _ he => mem_dropChan.trans (and_iff_left (he ▸ hd))),
    h.sorted, h.distinct.filter _, h.budget, fun hs => (h.law hs).dropChan ch⟩

end SeatsBut

/-- A holder's new rank keeps the holders' channels and weights (R76). -/
theorem map_setRank_chan (c : Chan) (r : Nat) (l : List QueueEntry) :
    (l.map (fun e => if e.chan = c then { e with rank := r } else e)).map (·.chan) = l.map (·.chan) := by
  rw [List.map_map]
  exact List.map_congr_left fun e _ => by dsimp only [Function.comp]; split <;> rfl

theorem map_setRank_weight (c : Chan) (r : Nat) (l : List QueueEntry) :
    (l.map (fun e => if e.chan = c then { e with rank := r } else e)).map (·.weight) = l.map (·.weight) := by
  rw [List.map_map]
  exact List.map_congr_left fun e _ => by dsimp only [Function.comp]; split <;> rfl

theorem mem_setRank_of_ne {c : Chan} {r : Nat} {l : List QueueEntry} {e : QueueEntry} (he : e.chan ≠ c) :
    e ∈ l.map (fun e => if e.chan = c then { e with rank := r } else e) ↔ e ∈ l := by
  rw [List.mem_map]
  constructor
  · rintro ⟨x, hx, rfl⟩
    split at he
    · rename_i hc; exact absurd hc he
    · rename_i hc; rwa [if_neg hc]
  · intro h
    exact ⟨e, h, if_neg he⟩

/-- The holder whose rank changes is the same holder otherwise. -/
theorem mem_setRank {c : Chan} {r : Nat} {l : List QueueEntry} {e : QueueEntry}
    (h : e ∈ l.map (fun e => if e.chan = c then { e with rank := r } else e)) :
    ∃ x ∈ l, x.chan = e.chan ∧ x.weight = e.weight := by
  obtain ⟨x, hx, rfl⟩ := List.mem_map.1 h
  refine ⟨x, hx, ?_⟩
  split <;> exact ⟨rfl, rfl⟩

theorem SeatsBut.rankHolder (h : SeatsBut strict b ch s) (r : Nat) : SeatsBut strict b ch (s.rankHolder ch r) := by
  refine ⟨fun d hd => (h.seat d hd).congr rfl (fun _ _ => .rfl) (fun e he => mem_setRank_of_ne (he ▸ hd)), h.sorted, ?_, h.budget,
    fun hs => (h.law hs).of_sublist (by rw [State.rankHolder, State.setHolders_holders, map_setRank_weight])⟩
  have hmap : (s.admission.holders.map (·.chan)).Pairwise (· ≠ ·) := List.pairwise_map.2 h.distinct
  rw [← map_setRank_chan ch r] at hmap
  exact List.pairwise_map.1 hmap

theorem SeatOk.rankHolder (h : SeatOk ch s) (r : Nat) : SeatOk ch (s.rankHolder ch r) where
  channel := h.channel
  waiting := h.waiting
  entry := h.entry
  sharing := by
    refine Iff.trans h.sharing ⟨fun ⟨e, he, hc⟩ => ?_, fun ⟨e, he, hc⟩ => ?_⟩
    · exact ⟨{ e with rank := r }, List.mem_map.2 ⟨e, he, if_pos hc⟩, hc⟩
    · obtain ⟨x, hx, hchan, -⟩ := mem_setRank he
      exact ⟨x, hx, hchan.trans hc⟩
  weight e he hc := by
    obtain ⟨x, hx, hchan, hweight⟩ := mem_setRank he
    rw [← hweight]
    exact h.weight x hx (hchan.trans hc)

theorem Seats.rankHolder (h : Seats strict b s) (ch : Chan) (r : Nat) : Seats strict b (s.rankHolder ch r) :=
  ((h.but ch).rankHolder r).seats ((h.seat ch).rankHolder r)

theorem Seats.passRank (h : Seats strict b s) (ch : Chan) (r : Option Nat) : Seats strict b (s.passRank ch r) := by
  unfold State.passRank
  split
  · cases r with
    | some r => exact h.rankHolder ch r
    | none => exact Seats.rankHolder (s := s.freeRank.2) (h.of_eq rfl rfl) ch _
  · exact h

end Sys2Proof.Machine
end

section
/-! SUPPORT. One channel's motion, timers and drive: what `ChannelOk` asks in each motion state, and the entry into each state. -/

namespace Sys2Proof.Machine

/-! ### The clauses of the law of one channel -/

/-- The law of one channel, clause by clause (R46, R47, R71, R99, R105, R106, R108, R115, R118). -/
structure Channel.Agrees (c : Channel) : Prop where
  disabled : c.motion.state = .disabled ↔ c.profile.enable = false
  faulted : c.motion.state = .faulted ↔ c.motion.fault.isSome = true
  rest : c.motion.restTimer.isSome = true → c.motion.state = .faulted
  braking : c.motion.state = .braking ↔ c.motion.settleTimer.isSome = true
  dwell : c.motion.state = .dwell ↔ c.motion.dwellTimer.isSome = true
  moving : c.motion.state = .moving → c.motion.moveKind.isSome = true ∧ c.motion.moveTimer.isSome = true
  waiting : c.motion.state = .waiting → (moveNeeded c).isSome = true
  ranked : c.motion.hand.target ≠ .none → c.motion.hand.queueRank.isSome = true
  dir : holdsShare c = true → c.motion.dir.isSome = true
  byReset : holdsShare c = true → c.motion.byReset = false
  stall : isDriven c.motion.state = true → c.travel.stall.isSome = true
  stop : c.motion.stop.isSome = true → c.motion.state = .moving ∨ c.motion.state = .braking
  off : isDriven c.motion.state = false → DriveIsOff c
  legs : c.drive.legs.isDriving = isDriven c.motion.state

theorem channelOk_iff {c : Channel} : ChannelOk c ↔ c.Agrees :=
  ⟨fun ⟨h1, h2, h3, h4, h5, h6, h7, h8, h9, h10, h11, h12, h13, h14⟩ =>
      ⟨h1, h2, h3, h4, h5, h6, h7, h8, h9, h10, h11, h12, h13, h14⟩,
    fun ⟨h1, h2, h3, h4, h5, h6, h7, h8, h9, h10, h11, h12, h13, h14⟩ =>
      ⟨h1, h2, h3, h4, h5, h6, h7, h8, h9, h10, h11, h12, h13, h14⟩⟩

/-- A channel that its profile enables: the target in hand has a queue rank. -/
structure Channel.Able (c : Channel) : Prop where
  enabled : c.profile.enable = true
  ranked : c.motion.hand.target ≠ .none → c.motion.hand.queueRank.isSome = true

/-- An enabled channel without a fault, neither resting after one nor dwelling. -/
structure Channel.Ready (c : Channel) : Prop extends c.Able where
  fault : c.motion.fault = none
  restTimer : c.motion.restTimer = none
  dwellTimer : c.motion.dwellTimer = none

/-- A ready channel that stands: its braking is over and its drive is off. -/
structure Channel.AtRest (c : Channel) : Prop extends c.Ready where
  settleTimer : c.motion.settleTimer = none
  stop : c.motion.stop = none
  off : DriveIsOff c
  legs : c.drive.legs.isDriving = false

namespace Channel.Agrees

variable {c : Channel} (h : c.Agrees)
include h

theorem able (hstate : c.motion.state ≠ .disabled) : c.Able where
  enabled := Bool.eq_true_of_not_eq_false fun he => hstate (h.disabled.2 he)
  ranked := h.ranked

theorem fault_eq_none (hstate : c.motion.state ≠ .faulted) : c.motion.fault = none :=
  Option.not_isSome_iff_eq_none.1 fun hf => hstate (h.faulted.2 hf)

theorem restTimer_eq_none (hstate : c.motion.state ≠ .faulted) : c.motion.restTimer = none :=
  Option.not_isSome_iff_eq_none.1 fun hr => hstate (h.rest hr)

theorem dwellTimer_eq_none (hstate : c.motion.state ≠ .dwell) : c.motion.dwellTimer = none :=
  Option.not_isSome_iff_eq_none.1 fun hd => hstate (h.dwell.2 hd)

theorem settleTimer_eq_none (hstate : c.motion.state ≠ .braking) : c.motion.settleTimer = none :=
  Option.not_isSome_iff_eq_none.1 fun hs => hstate (h.braking.2 hs)

theorem stop_eq_none (hmoving : c.motion.state ≠ .moving) (hbraking : c.motion.state ≠ .braking) : c.motion.stop = none :=
  Option.not_isSome_iff_eq_none.1 fun hs => (h.stop hs).elim hmoving hbraking

theorem ready (hdisabled : c.motion.state ≠ .disabled) (hfaulted : c.motion.state ≠ .faulted)
    (hdwell : c.motion.state ≠ .dwell) : c.Ready :=
  ⟨h.able hdisabled, h.fault_eq_none hfaulted, h.restTimer_eq_none hfaulted, h.dwellTimer_eq_none hdwell⟩

/-- A channel that is driven is ready. -/
theorem ready_of_driven (hstate : isDriven c.motion.state = true) : c.Ready := by
  refine h.ready ?_ ?_ ?_ <;> (intro hs; rw [hs] at hstate; cases hstate)

/-- IDLE and WAITING are states of rest. -/
theorem atRest (hstate : c.motion.state = .idle ∨ c.motion.state = .waiting) : c.AtRest := by
  have differs (m : MotionState) (hidle : m ≠ .idle) (hwaiting : m ≠ .waiting) : c.motion.state ≠ m := fun hs =>
    hstate.elim (fun hi => hidle (hs.symm.trans hi)) fun hw => hwaiting (hs.symm.trans hw)
  have undriven : isDriven c.motion.state = false := by rcases hstate with hs | hs <;> rw [hs] <;> rfl
  exact {
    toReady := h.ready (differs _ nofun nofun) (differs _ nofun nofun) (differs _ nofun nofun)
    settleTimer := h.settleTimer_eq_none (differs _ nofun nofun)
    stop := h.stop_eq_none (differs _ nofun nofun) (differs _ nofun nofun)
    off := h.off undriven
    legs := h.legs.trans undriven }

/-- A channel in DWELL whose dwell has ended is at rest. -/
theorem atRest_of_dwell (hstate : c.motion.state = .dwell) :
    Channel.AtRest { c with motion := { c.motion with dwellTimer := none } } := by
  have differs (m : MotionState) (hm : m ≠ .dwell) : c.motion.state ≠ m := fun hs => hm (hs.symm.trans hstate)
  have undriven : isDriven c.motion.state = false := by rw [hstate]; rfl
  exact {
    toAble := ⟨(h.able (differs _ nofun)).enabled, h.ranked⟩
    fault := h.fault_eq_none (differs _ nofun)
    restTimer := h.restTimer_eq_none (differs _ nofun)
    dwellTimer := rfl
    settleTimer := h.settleTimer_eq_none (differs _ nofun)
    stop := h.stop_eq_none (differs _ nofun) (differs _ nofun)
    off := h.off undriven
    legs := h.legs.trans undriven }

end Channel.Agrees

/-- The leg stages to which drive is switched off drive no leg. -/
@[simp] theorem isDriving_legsOnOff (l : LegStage) : (legsOnOff l).isDriving = false := by
  cases l <;> rfl

@[simp] theorem isDriving_legsOnRemoval (brake : Bool) (l : LegStage) : (legsOnRemoval brake l).isDriving = false := rfl

@[simp] theorem isDriving_legsOnStart (count : Nat) : (legsOnStart count).isDriving = true := by
  unfold legsOnStart
  split <;> rfl

@[simp] theorem isDriving_legsAtBoundary (l : LegStage) : (legsAtBoundary l).isDriving = l.isDriving := by
  unfold legsAtBoundary
  split <;> rfl

@[simp] theorem isDriving_legsAtPeriod (level k : Nat) (l : LegStage) : (legsAtPeriod level k l).isDriving = l.isDriving := by
  unfold legsAtPeriod
  split <;> rfl

/-- What BRAKING leaves when it ends is a channel at rest (R60, R117). -/
theorem Channel.Agrees.leaveBraking {c : Channel} (h : c.Agrees) (hstate : c.motion.state = .braking) (m : MotionState) :
    (c.leaveBraking m).AtRest := by
  have differs (m : MotionState) (hm : m ≠ .braking) : c.motion.state ≠ m := fun hs => hm (hs.symm.trans hstate)
  have undriven : isDriven c.motion.state = false := by rw [hstate]; rfl
  exact {
    toAble := ⟨(h.able (differs _ nofun)).enabled, h.ranked⟩
    fault := h.fault_eq_none (differs _ nofun)
    restTimer := h.restTimer_eq_none (differs _ nofun)
    dwellTimer := h.dwellTimer_eq_none (differs _ nofun)
    settleTimer := rfl
    stop := rfl
    off := h.off undriven
    legs := isDriving_legsOnOff _ }

/-! ### The entry into each state -/

theorem driveIsOff_driveOff (c : Channel) (l : LegStage) : DriveIsOff (c.driveOff l) :=
  ⟨rfl, rfl, rfl, rfl, rfl, rfl, rfl, rfl, rfl, rfl, rfl⟩

theorem moveNeeded_target_ne_none {c : Channel} (h : (moveNeeded c).isSome = true) : c.motion.hand.target ≠ .none := fun ht => by
  rw [moveNeeded_of_no_target ht] at h
  cases h

namespace Channel.AtRest

variable {c : Channel} (h : c.AtRest)
include h

theorem inState (m : MotionState) : (c.inState m).AtRest :=
  ⟨⟨⟨h.enabled, h.ranked⟩, h.fault, h.restTimer, h.dwellTimer⟩, h.settleTimer, h.stop, h.off, h.legs⟩

/-- A channel at rest in a state of rest other than DWELL. -/
theorem channelOk_inState {m : MotionState} (hm : m = .idle ∨ m = .waiting ∧ (moveNeeded c).isSome = true) :
    ChannelOk (c.inState m) := by
  have differs (n : MotionState) (hidle : n ≠ .idle) (hwaiting : n ≠ .waiting) : m ≠ n := fun hs =>
    hm.elim (fun hi => hidle (hs.symm.trans hi)) fun hw => hwaiting (hs.symm.trans hw.1)
  have undriven : isDriven m = false := by rcases hm with rfl | ⟨rfl, -⟩ <;> rfl
  have unshared : holdsShare (c.inState m) = false := by rcases hm with rfl | ⟨rfl, -⟩ <;> rfl
  exact channelOk_iff.2 {
    disabled := iff_of_false (differs _ nofun nofun) (by simpa [Channel.inState] using h.enabled)
    faulted := iff_of_false (differs _ nofun nofun) (by simp [Channel.inState, h.fault])
    rest := by simp [Channel.inState, h.restTimer]
    braking := iff_of_false (differs _ nofun nofun) (by simp [Channel.inState, h.settleTimer])
    dwell := iff_of_false (differs _ nofun nofun) (by simp [Channel.inState, h.dwellTimer])
    moving := fun hs => absurd hs (differs _ nofun nofun)
    waiting := fun hs => (hm.resolve_left (by rintro rfl; cases hs)).2
    ranked := h.ranked
    dir := fun hs => absurd hs (by rw [unshared]; nofun)
    byReset := fun hs => absurd hs (by rw [unshared]; nofun)
    stall := fun hs => absurd (undriven.symm.trans hs) nofun
    stop := by simp [Channel.inState, h.stop]
    off := fun _ => h.off
    legs := h.legs.trans undriven.symm }

theorem channelOk_dwell (n : Nat) : ChannelOk { c with motion := { c.motion with state := .dwell, dwellTimer := some n } } :=
  channelOk_iff.2 {
    disabled := iff_of_false nofun (by simpa using h.enabled)
    faulted := iff_of_false nofun (by simp [h.fault])
    rest := by simp [h.restTimer]
    braking := iff_of_false nofun (by simp [h.settleTimer])
    dwell := iff_of_true rfl rfl
    moving := nofun
    waiting := nofun
    ranked := h.ranked
    dir := nofun
    byReset := nofun
    stall := nofun
    stop := by simp [h.stop]
    off := fun _ => h.off
    legs := h.legs }

/-- A channel at rest that is admitted (R53). -/
theorem channelOk_enterMoving (count : Nat) (kind : MoveKind) (dir : Dir) : ChannelOk (c.enterMoving count kind dir) :=
  channelOk_iff.2 {
    disabled := iff_of_false nofun (by simpa [Channel.enterMoving] using h.enabled)
    faulted := iff_of_false nofun (by simp [Channel.enterMoving, h.fault])
    rest := by simp [Channel.enterMoving, h.restTimer]
    braking := iff_of_false nofun (by simp [Channel.enterMoving, h.settleTimer])
    dwell := iff_of_false nofun (by simp [Channel.enterMoving, h.dwellTimer])
    moving := fun _ => ⟨rfl, rfl⟩
    waiting := nofun
    ranked := h.ranked
    dir := fun _ => rfl
    byReset := fun _ => rfl
    stall := fun _ => rfl
    stop := fun _ => .inl rfl
    off := nofun
    legs := isDriving_legsOnStart count }

/-- A channel that has braked before an obstruction and backs off from it (R67). -/
theorem channelOk_enterBackoff (count : Nat) (hdir : c.motion.dir.isSome = true) (hreset : c.motion.byReset = false) :
    ChannelOk (c.enterBackoff count) :=
  channelOk_iff.2 {
    disabled := iff_of_false nofun (by simpa [Channel.enterBackoff] using h.enabled)
    faulted := iff_of_false nofun (by simp [Channel.enterBackoff, h.fault])
    rest := by simp [Channel.enterBackoff, h.restTimer]
    braking := iff_of_false nofun (by simp [Channel.enterBackoff, h.settleTimer])
    dwell := iff_of_false nofun (by simp [Channel.enterBackoff, h.dwellTimer])
    moving := nofun
    waiting := nofun
    ranked := h.ranked
    dir := fun _ => by
      obtain ⟨d, hd⟩ := Option.isSome_iff_exists.1 hdir
      cases d <;> simp [Channel.enterBackoff, hd]
    byReset := fun _ => hreset
    stall := fun _ => rfl
    stop := by simp [Channel.enterBackoff, h.stop]
    off := nofun
    legs := isDriving_legsOnStart count }

end Channel.AtRest

/-- A ready channel whose drive is removed (R47, R56); before an obstruction it keeps its direction for the backoff. -/
theorem Channel.Ready.channelOk_enterBraking {c : Channel} (h : c.Ready) (reason : BrakingReason) (cause : Option HaltCause)
    (afterBackoff : Bool)
    (hobstruct : reason = .obstruct → c.motion.dir.isSome = true ∧ c.motion.byReset = false) :
    ChannelOk (c.enterBraking reason cause afterBackoff) := by
  have shared (hs : holdsShare (c.enterBraking reason cause afterBackoff) = true) : reason = .obstruct := by
    simpa [holdsShare, Channel.enterBraking] using hs
  exact channelOk_iff.2 {
    disabled := iff_of_false nofun (by simpa [Channel.enterBraking, Channel.driveOff] using h.enabled)
    faulted := iff_of_false nofun (by simp [Channel.enterBraking, Channel.driveOff, h.fault])
    rest := by simp [Channel.enterBraking, Channel.driveOff, h.restTimer]
    braking := iff_of_true rfl rfl
    dwell := iff_of_false nofun (by simp [Channel.enterBraking, Channel.driveOff, h.dwellTimer])
    moving := nofun
    waiting := nofun
    ranked := h.ranked
    dir := fun hs => (hobstruct (shared hs)).1
    byReset := fun hs => (hobstruct (shared hs)).2
    stall := nofun
    stop := fun _ => .inr rfl
    off := fun _ => driveIsOff_driveOff c _
    legs := rfl }

/-- An enabled channel that faults (R70). -/
theorem Channel.Able.channelOk_enterFaulted {c : Channel} (h : c.Able) (code : FaultCode) : ChannelOk (c.enterFaulted code) :=
  channelOk_iff.2 {
    disabled := iff_of_false nofun (by simpa [Channel.enterFaulted, Channel.driveOff] using h.enabled)
    faulted := iff_of_true rfl rfl
    rest := fun _ => rfl
    braking := iff_of_false nofun nofun
    dwell := iff_of_false nofun nofun
    moving := nofun
    waiting := nofun
    ranked := h.ranked
    dir := nofun
    byReset := nofun
    stall := nofun
    stop := nofun
    off := fun _ => driveIsOff_driveOff c _
    legs := isDriving_legsOnOff _ }

end Sys2Proof.Machine
end

section
/-! SUPPORT. Every event of one channel's motion keeps the seats: each leaves the channel in a motion state whose law its record meets,
with the entries of that state in the start queue and among the share holders. -/

namespace Sys2Proof.Machine

variable {strict : Bool} {b : Nat} {ch : Chan} {s u : State}

/-! ### A channel whose seat stays -/

/-- Two records of a channel ask for the same seat. -/
structure Channel.SameSeat (c d : Channel) : Prop where
  state : d.motion.state = c.motion.state
  reason : d.motion.reason = c.motion.reason
  rank : c.motion.state = .waiting → d.motion.hand.queueRank = c.motion.hand.queueRank
  weight : d.profile.weight = c.profile.weight

theorem Channel.SameSeat.holdsShare_eq {c d : Channel} (h : c.SameSeat d) : holdsShare d = holdsShare c := by
  unfold holdsShare
  rw [h.state, h.reason]

theorem SeatOk.of_same (h : SeatOk ch s) (same : (s.chan ch).SameSeat (u.chan ch)) (hc : ChannelOk (u.chan ch))
    (hq : u.admission.queue = s.admission.queue) (hh : u.admission.holders = s.admission.holders) : SeatOk ch u where
  channel := hc
  waiting := by rw [same.state, hq]; exact h.waiting
  entry e he hce := by
    rw [hq] at he
    rw [same.rank (h.waiting.2 ⟨e, he, hce⟩), same.weight]
    exact h.entry e he hce
  sharing := by rw [same.holdsShare_eq, hh]; exact h.sharing
  weight e he hce := by rw [same.weight]; exact h.weight e (hh ▸ he) hce

/-- A change of one record that keeps its seat and its law. -/
theorem Seats.modChan {f : Channel → Channel} (h : Seats strict b s) (same : (s.chan ch).SameSeat (f (s.chan ch)))
    (hc : ChannelOk (f (s.chan ch))) : Seats strict b (s.modChan ch f) :=
  ((h.but ch).modChan f).seats ((h.seat ch).of_same (by rwa [State.chan_modChan_self]) (by rwa [State.chan_modChan_self]) rfl rfl)

/-- A change of every record that keeps its seat and its law, with the admission unit as it was. -/
theorem Seats.mapChans {f : Channel → Channel} (h : Seats strict b s) (hchans : u.chans = s.chans.map f)
    (hadm : u.admission.queue = s.admission.queue ∧ u.admission.holders = s.admission.holders
      ∧ u.admission.budget = s.admission.budget)
    (hf : ∀ c, ChannelOk c → c.SameSeat (f c) ∧ ChannelOk (f c)) : Seats strict b u := by
  obtain ⟨hq, hh, hb⟩ := hadm
  have hchan (d : Chan) : u.chan d = f (s.chan d) := by rw [State.chan, hchans, PerChan.get_map]; rfl
  refine ⟨fun d => ?_, by rw [hq]; exact h.sorted, by rw [hh]; exact h.distinct, hb.trans h.budget,
    fun hs => by rw [hh]; exact h.law hs⟩
  obtain ⟨same, hc⟩ := hf _ (h.seat d).channel
  exact (h.seat d).of_same (by rwa [hchan]) (by rwa [hchan]) hq hh

/-- A change of fields that no law of a channel reads. -/
theorem Channel.SameSeat.of_motion {c d : Channel} (hm : d.motion = c.motion) (hp : d.profile = c.profile) : c.SameSeat d :=
  ⟨by rw [hm], by rw [hm], fun _ => by rw [hm], by rw [hp]⟩

/-! ### A channel at rest without a seat -/

/-- Channel `ch` is at rest and has no seat; every other seat is in order. -/
structure State.Standing (strict : Bool) (b : Nat) (ch : Chan) (s : State) : Prop where
  but : SeatsBut strict b ch s
  rest : (s.chan ch).AtRest
  notQueued : s.NotQueued ch
  notHolding : s.NotHolding ch

namespace State.Standing

theorem modChan {f : Channel → Channel} (h : s.Standing strict b ch) (hf : (f (s.chan ch)).AtRest) :
    (s.modChan ch f).Standing strict b ch :=
  ⟨h.but.modChan f, by rwa [State.chan_modChan_self], h.notQueued, h.notHolding⟩

theorem postChan (h : s.Standing strict b ch) (d : Chan) (k : ReportKind) (p : Option Nat) (x : Byte) :
    (s.postChan d k p x).Standing strict b ch :=
  ⟨h.but.postChan .., by rw [State.chan_postChan]; exact h.rest, by
    unfold State.NotQueued; rw [State.postChan_admission]; exact h.notQueued, by
    unfold State.NotHolding; rw [State.postChan_admission]; exact h.notHolding⟩

theorem seats_inState_idle (h : s.Standing strict b ch) : Seats strict b (s.modChan ch (·.inState .idle)) :=
  (h.but.modChan _).seats <| .of_free (by rw [State.chan_modChan_self]; exact h.rest.channelOk_inState (.inl rfl))
    (by rw [State.chan_modChan_self]; nofun) (by rw [State.chan_modChan_self]; rfl) h.notQueued h.notHolding

/-- A channel that stands IDLE keeps its law. -/
theorem seats_of_idle (h : s.Standing strict b ch) (hidle : (s.chan ch).motion.state = .idle) : Seats strict b s := by
  have := h.seats_inState_idle
  rwa [State.modChan_of_fixed (f := (·.inState .idle)) (Channel.inState_self hidle)] at this

theorem enterDwell (h : s.Standing strict b ch) : Seats strict b (s.enterDwell ch) :=
  (h.but.modChan _).seats <| .of_free (by rw [State.chan_modChan_self]; exact h.rest.channelOk_dwell _)
    (by rw [State.chan_modChan_self]; nofun) (by rw [State.chan_modChan_self]; rfl) h.notQueued h.notHolding

/-- A channel at rest that tests its target in hand (R50, R51). -/
theorem settleAtRest (h : s.Standing strict b ch) : Seats strict b (s.settleAtRest ch) := by
  cases hmove : moveNeeded (s.chan ch) with
  | none => rw [State.settleAtRest_of_not_needed hmove]; exact h.seats_inState_idle
  | some move =>
    have needed : (moveNeeded (s.chan ch)).isSome = true := by rw [hmove]; rfl
    obtain ⟨r, hr⟩ := Option.isSome_iff_exists.1 (h.rest.ranked (moveNeeded_target_ne_none needed))
    have hchan : ((s.settleAtRest ch)).chan ch = (s.chan ch).inState .waiting := by
      rw [State.settleAtRest_of_needed hmove, State.chan_joinQueue, State.chan_modChan_self]
    rw [State.settleAtRest_of_needed hmove] at hchan ⊢
    have mem (e : QueueEntry) : e ∈ ((s.modChan ch (·.inState .waiting)).joinQueue ch).admission.queue ∧ e.chan = ch
        ↔ e = ⟨ch, r, s.clock.now, (s.chan ch).profile.weight⟩ := by
      rw [State.joinQueue, State.setQueue_queue, mem_insertEntry, mem_dropChan, State.chan_modChan_self]
      have hrank : ((s.chan ch).inState .waiting).motion.hand.queueRank.getD 6 = r := by rw [Channel.inState, hr]; rfl
      rw [hrank]
      constructor
      · rintro ⟨rfl | ⟨-, hne⟩, hc⟩
        · rfl
        · exact absurd hc hne
      · rintro rfl; exact ⟨.inl rfl, rfl⟩
    refine ((h.but.modChan _).joinQueue).seats ⟨?_, ?_, fun e he hc => ?_, ?_, fun e he hc => absurd hc (h.notHolding e he)⟩
    · rw [hchan]; exact h.rest.channelOk_inState (.inr ⟨rfl, needed⟩)
    · rw [hchan]
      obtain ⟨he, hc⟩ := (mem _).2 rfl
      exact iff_of_true rfl ⟨_, he, hc⟩
    · rw [hchan, (mem e).1 ⟨he, hc⟩]
      exact ⟨hr, rfl⟩
    · rw [hchan]
      exact iff_of_false nofun fun ⟨e, he, hc⟩ => h.notHolding e he hc

/-- A WAITING channel that leaves the start queue. -/
theorem of_waiting {f : Channel → Channel} (h : Seats strict b s) (hstate : (s.chan ch).motion.state = .waiting)
    (hf : (f (s.chan ch)).AtRest) : ((s.modChan ch f).leaveQueue ch).Standing strict b ch where
  but := ((h.but ch).modChan f).leaveQueue
  rest := by rw [State.chan_leaveQueue, State.chan_modChan_self]; exact hf
  notQueued e he := (mem_dropChan.1 he).2
  notHolding := (h.seat ch).notHolding (by unfold holdsShare; rw [hstate])

/-- A channel without a seat whose record comes to rest. -/
theorem of_free {f : Channel → Channel} (h : Seats strict b s) (hstate : (s.chan ch).motion.state ≠ .waiting)
    (hshare : holdsShare (s.chan ch) = false) (hf : (f (s.chan ch)).AtRest) : (s.modChan ch f).Standing strict b ch where
  but := (h.but ch).modChan f
  rest := by rw [State.chan_modChan_self]; exact hf
  notQueued := (h.seat ch).notQueued hstate
  notHolding := (h.seat ch).notHolding hshare

/-- The order of leaving the queue and of changing the record does not matter. -/
theorem seats_idle_of_waiting {f : Channel → Channel} (h : Seats strict b s) (hstate : (s.chan ch).motion.state = .waiting)
    (hf : (f (s.chan ch)).AtRest) (hidle : (f (s.chan ch)).motion.state = .idle) :
    Seats strict b ((s.modChan ch f).leaveQueue ch) :=
  (of_waiting h hstate hf).seats_of_idle (by rw [State.chan_leaveQueue, State.chan_modChan_self]; exact hidle)

end State.Standing

/-! ### Braking and faults -/

/-- A ready channel brakes for another reason than an obstruction: it has no seat any more (R56, R65). -/
theorem SeatsBut.brake (h : SeatsBut strict b ch s) (hready : (s.chan ch).Ready) (hq : s.NotQueued ch)
    {reason : BrakingReason} (hreason : reason ≠ .obstruct) (cause : Option HaltCause) (afterBackoff : Bool) :
    Seats strict b (s.brake ch reason cause afterBackoff) := by
  unfold State.brake
  dsimp only
  rw [if_neg hreason]
  refine ((h.modChan _).releaseShare).seats (.of_free ?_ ?_ ?_ hq fun e he => (mem_dropChan.1 he).2)
  · rw [State.chan_releaseShare, State.chan_modChan_self]
    exact hready.channelOk_enterBraking _ _ _ fun hr => absurd hr hreason
  · rw [State.chan_releaseShare, State.chan_modChan_self]; nofun
  · rw [State.chan_releaseShare, State.chan_modChan_self]
    simpa [holdsShare, Channel.enterBraking] using hreason

/-- A share holder brakes before an obstruction, with its share (R65). -/
theorem Seats.brake_obstruct (h : Seats strict b s) (hshare : isDriven (s.chan ch).motion.state = true) (cause : Option HaltCause)
    (afterBackoff : Bool) : Seats strict b (s.brake ch .obstruct cause afterBackoff) := by
  have agrees := channelOk_iff.1 (h.seat ch).channel
  have hready := agrees.ready_of_driven hshare
  have hholds : holdsShare (s.chan ch) = true := by
    unfold holdsShare
    revert hshare
    cases (s.chan ch).motion.state <;> first | exact fun _ => rfl | exact fun hs => nomatch hs
  have hq : s.NotQueued ch := (h.seat ch).notQueued fun hs => by rw [hs] at hshare; cases hshare
  unfold State.brake
  dsimp only
  rw [if_pos rfl]
  refine ((h.but ch).modChan _).seats ⟨?_, ?_, fun e he hc => absurd hc (hq e he), ?_, fun e he hc => ?_⟩
  · rw [State.chan_modChan_self]
    exact hready.channelOk_enterBraking _ _ _ fun _ => ⟨agrees.dir hholds, agrees.byReset hholds⟩
  · rw [State.chan_modChan_self]
    exact iff_of_false nofun fun ⟨e, he, hc⟩ => hq e he hc
  · rw [State.chan_modChan_self]
    exact iff_of_true rfl ((h.seat ch).sharing.1 hholds)
  · rw [State.chan_modChan_self]
    exact (h.seat ch).weight e he hc

/-- An enabled channel faults: it has no seat any more (R70). -/
theorem SeatsBut.faultChannel (h : SeatsBut strict b ch s) (hable : (s.chan ch).Able) (hstate : (s.chan ch).motion.state ≠ .faulted)
    (code : FaultCode) : Seats strict b (s.faultChannel ch code) := by
  unfold State.faultChannel
  dsimp only
  rw [if_neg hstate]
  have faulted : SeatsBut strict b ch (((s.modChan ch (fun c => c.enterFaulted code)).releaseShare ch).leaveQueue ch) :=
    ((h.modChan _).releaseShare).leaveQueue
  have hchan : (((s.modChan ch (fun c => c.enterFaulted code)).releaseShare ch).leaveQueue ch).chan ch
      = (s.chan ch).enterFaulted code := by
    rw [State.chan_leaveQueue, State.chan_releaseShare, State.chan_modChan_self]
  refine Seats.of_eq (faulted.seats (.of_free ?_ ?_ ?_ (fun e he => (mem_dropChan.1 he).2) fun e he => (mem_dropChan.1 he).2))
    (by simp) (by simp)
  · rw [hchan]; exact hable.channelOk_enterFaulted code
  · rw [hchan]; nofun
  · rw [hchan]; rfl

/-! ### Re-targets (R49 to R52, R57 to R59) -/

/-- A target other than none has a queue rank (R42). -/
theorem evaluate_ranked (w : Weather) (c : Channel) (h : (evaluate w c).target ≠ .none) :
    (evaluate w c).queueRank.isSome = true := by
  unfold evaluate at h ⊢
  split at h
  · exact absurd rfl h
  · dsimp only at h ⊢
    split at h
    · exact absurd rfl h
    · rename_i hstate
      rw [if_neg hstate]
      split at h
      · rfl
      · rfl
      · split at h
        · exact absurd rfl h
        · rfl

/-- A channel that takes its evaluation in hand keeps its law, but for the entry of a WAITING one. -/
theorem Channel.Agrees.takeInHand {c : Channel} (h : c.Agrees) (hwaiting : c.motion.state ≠ .waiting) (w : Weather) :
    ChannelOk (c.takeInHand w) :=
  channelOk_iff.2 { h with
    waiting := fun hs => absurd hs hwaiting
    ranked := evaluate_ranked w c }

theorem Channel.sameSeat_takeInHand {c : Channel} (hwaiting : c.motion.state ≠ .waiting) (w : Weather) :
    c.SameSeat (c.takeInHand w) := ⟨rfl, rfl, fun hs => absurd hs hwaiting, rfl⟩

theorem Channel.AtRest.takeInHand {c : Channel} (h : c.AtRest) (w : Weather) : (c.takeInHand w).AtRest :=
  ⟨⟨⟨h.enabled, evaluate_ranked w c⟩, h.fault, h.restTimer, h.dwellTimer⟩, h.settleTimer, h.stop, h.off, h.legs⟩

/-- A re-target of an enabled channel: its evaluation is taken in hand, and the channel acts in its state. -/
theorem State.retarget_of_enabled (h : (s.chan ch).motion.state ≠ .disabled) :
    ∃ changed, s.retarget ch
      = ((s.modChan ch (·.takeInHand s.weather)).actOnTarget ch changed).passRank ch (evaluate s.weather (s.chan ch)).queueRank := by
  refine ⟨(s.chan ch).motion.hand.target != (evaluate s.weather (s.chan ch)).target, ?_⟩
  unfold State.retarget State.takeTarget
  simp only [State.chan_modChan_self, h, if_false, State.modChan_modChan]
  rfl

theorem Seats.retargetMoving (h : Seats strict b s) (hstate : (s.chan ch).motion.state = .moving) (changed : Bool) :
    Seats strict b (s.retargetMoving ch changed) := by
  have agrees := channelOk_iff.1 (h.seat ch).channel
  have hready := agrees.ready_of_driven (by rw [hstate]; rfl)
  have hq : s.NotQueued ch := (h.seat ch).notQueued (by rw [hstate]; nofun)
  have stopped : Seats strict b (s.brake ch .stop none false) := (h.but ch).brake hready hq (by nofun) none false
  unfold State.retargetMoving
  dsimp only
  split
  · split
    · split
      · split
        · refine h.modChan ⟨rfl, rfl, fun _ => rfl, rfl⟩ (channelOk_iff.2 { agrees with
            waiting := fun hs => ?_, stop := fun _ => .inl hstate, off := fun hs => ?_ })
          · exact absurd (hstate.symm.trans hs) nofun
          · exact absurd ((congrArg isDriven hstate).symm.trans hs) nofun
        · exact stopped
      · exact stopped
    · exact h
  · split
    · split
      · rename_i d _ _
        have longer : Seats strict b (s.modChan ch (fun c => { c with motion := { c.motion with
            duration := (d - (s.chan ch).motion.timedEst) * (s.chan ch).profile.fullTravelTime } })) :=
          h.modChan ⟨rfl, rfl, fun _ => rfl, rfl⟩ (channelOk_iff.2 { agrees with })
        split
        · exact (longer.but ch).brake (by rw [State.chan_modChan_self]; exact ⟨⟨hready.enabled, hready.ranked⟩, hready.fault,
            hready.restTimer, hready.dwellTimer⟩) hq (by nofun) none false
        · exact longer
      · exact stopped
    · exact stopped
  · split
    · exact stopped
    · exact KeptInside.choice stopped h
    · exact h

/-- A WAITING channel whose target has changed keeps its place's entry time under its new rank, or leaves the queue (R52, R82). -/
theorem Seats.actOnTarget_of_waiting (h : Seats strict b s) (hstate : (s.chan ch).motion.state = .waiting) (w : Weather)
    (changed : Bool) : Seats strict b ((s.modChan ch (·.takeInHand w)).actOnTarget ch changed) := by
  have agrees := channelOk_iff.1 (h.seat ch).channel
  have rest := (agrees.atRest (.inr hstate)).takeInHand w
  have hstate' : ((s.modChan ch (·.takeInHand w)).chan ch).motion.state = .waiting := by
    rw [State.chan_modChan_self]; exact hstate
  unfold State.actOnTarget
  rw [hstate']
  dsimp only
  cases hmove : moveNeeded ((s.modChan ch (·.takeInHand w)).chan ch) with
  | none =>
    dsimp only
    rw [State.modChan_modChan]
    exact State.Standing.seats_idle_of_waiting h hstate (rest.inState .idle) rfl
  | some move =>
    have needed : (moveNeeded ((s.chan ch).takeInHand w)).isSome = true := by
      rw [State.chan_modChan_self] at hmove; rw [hmove]; rfl
    obtain ⟨r, hr⟩ := Option.isSome_iff_exists.1 (rest.ranked (moveNeeded_target_ne_none needed))
    dsimp only
    rw [State.chan_modChan_self, hr]
    obtain ⟨x, hx, hxc⟩ := (h.seat ch).waiting.1 hstate
    unfold State.resortQueue
    rw [State.modChan_admission]
    cases hfind : findChan ch s.admission.queue with
    | none => exact absurd hxc (findChan_eq_none hfind x hx)
    | some e =>
      obtain ⟨he, hec⟩ := findChan_eq_some hfind
      have mem (y : QueueEntry) : y ∈ insertEntry { e with rank := r } (dropChan ch s.admission.queue) ∧ y.chan = ch
          ↔ y = { e with rank := r } := by
        rw [mem_insertEntry, mem_dropChan]
        constructor
        · rintro ⟨rfl | ⟨-, hne⟩, hc⟩
          · rfl
          · exact absurd hc hne
        · rintro rfl; exact ⟨.inl rfl, hec⟩
      have hnot := (h.seat ch).notHolding (by unfold holdsShare; rw [hstate])
      refine (((h.but ch).modChan _).insertQueue (e := { e with rank := r }) hec).seats
        ⟨?_, ?_, fun y hy hc => ?_, ?_, fun y hy hc => absurd hc (hnot y hy)⟩
      · change ChannelOk ((s.modChan ch (·.takeInHand w)).chan ch)
        rw [State.chan_modChan_self, ← Channel.inState_self (c := (s.chan ch).takeInHand w) hstate]
        exact rest.channelOk_inState (.inr ⟨rfl, needed⟩)
      · exact iff_of_true hstate' ⟨_, (mem _).2 rfl⟩
      · rw [(mem y).1 ⟨hy, hc⟩]
        change ((s.modChan ch (·.takeInHand w)).chan ch).motion.hand.queueRank = _ ∧ _ = ((s.modChan ch (·.takeInHand w)).chan ch).profile.weight
        rw [State.chan_modChan_self]
        exact ⟨hr, ((h.seat ch).entry e he hec).2⟩
      · refine iff_of_false ?_ fun ⟨y, hy, hc⟩ => hnot y hy hc
        change ¬ holdsShare ((s.modChan ch (·.takeInHand w)).chan ch) = true
        unfold holdsShare
        rw [hstate']
        nofun

/-- A re-target keeps the seats (R49). -/
theorem Seats.retarget (h : Seats strict b s) (ch : Chan) : Seats strict b (s.retarget ch) := by
  have agrees := channelOk_iff.1 (h.seat ch).channel
  by_cases hdisabled : (s.chan ch).motion.state = .disabled
  · have hnone : s.retarget ch = s.modChan ch (fun c =>
        { c with selected := evaluate s.weather (s.chan ch), motion := { c.motion with hand := {} } }) := by
      unfold State.retarget State.takeTarget
      simp only [State.chan_modChan_self, hdisabled, if_true, State.modChan_modChan]
    rw [hnone]
    refine h.modChan ⟨rfl, rfl, fun hs => absurd (hdisabled.symm.trans hs) nofun, rfl⟩ (channelOk_iff.2 { agrees with
      waiting := fun hs => absurd (hdisabled.symm.trans hs) nofun, ranked := fun ht => absurd rfl ht })
  · obtain ⟨changed, hretarget⟩ := State.retarget_of_enabled hdisabled
    by_cases hwaiting : (s.chan ch).motion.state = .waiting
    · rw [hretarget]
      exact (h.actOnTarget_of_waiting hwaiting s.weather changed).passRank ch _
    · have hand : Seats strict b (s.modChan ch (·.takeInHand s.weather)) :=
        h.modChan (Channel.sameSeat_takeInHand hwaiting _) (agrees.takeInHand hwaiting _)
      have hstate : ((s.modChan ch (·.takeInHand s.weather)).chan ch).motion.state = (s.chan ch).motion.state := by
        rw [State.chan_modChan_self]; rfl
      rw [hretarget]
      refine Seats.passRank ?_ ch _
      cases hs : (s.chan ch).motion.state with
      | disabled => exact absurd hs hdisabled
      | waiting => exact absurd hs hwaiting
      | idle =>
        rw [State.actOnTarget_of_idle (hstate.trans hs)]
        exact (State.Standing.of_free h hwaiting (by unfold holdsShare; rw [hs])
          ((agrees.atRest (.inl hs)).takeInHand s.weather)).settleAtRest
      | moving =>
        unfold State.actOnTarget
        rw [hstate, hs]
        exact hand.retargetMoving (hstate.trans hs) changed
      | braking | dwell | backoff | faulted =>
        unfold State.actOnTarget
        rw [hstate, hs]
        exact hand

end Sys2Proof.Machine
end

section
/-! SUPPORT. The end of a braking, a pulse, a stall and an exceedance, a clear and a reset keep the seats. -/

namespace Sys2Proof.Machine

variable {strict : Bool} {b : Nat} {ch : Chan} {s u : State}

/-! ### The end of BRAKING (R60 to R66) -/

/-- A ready channel whose drive is off, as BRAKING has it. -/
structure Channel.Braked (c : Channel) : Prop extends c.Ready where
  off : DriveIsOff c

namespace Channel.Braked

variable {c : Channel} (h : c.Braked)
include h

theorem learn : c.learn.Braked := by
  unfold Channel.learn
  split
  · exact ⟨⟨⟨h.enabled, h.ranked⟩, h.fault, h.restTimer, h.dwellTimer⟩, h.off⟩
  · exact ⟨⟨⟨h.enabled, h.ranked⟩, h.fault, h.restTimer, h.dwellTimer⟩, h.off⟩
  · exact h

theorem timeMove : c.timeMove.Braked := by
  unfold Channel.timeMove
  split
  · exact ⟨⟨⟨h.enabled, h.ranked⟩, h.fault, h.restTimer, h.dwellTimer⟩, h.off⟩
  · exact h

theorem leaveBraking (m : MotionState) : (c.leaveBraking m).AtRest :=
  ⟨⟨⟨h.enabled, h.ranked⟩, h.fault, h.restTimer, h.dwellTimer⟩, rfl, rfl, h.off, isDriving_legsOnOff _⟩

end Channel.Braked

theorem Channel.Agrees.braked {c : Channel} (h : c.Agrees) (hstate : c.motion.state = .braking) : c.Braked where
  toReady := h.ready (by rw [hstate]; nofun) (by rw [hstate]; nofun) (by rw [hstate]; nofun)
  off := h.off (by rw [hstate]; rfl)

namespace State.Standing

/-- A braking without a share that ends: the record comes to rest. -/
theorem leaveBraking {f : Channel → Channel} (h : SeatsBut strict b ch s) (hq : s.NotQueued ch) (hh : s.NotHolding ch)
    (hf : (f (s.chan ch)).AtRest) : (s.modChan ch f).Standing strict b ch where
  but := h.modChan f
  rest := by rw [State.chan_modChan_self]; exact hf
  notQueued := hq
  notHolding := hh

theorem postStopped (h : s.Standing strict b ch) (cause : Option HaltCause) (byReset : Bool) :
    (s.postStopped ch cause byReset).Standing strict b ch := by
  unfold State.postStopped
  cases cause <;> cases byReset
  · exact h
  · exact h.postChan ..
  · exact h.postChan ..
  · exact (h.postChan ..).postChan ..

end State.Standing

theorem State.postStopped_chan (s : State) (ch d : Chan) (cause : Option HaltCause) (byReset : Bool) :
    (s.postStopped ch cause byReset).chan d = s.chan d := by
  unfold State.postStopped
  cases cause <;> cases byReset <;> simp

section
variable (h : SeatsBut strict b ch s) (hbraked : (s.chan ch).Braked) (hq : s.NotQueued ch)
include h hbraked hq

theorem SeatsBut.endArrive (hh : s.NotHolding ch) : Seats strict b (s.endArrive ch) := by
  have rest := (hbraked.learn.timeMove.leaveBraking .idle)
  have standing := State.Standing.leaveBraking (f := fun c =>
    { (c.learn.timeMove).leaveBraking .idle with motion := { ((c.learn.timeMove).leaveBraking .idle).motion with retry := 0 } })
    h hq hh ⟨⟨⟨rest.enabled, rest.ranked⟩, rest.fault, rest.restTimer, rest.dwellTimer⟩, rest.settleTimer, rest.stop, rest.off, rest.legs⟩
  exact (standing.postChan ..).settleAtRest

theorem SeatsBut.endAtEnd (hh : s.NotHolding ch) : Seats strict b (s.endAtEnd ch) := by
  have rest := hbraked.leaveBraking .idle
  have standing := State.Standing.leaveBraking (f := fun c =>
    { c.leaveBraking .idle with
      motion := { (c.leaveBraking .idle).motion with retry := 0, referenced := true }
      travel := { (c.leaveBraking .idle).travel with
        position := if c.motion.dir = some .opening then (c.profile.travel : Int) else 0 } })
    h hq hh ⟨⟨⟨rest.enabled, rest.ranked⟩, rest.fault, rest.restTimer, rest.dwellTimer⟩, rest.settleTimer, rest.stop, rest.off, rest.legs⟩
  unfold State.endAtEnd
  dsimp only
  split
  · refine Seats.retarget (State.Standing.seats_of_idle ((standing.postChan ..).postChan ..) ?_) ch
    rw [State.chan_postChan, State.chan_postChan, State.chan_modChan_self]
    rfl
  · exact (standing.postChan ..).settleAtRest

theorem SeatsBut.endStop (hh : s.NotHolding ch) : Seats strict b (s.endStop ch) := by
  have rest := hbraked.timeMove.leaveBraking .idle
  have standing := State.Standing.leaveBraking (f := fun c =>
    { c.timeMove.leaveBraking .idle with
      motion := { (c.timeMove.leaveBraking .idle).motion with haltCause := none, afterBackoff := false } })
    h hq hh ⟨⟨⟨rest.enabled, rest.ranked⟩, rest.fault, rest.restTimer, rest.dwellTimer⟩, rest.settleTimer, rest.stop, rest.off, rest.legs⟩
  have posted := standing.postStopped (s.chan ch).motion.haltCause (s.chan ch).motion.byReset
  unfold State.endStop
  dsimp only
  split
  · exact posted.enterDwell
  · split
    · refine posted.seats_of_idle ?_
      rw [State.postStopped_chan, State.chan_modChan_self]
      rfl
    · exact KeptInside.choice posted.settleAtRest posted.enterDwell

/-- BRAKING(OBSTRUCT) ends with its share kept for a backoff, or given up (R66). -/
theorem SeatsBut.endObstruct (hstate : (s.chan ch).motion.state = .braking)
    (hdir : (s.chan ch).motion.dir.isSome = true) (hreset : (s.chan ch).motion.byReset = false)
    (hholds : ∃ e ∈ s.admission.holders, e.chan = ch)
    (hweight : ∀ e ∈ s.admission.holders, e.chan = ch → e.weight = (s.chan ch).profile.weight) :
    Seats strict b (s.endObstruct ch) := by
  have rest := hbraked.leaveBraking .idle
  have raised : Channel.AtRest { (s.chan ch).leaveBraking .idle with
      motion := { ((s.chan ch).leaveBraking .idle).motion with retry := ((s.chan ch).leaveBraking .idle).motion.retry + 1 } } :=
    ⟨⟨⟨rest.enabled, rest.ranked⟩, rest.fault, rest.restTimer, rest.dwellTimer⟩, rest.settleTimer, rest.stop, rest.off, rest.legs⟩
  unfold State.endObstruct
  dsimp only
  split
  · exact h.faultChannel hbraked.toAble (by rw [hstate]; nofun) .obstructed
  · split
    · refine State.Standing.enterDwell ⟨(h.modChan _).releaseShare, ?_, hq, fun e he => (mem_dropChan.1 he).2⟩
      rw [State.chan_releaseShare, State.chan_modChan_self]
      exact raised
    · rw [State.modChan_modChan]
      refine (h.modChan _).seats ⟨?_, ?_, fun e he hc => absurd hc (hq e he), ?_, fun e he hc => ?_⟩
      · rw [State.chan_modChan_self]
        exact raised.channelOk_enterBackoff _ hdir hreset
      · rw [State.chan_modChan_self]
        exact iff_of_false nofun fun ⟨e, he, hc⟩ => hq e he hc
      · rw [State.chan_modChan_self]
        exact iff_of_true rfl hholds
      · rw [State.chan_modChan_self]
        exact hweight e he hc

end

/-- The brake-settle timer runs in BRAKING alone. -/
theorem Channel.Agrees.braking_of_due {c : Channel} (h : c.Agrees) (hdue : timerDue c.motion.settleTimer = true) :
    c.motion.state = .braking := by
  refine h.braking.2 ?_
  simp only [timerDue, beq_iff_eq] at hdue
  rw [hdue]; rfl

theorem Channel.Agrees.dwell_of_due {c : Channel} (h : c.Agrees) (hdue : timerDue c.motion.dwellTimer = true) :
    c.motion.state = .dwell := by
  refine h.dwell.2 ?_
  simp only [timerDue, beq_iff_eq] at hdue
  rw [hdue]; rfl

theorem Seats.settleExpired (h : Seats strict b s) (ch : Chan) : Seats strict b (s.settleExpired ch) := by
  unfold State.settleExpired
  dsimp only
  split
  · rename_i hdue
    have agrees := channelOk_iff.1 (h.seat ch).channel
    have hstate := agrees.braking_of_due hdue
    have braked := agrees.braked hstate
    have hq : s.NotQueued ch := (h.seat ch).notQueued (by rw [hstate]; nofun)
    have stopped : ((s.modChan ch (fun c => { c with motion := { c.motion with settleTimer := none } })).chan ch).Braked := by
      rw [State.chan_modChan_self]
      exact ⟨⟨⟨braked.enabled, braked.ranked⟩, braked.fault, braked.restTimer, braked.dwellTimer⟩, braked.off⟩
    have but := (h.but ch).modChan (fun c => { c with motion := { c.motion with settleTimer := none } })
    have hchan := State.chan_modChan_self s ch (fun c => { c with motion := { c.motion with settleTimer := none } })
    have free (hreason : (s.chan ch).motion.reason ≠ some .obstruct) : s.NotHolding ch :=
      (h.seat ch).notHolding (by unfold holdsShare; rw [hstate]; simpa using hreason)
    rw [if_pos (by rw [hchan]; exact hstate)]
    unfold State.endBraking
    rw [hchan]
    dsimp only
    split <;> rename_i hreason
    · exact but.endArrive stopped hq (free (by rw [hreason]; nofun))
    · exact but.endAtEnd stopped hq (free (by rw [hreason]; nofun))
    · have hshare : holdsShare (s.chan ch) = true := by unfold holdsShare; rw [hstate, hreason]; rfl
      refine but.endObstruct stopped hq ?_ ?_ ?_ ((h.seat ch).sharing.1 hshare) fun e he hc => ?_
      · rw [hchan]; exact hstate
      · rw [hchan]; exact agrees.dir hshare
      · rw [hchan]; exact agrees.byReset hshare
      · rw [hchan]; exact (h.seat ch).weight e he hc
    · exact but.endStop stopped hq (free (by rw [hreason]; nofun))
    · exact but.endStop stopped hq (free (by rw [hreason]; nofun))
  · exact h

theorem Seats.dwellExpired (h : Seats strict b s) (ch : Chan) : Seats strict b (s.dwellExpired ch) := by
  unfold State.dwellExpired
  dsimp only
  split
  · rename_i hdue
    have agrees := channelOk_iff.1 (h.seat ch).channel
    have hstate := agrees.dwell_of_due hdue
    rw [if_pos (by rw [State.chan_modChan_self]; exact hstate)]
    exact (State.Standing.of_free h (by rw [hstate]; nofun) (by unfold holdsShare; rw [hstate])
      (agrees.atRest_of_dwell hstate)).settleAtRest
  · exact h

/-! ### Driven channels that brake or fault -/

section
variable (h : Seats strict b s) (hdriven : isDriven (s.chan ch).motion.state = true)
include h hdriven

theorem Seats.notQueued_of_driven : s.NotQueued ch :=
  (h.seat ch).notQueued fun hs => by rw [hs] at hdriven; cases hdriven

/-- A driven channel brakes, for whatever reason. -/
theorem Seats.brake (reason : BrakingReason) (cause : Option HaltCause) (afterBackoff : Bool) :
    Seats strict b (s.brake ch reason cause afterBackoff) := by
  by_cases hreason : reason = .obstruct
  · rw [hreason]; exact h.brake_obstruct hdriven cause afterBackoff
  · exact (h.but ch).brake ((channelOk_iff.1 (h.seat ch).channel).ready_of_driven hdriven) (h.notQueued_of_driven hdriven) hreason ..

theorem Seats.faultDriven (code : FaultCode) : Seats strict b (s.faultChannel ch code) :=
  (h.but ch).faultChannel ((channelOk_iff.1 (h.seat ch).channel).ready_of_driven hdriven).toAble
    (fun hs => by rw [hs] at hdriven; cases hdriven) code

end

theorem Seats.timedArrives (h : Seats strict b s) (ch : Chan) : Seats strict b (s.timedArrives ch) := by
  unfold State.timedArrives
  split
  · rename_i hreached
    refine h.brake ?_ ..
    simp only [durationReached, Bool.and_eq_true, beq_iff_eq] at hreached
    rw [hreached.1.1]; rfl
  · exact h

/-- What removes the drive takes the stall timer and the filters with it, so that it does not matter whether one of them was stopped
before (R99, R106, R108). -/
theorem State.brake_modChan {f g : Channel → Channel} (reason : BrakingReason) (cause : Option HaltCause) (afterBackoff : Bool)
    (hf : (f (s.chan ch)).enterBraking reason cause afterBackoff = (g (s.chan ch)).enterBraking reason cause afterBackoff) :
    (s.modChan ch f).brake ch reason cause afterBackoff = (s.modChan ch g).brake ch reason cause afterBackoff := by
  have entered : s.modChan ch (fun c => (f c).enterBraking reason cause afterBackoff)
      = s.modChan ch (fun c => (g c).enterBraking reason cause afterBackoff) :=
    congrArg (fun c => ({ s with chans := s.chans.set ch c } : State)) hf
  unfold State.brake
  rw [State.modChan_modChan, State.modChan_modChan, entered]

/-- The driven states (R47). -/
theorem isDriven_iff {m : MotionState} : isDriven m = true ↔ m = .moving ∨ m = .backoff := by
  cases m <;> simp [isDriven]

/-- Resistance to a driven channel ends its drive in one of the ways of Tables 5.2 and 5.5. -/
theorem Seats.resistance {elsewhere : State → State} (hdriven : isDriven (s.chan ch).motion.state = true)
    (hbrake : ∀ reason ab, Seats strict b (s.brake ch reason none ab)) (helse : Seats strict b (elsewhere s)) :
    Seats strict b (s.resistance ch elsewhere) := by
  unfold State.resistance
  dsimp only
  split
  · split
    · exact hbrake _ _
    · exact KeptInside.choice (hbrake _ _) helse
    · exact hbrake _ _
  · exact hbrake _ _
  · rename_i hmoving hbackoff
    exact ((isDriven_iff.1 hdriven).elim hmoving hbackoff).elim

/-- The stall timer runs on driven channels alone. -/
theorem Channel.Agrees.driven_of_stall {c : Channel} (h : c.Agrees) (hdue : timerDue c.travel.stall = true) :
    isDriven c.motion.state = true := by
  by_contra hnot
  obtain ⟨-, -, -, -, -, -, hstall, -⟩ := h.off (Bool.eq_false_iff.2 hnot)
  rw [hstall] at hdue
  cases hdue

theorem Channel.Agrees.driven_of_filter {c : Channel} (h : c.Agrees) (hdue : timerDue c.current.filter = true) :
    isDriven c.motion.state = true := by
  by_contra hnot
  obtain ⟨-, -, -, -, -, -, -, -, -, hfilter, -⟩ := h.off (Bool.eq_false_iff.2 hnot)
  rw [hfilter] at hdue
  cases hdue

theorem Channel.Agrees.driven_of_short {c : Channel} (h : c.Agrees) (hdue : timerDue c.current.short = true) :
    isDriven c.motion.state = true := by
  by_contra hnot
  obtain ⟨-, -, -, -, -, -, -, -, -, -, hshort⟩ := h.off (Bool.eq_false_iff.2 hnot)
  rw [hshort] at hdue
  cases hdue

theorem State.modChan_id (s : State) (ch : Chan) : s.modChan ch (fun c => c) = s := State.modChan_of_fixed rfl

/-- A driven channel's record on which a timer of its drive has been stopped: it is still ready. -/
theorem SeatsBut.fault_modChan {f : Channel → Channel} (h : Seats strict b s) (hdriven : isDriven (s.chan ch).motion.state = true)
    (hprofile : (f (s.chan ch)).profile = (s.chan ch).profile) (hmotion : (f (s.chan ch)).motion = (s.chan ch).motion)
    (code : FaultCode) : Seats strict b ((s.modChan ch f).faultChannel ch code) := by
  have ready := (channelOk_iff.1 (h.seat ch).channel).ready_of_driven hdriven
  refine ((h.but ch).modChan f).faultChannel ?_ ?_ code
  · rw [State.chan_modChan_self]
    exact ⟨by rw [hprofile]; exact ready.enabled, by rw [hmotion]; exact ready.ranked⟩
  · rw [State.chan_modChan_self, hmotion]
    intro hs
    rw [hs] at hdriven; cases hdriven

theorem Seats.stallExpires (h : Seats strict b s) (ch : Chan) : Seats strict b (s.stallExpires ch) := by
  unfold State.stallExpires
  dsimp only
  split
  · rename_i hdue
    have hdriven := (channelOk_iff.1 (h.seat ch).channel).driven_of_stall hdue
    refine Seats.resistance (by rw [State.chan_modChan_self]; exact hdriven) (fun reason ab => ?_)
      (SeatsBut.fault_modChan h hdriven rfl rfl .stalled)
    rw [State.brake_modChan (g := fun c => c) _ _ _ rfl, State.modChan_id]
    exact h.brake hdriven ..
  · exact h

theorem Seats.filterExpires (h : Seats strict b s) (ch : Chan) : Seats strict b (s.filterExpires ch) := by
  unfold State.filterExpires
  dsimp only
  split
  · rename_i hdue
    have agrees := channelOk_iff.1 (h.seat ch).channel
    have hdriven := agrees.driven_of_filter hdue
    have limited : Seats strict b (s.modChan ch (fun c => { c with
        current := { c.current with filter := none }
        motion := { c.motion with timedLimit :=
          c.motion.timedLimit || (c.motion.state == .moving && c.motion.moveKind == some .timed) } })) :=
      h.modChan ⟨rfl, rfl, fun _ => rfl, rfl⟩
        (channelOk_iff.2 { agrees with off := fun hs => absurd (hdriven.symm.trans hs) nofun })
    have hdriven' : isDriven ((s.modChan ch (fun c => { c with
        current := { c.current with filter := none }
        motion := { c.motion with timedLimit :=
          c.motion.timedLimit || (c.motion.state == .moving && c.motion.moveKind == some .timed) } })).chan ch).motion.state
        = true := by rw [State.chan_modChan_self]; exact hdriven
    exact Seats.resistance hdriven' (fun reason ab => limited.brake hdriven' ..) (limited.brake hdriven' ..)
  · exact h

theorem Seats.shortExpires (h : Seats strict b s) (ch : Chan) : Seats strict b (s.shortExpires ch) := by
  unfold State.shortExpires
  dsimp only
  split
  · rename_i hdue
    have hdriven := (channelOk_iff.1 (h.seat ch).channel).driven_of_short hdue
    rw [if_pos (by rw [State.chan_modChan_self]; exact hdriven)]
    exact SeatsBut.fault_modChan h hdriven rfl rfl .short
  · exact h

/-! ### A pulse (R54 to R56, R67, R73, R95 to R99) -/

/-- A counted pulse leaves the law of the channel, but for the movement that a WAITING one waits for. -/
theorem Channel.Agrees.countPulse {c : Channel} (h : c.Agrees) (now : Nat)
    (hwaiting : c.motion.state = .waiting → (moveNeeded (c.countPulse now)).isSome = true) : ChannelOk (c.countPulse now) := by
  refine channelOk_iff.2 { h with rest := fun hr => ?_, braking := ?_, waiting := hwaiting, stall := fun hs => ?_, off := fun hs => ?_ }
  · simp only [Channel.countPulse] at hr
    split at hr
    · rename_i hstate; exact hstate
    · exact h.rest hr
  · simp only [Channel.countPulse]
    split
    · rename_i hstate; exact iff_of_true hstate rfl
    · exact h.braking
  · have hs' : isDriven c.motion.state = true := hs
    simp only [Channel.countPulse, hs', if_true, Option.isSome_some]
  · have hs' : isDriven c.motion.state = false := hs
    obtain ⟨h1, h2, h3, h4, h5, h6, h7, h8, h9, h10, h11⟩ := h.off hs
    refine ⟨h1, h2, h3, h4, h5, h6, ?_, h8, h9, h10, h11⟩
    simp only [Channel.countPulse, hs']
    exact h7

theorem Channel.sameSeat_countPulse (c : Channel) (now : Nat) : c.SameSeat (c.countPulse now) := ⟨rfl, rfl, fun _ => rfl, rfl⟩

theorem Channel.AtRest.countPulse {c : Channel} (h : c.AtRest) (hstate : c.motion.state = .idle ∨ c.motion.state = .waiting)
    (now : Nat) : (c.countPulse now).AtRest := by
  obtain ⟨h1, h2, h3, h4, h5, h6, h7, h8, h9, h10, h11⟩ := h.off
  refine ⟨⟨⟨h.enabled, h.ranked⟩, h.fault, ?_, h.dwellTimer⟩, ?_, h.stop, ⟨h1, h2, h3, h4, h5, h6, ?_, h8, h9, h10, h11⟩, h.legs⟩
  · rcases hstate with hs | hs <;> simpa [Channel.countPulse, hs] using h.restTimer
  · rcases hstate with hs | hs <;> simpa [Channel.countPulse, hs] using h.settleTimer
  · rcases hstate with hs | hs <;> simpa [Channel.countPulse, hs, isDriven] using h7

theorem Channel.Able.countPulse {c : Channel} (h : c.Able) (now : Nat) : (c.countPulse now).Able := ⟨h.enabled, h.ranked⟩

/-- A pulse on an unreferenced channel leaves the movement that its target asks for. -/
theorem moveNeeded_countPulse_of_unreferenced {c : Channel} (h : c.motion.referenced = false) (now : Nat) :
    moveNeeded (c.countPulse now) = moveNeeded c := by
  cases ht : c.motion.hand.target with
  | none => rw [moveNeeded_of_no_target ht, moveNeeded_of_no_target (c := c.countPulse now) ht]
  | pulses t =>
    rw [moveNeeded_pulses_of_unreferenced ht h, moveNeeded_pulses_of_unreferenced (c := c.countPulse now) ht h]
  | level d =>
    rw [moveNeeded_level_of_unreferenced ht h, moveNeeded_level_of_unreferenced (c := c.countPulse now) ht h]
    rfl

/-- The record of a channel that has lost its reference (R73), in the motion state `m`. -/
def Channel.loseReference (c : Channel) (m : MotionState) : Channel :=
  { c with motion := { c.motion with referenced := false, timedEst := 0, state := m }, travel := { c.travel with drift := 0 } }

theorem State.dropReference_of_waiting (h : (s.chan ch).motion.state = .waiting) :
    s.dropReference ch = ((s.modChan ch (·.loseReference .idle)).postChan ch .drift none
      (byteOf (s.chan ch).profile.driftLimit)).leaveQueue ch := by
  unfold State.dropReference
  simp only [h, beq_self_eq_true, if_true, State.chan_modChan_self]
  rfl

theorem State.dropReference_of_not_waiting (h : (s.chan ch).motion.state ≠ .waiting) :
    s.dropReference ch = (s.modChan ch (fun c => c.loseReference c.motion.state)).postChan ch .drift none
      (byteOf (s.chan ch).profile.driftLimit) := by
  unfold State.dropReference
  simp only [beq_eq_false_iff_ne.2 h, Bool.false_eq_true, if_false, State.chan_modChan_self]
  rfl

/-- The loss of the reference (R73): a WAITING channel leaves the start queue for IDLE. -/
theorem Seats.dropReference (h : Seats strict b s) (now : Nat) :
    Seats strict b ((s.modChan ch (fun c => c.countPulse now)).dropReference ch) := by
  have agrees := channelOk_iff.1 (h.seat ch).channel
  have hcounted : ((s.modChan ch (fun c => c.countPulse now)).chan ch).motion.state = (s.chan ch).motion.state := by
    rw [State.chan_modChan_self]; rfl
  by_cases hwaiting : (s.chan ch).motion.state = .waiting
  · rw [State.dropReference_of_waiting (hcounted.trans hwaiting), State.modChan_modChan]
    have rest := (agrees.atRest (.inr hwaiting)).countPulse (.inr hwaiting) now
    have left := State.Standing.seats_idle_of_waiting (f := fun c => (c.countPulse now).loseReference .idle) h hwaiting
      ⟨⟨⟨rest.enabled, rest.ranked⟩, rest.fault, rest.restTimer, rest.dwellTimer⟩, rest.settleTimer, rest.stop, rest.off, rest.legs⟩ rfl
    exact left.of_eq (by simp) (by simp [State.leaveQueue, State.setQueue])
  · have counted := channelOk_iff.1 (agrees.countPulse now fun hs => absurd hs hwaiting)
    rw [State.dropReference_of_not_waiting fun hs => hwaiting (hcounted.symm.trans hs), State.modChan_modChan]
    have lost : Seats strict b (s.modChan ch (fun c => (c.countPulse now).loseReference (c.countPulse now).motion.state)) :=
      h.modChan ⟨rfl, rfl, fun hs => absurd hs hwaiting, rfl⟩
        (channelOk_iff.2 { counted with waiting := fun hs => absurd hs hwaiting })
    exact lost.of_eq (by simp) (by simp)

/-- A drift pulse within the limit (R73). -/
theorem Seats.driftPulse (h : Seats strict b s) (now : Nat) :
    (s.chan ch).motion.state = .idle ∨ (s.chan ch).motion.state = .waiting ∨ (s.chan ch).motion.state = .dwell →
    Seats strict b ((s.modChan ch (fun c => c.countPulse now)).driftPulse ch) := by
  intro hstate
  have agrees := channelOk_iff.1 (h.seat ch).channel
  have counted (hw : (s.chan ch).motion.state ≠ .waiting) : Seats strict b (s.modChan ch (fun c => c.countPulse now)) :=
    h.modChan (Channel.sameSeat_countPulse _ now) (agrees.countPulse now fun hs => absurd hs hw)
  have hcounted : ((s.modChan ch (fun c => c.countPulse now)).chan ch).motion.state = (s.chan ch).motion.state := by
    rw [State.chan_modChan_self]; rfl
  unfold State.driftPulse
  dsimp only
  split
  · rename_i move hidle _
    rw [hcounted] at hidle
    exact (State.Standing.of_free h (by rw [hidle]; nofun) (by unfold holdsShare; rw [hidle])
      ((agrees.atRest (.inl hidle)).countPulse (.inl hidle) now)).settleAtRest
  · rename_i hwaiting _
    rw [hcounted] at hwaiting
    rw [State.modChan_modChan]
    exact State.Standing.seats_idle_of_waiting (f := fun c => (c.countPulse now).inState .idle) h hwaiting
      (((agrees.atRest (.inr hwaiting)).countPulse (.inr hwaiting) now).inState .idle) rfl
  · rename_i hidle hnone
    rcases hstate with hs | hs | hs
    · exact counted (by rw [hs]; nofun)
    · refine h.modChan (Channel.sameSeat_countPulse _ now) (agrees.countPulse now fun _ => ?_)
      refine Option.isSome_iff_ne_none.2 fun hmove => hnone (hcounted.trans hs) ?_
      rw [State.chan_modChan_self]; exact hmove
    · exact counted (by rw [hs]; nofun)

/-- An ordinary pulse on a driven channel (R54 to R56, R67). -/
theorem Seats.actOnPulse_of_driven (h : Seats strict b s) (hdriven : isDriven (s.chan ch).motion.state = true) :
    Seats strict b (s.actOnPulse ch) := by
  have agrees := channelOk_iff.1 (h.seat ch).channel
  unfold State.actOnPulse
  dsimp only
  cases hs : (s.chan ch).motion.state with
  | moving =>
    dsimp only
    split
    · refine KeptInside.choice (h.brake hdriven ..) (KeptInside.choice (h.modChan ⟨rfl, rfl, fun _ => rfl, rfl⟩ ?_) h)
      exact channelOk_iff.2 { agrees with off := fun hs => absurd (hdriven.symm.trans hs) nofun }
    · exact h
  | backoff => exact KeptInside.choice (h.brake hdriven ..) h
  | disabled | idle | waiting | braking | dwell | faulted => rw [hs] at hdriven; cases hdriven

theorem isTravelEvent_state {c : Channel} (h : isTravelEvent c = true) :
    c.motion.state ≠ .disabled ∧ c.motion.state ≠ .faulted := by
  simp only [isTravelEvent, Bool.and_eq_true, bne_iff_ne] at h
  exact h.1

/-- A pulse keeps the seats (R95). -/
theorem Seats.takePulse (h : Seats strict b s) (ch : Chan) : Seats strict b (s.takePulse ch) := by
  have agrees := channelOk_iff.1 (h.seat ch).channel
  unfold State.takePulse
  dsimp only
  split
  · rename_i htravel
    obtain ⟨hdisabled, hfaulted⟩ := isTravelEvent_state htravel
    refine ((h.but ch).modChan _).faultChannel ?_ ?_ .travel
    · rw [State.chan_modChan_self]; exact (agrees.able hdisabled).countPulse _
    · rw [State.chan_modChan_self]; exact hfaulted
  · split
    · exact h.dropReference _
    · have hcounted : ((s.modChan ch (fun c => c.countPulse s.clock.tenths)).chan ch).motion.state = (s.chan ch).motion.state := by
        rw [State.chan_modChan_self]; rfl
      have counted (hw : (s.chan ch).motion.state = .waiting → (s.chan ch).motion.referenced = false) :
          Seats strict b (s.modChan ch (fun c => c.countPulse s.clock.tenths)) := by
        refine h.modChan (Channel.sameSeat_countPulse _ _) (agrees.countPulse _ fun hs => ?_)
        rw [moveNeeded_countPulse_of_unreferenced (hw hs)]
        exact agrees.waiting hs
      by_cases hdriven : isDriven (s.chan ch).motion.state = true
      · exact (counted fun hs => by rw [hs] at hdriven; cases hdriven).actOnPulse_of_driven (by rw [hcounted]; exact hdriven)
      · have standing (hrest : (s.chan ch).motion.state = .idle ∨ (s.chan ch).motion.state = .waiting
            ∨ (s.chan ch).motion.state = .dwell) :
            Seats strict b (if ((s.modChan ch (fun c => c.countPulse s.clock.tenths)).chan ch).motion.referenced then
              (s.modChan ch (fun c => c.countPulse s.clock.tenths)).driftPulse ch
              else s.modChan ch (fun c => c.countPulse s.clock.tenths)) := by
          split
          · exact h.driftPulse _ hrest
          · rename_i href
            rw [State.chan_modChan_self] at href
            exact counted fun _ => Bool.eq_false_iff.2 href
        unfold State.actOnPulse
        dsimp only
        rw [hcounted]
        cases hs : (s.chan ch).motion.state with
        | moving | backoff => rw [hs] at hdriven; exact absurd rfl hdriven
        | idle => exact standing (.inl hs)
        | waiting => exact standing (.inr (.inl hs))
        | dwell => exact standing (.inr (.inr hs))
        | disabled | braking | faulted => exact counted fun hw => absurd (hs.symm.trans hw) nofun

end Sys2Proof.Machine
end

section
/-! SUPPORT. A cleared fault, a STATION RESET, the sampling and the ramp keep the seats; all the events of one channel's motion. -/

namespace Sys2Proof.Machine

variable {strict : Bool} {b : Nat} {ch : Chan} {s u : State}

/-! ### A cleared fault (R72) -/

theorem Seats.clearChannel (h : Seats strict b s) (ch : Chan) : Seats strict b (s.clearChannel ch).state := by
  have agrees := channelOk_iff.1 (h.seat ch).channel
  unfold State.clearChannel
  dsimp only
  split
  · exact h
  · rename_i hnot
    have hstate : (s.chan ch).motion.state = .faulted := Classical.not_not.1 hnot
    have able := agrees.able (by rw [hstate]; nofun)
    have rest : (Channel.clearFault (s.chan ch)).AtRest :=
      ⟨⟨⟨able.enabled, able.ranked⟩, rfl, rfl, agrees.dwellTimer_eq_none (by rw [hstate]; nofun)⟩,
        agrees.settleTimer_eq_none (by rw [hstate]; nofun), agrees.stop_eq_none (by rw [hstate]; nofun) (by rw [hstate]; nofun),
        agrees.off (by rw [hstate]; rfl), agrees.legs.trans (by rw [hstate]; rfl)⟩
    split
    · have standing := State.Standing.of_free h (by rw [hstate]; nofun) (by unfold holdsShare; rw [hstate]) rest
      refine Seats.retarget (State.Standing.seats_of_idle (standing.postChan ..) ?_) ch
      rw [State.chan_postChan, State.chan_modChan_self]
      rfl
    · exact h

/-! ### STATION RESET (R74, R170) -/

/-- What the motion engine's response to STATION RESET ends with (R74). -/
def Channel.endRetries (c : Channel) : Channel := { c with motion := { c.motion with retry := 0, afterBackoff := false } }

theorem Seats.endRetries (h : Seats strict b s) (ch : Chan) : Seats strict b (s.modChan ch Channel.endRetries) :=
  h.modChan ⟨rfl, rfl, fun _ => rfl, rfl⟩ (channelOk_iff.2 { channelOk_iff.1 (h.seat ch).channel with })

/-- The motion engine's response to STATION RESET, but for the retries. -/
theorem State.resetMotion_cases (s : State) (ch : Chan) :
    ∃ u, s.resetMotion ch = u.modChan ch Channel.endRetries ∧ match (s.chan ch).motion.state with
      | .moving | .backoff => u = s.brake ch .stop none false
      | .braking => u = if (s.chan ch).motion.reason = some .obstruct then
          (s.modChan ch (fun c => { c with motion := { c.motion with reason := some .stop, haltCause := none } })).releaseShare ch
          else s
      | .waiting => u = ((s.modChan ch (·.inState .idle)).leaveQueue ch).settleAtRest ch
      | .dwell => u = (s.modChan ch (fun c =>
          { c with motion := { c.motion with state := .idle, dwellTimer := none } })).settleAtRest ch
      | _ => u = s := by
  unfold State.resetMotion
  refine ⟨_, rfl, ?_⟩
  cases (s.chan ch).motion.state <;> rfl

theorem Seats.resetMotion (h : Seats strict b s) (ch : Chan) : Seats strict b (s.resetMotion ch) := by
  have agrees := channelOk_iff.1 (h.seat ch).channel
  obtain ⟨u, hu, hcase⟩ := s.resetMotion_cases ch
  rw [hu]
  refine Seats.endRetries ?_ ch
  cases hs : (s.chan ch).motion.state with
  | moving | backoff => rw [hs] at hcase; rw [hcase]; exact h.brake (by rw [hs]; rfl) ..
  | waiting =>
    rw [hs] at hcase
    rw [hcase]
    exact (State.Standing.of_waiting h hs ((agrees.atRest (.inr hs)).inState .idle)).settleAtRest
  | dwell =>
    rw [hs] at hcase
    rw [hcase]
    refine (State.Standing.of_free (f := fun c => { c with motion := { c.motion with state := .idle, dwellTimer := none } })
      h (by rw [hs]; nofun) (by unfold holdsShare; rw [hs]) ?_).settleAtRest
    exact (agrees.atRest_of_dwell hs).inState .idle
  | braking =>
    rw [hs] at hcase
    rw [hcase]
    split
    · have hchan : ((s.modChan ch (fun c =>
          { c with motion := { c.motion with reason := some .stop, haltCause := none } })).releaseShare ch).chan ch
          = { s.chan ch with motion := { (s.chan ch).motion with reason := some .stop, haltCause := none } } := by
        rw [State.chan_releaseShare, State.chan_modChan_self]
      have unshared : holdsShare { s.chan ch with motion := { (s.chan ch).motion with reason := some .stop, haltCause := none } }
          = false := by unfold holdsShare; rw [hs]; rfl
      refine (((h.but ch).modChan _).releaseShare).seats (.of_free ?_ ?_ ?_ ((h.seat ch).notQueued (by rw [hs]; nofun))
        fun e he => (mem_dropChan.1 he).2)
      · rw [hchan]
        exact channelOk_iff.2 { agrees with
          dir := fun hd => absurd (unshared.symm.trans hd) nofun, byReset := fun hd => absurd (unshared.symm.trans hd) nofun }
      · rw [hchan, hs]; nofun
      · rw [hchan]; exact unshared
    · exact h
  | disabled | idle | faulted => rw [hs] at hcase; rw [hcase]; exact h

/-- After the motion engine's response to STATION RESET the channel holds no share (R74). -/
theorem State.resetMotion_unshared (s : State) (ch : Chan) : holdsShare ((s.resetMotion ch).chan ch) = false := by
  obtain ⟨u, hu, hcase⟩ := s.resetMotion_cases ch
  have settled (v : State) : holdsShare ((v.settleAtRest ch).chan ch) = false := by
    have htests := v.settleAtRest_tests ch
    unfold TestsTarget at htests
    unfold holdsShare
    split at htests <;> rw [htests.1]
  rw [hu, State.chan_modChan_self]
  change holdsShare (u.chan ch) = false
  cases hs : (s.chan ch).motion.state with
  | moving | backoff => rw [hs] at hcase; rw [hcase]; simp [State.brake, holdsShare, Channel.enterBraking]
  | waiting | dwell => rw [hs] at hcase; rw [hcase]; exact settled _
  | braking =>
    rw [hs] at hcase
    rw [hcase]
    split
    · rw [State.chan_releaseShare, State.chan_modChan_self]; unfold holdsShare; rw [hs]; rfl
    · rename_i hreason
      unfold holdsShare; rw [hs]; simpa using hreason
  | disabled | idle | faulted => rw [hs] at hcase; rw [hcase]; unfold holdsShare; rw [hs]

/-- A driven channel brakes to a stop at a STATION RESET. -/
theorem State.resetMotion_of_driven (h : isDriven (s.chan ch).motion.state = true) :
    ((s.resetMotion ch).chan ch).motion.state = .braking ∧ ((s.resetMotion ch).chan ch).motion.reason = some .stop := by
  obtain ⟨u, hu, hcase⟩ := s.resetMotion_cases ch
  have hbrake : u = s.brake ch .stop none false := by
    rcases isDriven_iff.1 h with hs | hs <;> rw [hs] at hcase <;> exact hcase
  rw [hu, hbrake, State.chan_modChan_self]
  simp [State.brake, Channel.enterBraking, Channel.endRetries]

/-- A channel in BRAKING only stores its re-target (R49). -/
theorem State.retarget_of_braking (h : (s.chan ch).motion.state = .braking) :
    (s.retarget ch).chan ch = (s.chan ch).takeInHand s.weather := by
  obtain ⟨changed, hretarget⟩ := State.retarget_of_enabled (s := s) (ch := ch) (by rw [h]; nofun)
  have hstate : ((s.modChan ch (·.takeInHand s.weather)).chan ch).motion.state = .braking := by
    rw [State.chan_modChan_self]; exact h
  rw [hretarget, State.passRank_chan, State.actOnTarget, hstate]
  exact State.chan_modChan_self ..

/-- STATION RESET on one channel keeps the seats; a channel found driven holds no share any more, so that its mark may be set. -/
theorem Seats.resetChannel (h : Seats strict b s) (ch : Chan) (changed : Bool) : Seats strict b (s.resetChannel ch changed) := by
  have ordered : Seats strict b s.freeOrder.2 := h.of_eq rfl rfl
  have retargeted {v : State} (hv : Seats strict b v) : Seats strict b (if changed then v.retarget ch else v) :=
    KeptInside.choice (hv.retarget ch) hv
  unfold State.resetChannel
  dsimp only
  have reset : Seats strict b (if s.freeOrder.1 then (if changed then (s.freeOrder.2.resetMotion ch).retarget ch
      else s.freeOrder.2.resetMotion ch) else (if changed then s.freeOrder.2.retarget ch else s.freeOrder.2).resetMotion ch) :=
    KeptInside.choice (retargeted (ordered.resetMotion ch)) ((retargeted ordered).resetMotion ch)
  have unshared (hdriven : isDriven (s.chan ch).motion.state = true) :
      holdsShare ((if s.freeOrder.1 then (if changed then (s.freeOrder.2.resetMotion ch).retarget ch
        else s.freeOrder.2.resetMotion ch)
        else (if changed then s.freeOrder.2.retarget ch else s.freeOrder.2).resetMotion ch).chan ch) = false := by
    split
    · obtain ⟨hstate, hreason⟩ := State.resetMotion_of_driven (s := s.freeOrder.2) (ch := ch) hdriven
      have stopped : holdsShare ((s.freeOrder.2.resetMotion ch).chan ch) = false := by
        unfold holdsShare; rw [hstate, hreason]; rfl
      split
      · rw [State.retarget_of_braking hstate]; exact stopped
      · exact stopped
    · exact State.resetMotion_unshared ..
  generalize (if s.freeOrder.1 then _ else _ : State) = v at reset unshared
  refine reset.modChan ⟨rfl, rfl, fun _ => rfl, rfl⟩ ?_
  have agrees := channelOk_iff.1 (reset.seat ch).channel
  refine channelOk_iff.2 { agrees with byReset := fun hshare => ?_ }
  cases hdriven : isDriven (s.chan ch).motion.state with
  | true => exact absurd ((unshared hdriven).symm.trans hshare) nofun
  | false => rw [Bool.or_false]; exact agrees.byReset hshare

/-! ### The ramp and the samples (R102, R118, R120) -/

theorem Channel.Agrees.rampStep {c : Channel} (h : c.Agrees) : ChannelOk c.rampStep ∧ c.SameSeat c.rampStep := by
  unfold Channel.rampStep
  cases hphase : c.drive.phase with
  | none =>
    refine ⟨channelOk_iff.2 { h with off := fun hs => ?_ }, ⟨rfl, rfl, fun _ => rfl, rfl⟩⟩
    obtain ⟨h1, h2, -, h4⟩ := h.off hs
    exact ⟨h1, h2, rfl, h4⟩
  | some phase =>
    refine ⟨channelOk_iff.2 { h with off := fun hs => ?_ }, ⟨rfl, rfl, fun _ => rfl, rfl⟩⟩
    obtain ⟨-, h2, -⟩ := h.off hs
    rw [hphase] at h2
    cases h2

theorem activeLimit_of_not_driven {c : Channel} (h : isDriven c.motion.state = false) : activeLimit c = none := by
  unfold activeLimit
  split
  · rename_i hs; rw [hs] at h; cases h
  · rename_i hs; rw [hs] at h; cases h
  · rfl

theorem Channel.Agrees.sampleCurrent {c : Channel} (h : c.Agrees) (v : Nat) :
    ChannelOk (c.sampleCurrent v) ∧ c.SameSeat (c.sampleCurrent v) := by
  unfold Channel.sampleCurrent
  cases hlimit : activeLimit c with
  | none => exact ⟨channelOk_iff.2 { h with off := fun hs => h.off hs }, ⟨rfl, rfl, fun _ => rfl, rfl⟩⟩
  | some limit =>
    refine ⟨channelOk_iff.2 { h with off := fun hs => ?_ }, ⟨rfl, rfl, fun _ => rfl, rfl⟩⟩
    rw [activeLimit_of_not_driven (c := c) hs] at hlimit
    cases hlimit

/-! ### Every event -/

/-- Every event of one channel's motion keeps the seats. -/
theorem Seats.motion (h : Seats strict b s) (e : s.MotionEvent ch u) : Seats strict b u := by
  have agrees := channelOk_iff.1 (h.seat ch).channel
  cases e with
  | retarget => exact h.retarget ch
  | settleExpired => exact h.settleExpired ch
  | dwellExpired => exact h.dwellExpired ch
  | timedArrives => exact h.timedArrives ch
  | takePulse => exact h.takePulse ch
  | stallExpires => exact h.stallExpires ch
  | filterExpires => exact h.filterExpires ch
  | shortExpires => exact h.shortExpires ch
  | clearChannel => exact h.clearChannel ch
  | resetChannel changed => exact h.resetChannel ch changed
  | rampStep => exact h.modChan agrees.rampStep.2 agrees.rampStep.1
  | sample v => exact h.modChan (agrees.sampleCurrent _).2 (agrees.sampleCurrent _).1
  | blankingEnds =>
    refine h.modChan ⟨rfl, rfl, fun _ => rfl, rfl⟩ (channelOk_iff.2 { agrees with off := fun hs => ?_ })
    obtain ⟨h1, h2, h3, h4, h5, h6, h7, h8, -, h10⟩ := agrees.off hs
    exact ⟨h1, h2, h3, h4, h5, h6, h7, h8, rfl, h10⟩
  | restEnds => exact h.modChan ⟨rfl, rfl, fun _ => rfl, rfl⟩ (channelOk_iff.2 { agrees with rest := nofun })
  | periodEnds => exact h.modChan ⟨rfl, rfl, fun _ => rfl, rfl⟩ (channelOk_iff.2 { agrees with })

end Sys2Proof.Machine
end

section
/-! SUPPORT. Admissions, preemptions and sheds keep the seats, and the budget computed anew brings the law of R76 back. -/

namespace Sys2Proof.Machine

variable {strict : Bool} {b : Nat} {ch : Chan} {s u : State}

/-! ### Sheds (R69, R78, R83) -/

theorem holdsShare_iff {c : Channel} : holdsShare c = true ↔
    isDriven c.motion.state = true ∨ c.motion.state = .braking ∧ c.motion.reason = some .obstruct := by
  unfold holdsShare isDriven
  cases c.motion.state <;> simp

@[simp] theorem State.shed_queue (s : State) (e : QueueEntry) (cause : HaltCause) :
    (s.shed e cause).admission.queue = s.admission.queue := by
  unfold State.shed State.shedChannel
  split
  · rfl
  · rfl
  · split <;> rfl
  · rfl

theorem dropChan_dropChan (c : Chan) (l : List QueueEntry) : dropChan c (dropChan c l) = dropChan c l := by
  simp [dropChan]

@[simp] theorem State.shed_holders (s : State) (e : QueueEntry) (cause : HaltCause) :
    (s.shed e cause).admission.holders = dropChan e.chan s.admission.holders := by
  unfold State.shed State.shedChannel
  split
  · exact dropChan_dropChan ..
  · exact dropChan_dropChan ..
  · split
    · exact dropChan_dropChan ..
    · rfl
  · rfl

/-- A shed of a share holder keeps the seats: it brakes, or brakes on to a stop, without a share (R69). -/
theorem Seats.shed (h : Seats strict b s) {e : QueueEntry} (he : e ∈ s.admission.holders) (cause : HaltCause) :
    Seats strict b (s.shed e cause) := by
  have agrees := channelOk_iff.1 (h.seat e.chan).channel
  have hshare := (h.seat e.chan).sharing.2 ⟨e, he, rfl⟩
  have but := (h.but e.chan).releaseShare
  have hchan := State.chan_releaseShare s e.chan e.chan
  unfold State.shed State.shedChannel
  rw [hchan]
  have driven (hs : isDriven (s.chan e.chan).motion.state = true) :
      Seats strict b ((s.releaseShare e.chan).brake e.chan .stop (some cause) false) :=
    but.brake (by rw [hchan]; exact agrees.ready_of_driven hs) (h.notQueued_of_driven hs) (by nofun) _ _
  cases hs : (s.chan e.chan).motion.state with
  | moving | backoff => exact driven (by rw [hs]; rfl)
  | braking =>
    have hreason : (s.chan e.chan).motion.reason = some .obstruct := by
      rcases holdsShare_iff.1 hshare with hd | ⟨-, hr⟩
      · rw [hs] at hd; cases hd
      · exact hr
    dsimp only
    rw [if_pos hreason]
    have hnew : (((s.releaseShare e.chan).modChan e.chan (fun c =>
        { c with motion := { c.motion with reason := some .stop, haltCause := some cause } })).releaseShare e.chan).chan e.chan
        = { s.chan e.chan with motion := { (s.chan e.chan).motion with reason := some .stop, haltCause := some cause } } := by
      rw [State.chan_releaseShare, State.chan_modChan_self, hchan]
    have unshared : holdsShare { s.chan e.chan with motion := { (s.chan e.chan).motion with
        reason := some .stop, haltCause := some cause } } = false := by unfold holdsShare; rw [hs]; rfl
    refine ((but.modChan _).releaseShare).seats (.of_free ?_ ?_ ?_ ((h.seat e.chan).notQueued (by rw [hs]; nofun))
      fun x hx => (mem_dropChan.1 hx).2)
    · rw [hnew]
      exact channelOk_iff.2 { agrees with
        dir := fun hd => absurd (unshared.symm.trans hd) nofun, byReset := fun hd => absurd (unshared.symm.trans hd) nofun }
    · rw [hnew, hs]; nofun
    · rw [hnew]; exact unshared
  | disabled | idle | waiting | dwell | faulted =>
    rcases holdsShare_iff.1 hshare with hd | ⟨hb, -⟩
    · rw [hs] at hd; cases hd
    · rw [hs] at hb; cases hb

theorem candidates_mem {s : State} {e : QueueEntry} (h : e ∈ candidates s) : e ∈ s.admission.holders ∧ 4 ≤ e.rank := by
  simpa [candidates] using h

theorem Seats.preemptLoop (h : Seats strict b s) (e : QueueEntry) (n : Nat) : Seats strict b (preemptLoop e n s) := by
  induction n generalizing s with
  | zero => exact h
  | succ n ih =>
    unfold Sys2Proof.Machine.preemptLoop
    split
    · exact h
    · split
      · exact h
      · rename_i x hx
        exact ih (h.shed (candidates_mem (firstShed_mem hx)).1 .preempt)

theorem Seats.shedLoop (h : Seats strict b s) (cause : HaltCause) (n : Nat) : Seats strict b (shedLoop cause n s) := by
  induction n generalizing s with
  | zero => exact h
  | succ n ih =>
    unfold Sys2Proof.Machine.shedLoop
    split
    · exact h
    · split
      · exact h
      · rename_i x hx
        exact ih (h.shed (firstShed_mem hx) cause)

/-! ### Admission (R80, R81) -/

/-- The head that fits keeps the law of R76 as it joins the share holders. -/
theorem HoldersLaw.joined {l : List QueueEntry} {x : QueueEntry} (hb : b ≠ 0)
    (hfit : l = [] ∨ totalWeight l + x.weight ≤ b) : HoldersLaw b (l ++ [x]) where
  none h := absurd h hb
  total hlen := by
    rcases hfit with rfl | hfit
    · simp at hlen
    · simpa [totalWeight] using hfit

theorem fitsBudget_iff {s : State} {e : QueueEntry} :
    fitsBudget s e = true ↔ s.admission.holders = [] ∨ totalWeight s.admission.holders + e.weight ≤ s.admission.budget := by
  simp [fitsBudget]

/-- The channel at the head of the start queue enters MOVING with its share (R53, R80). -/
theorem Seats.admitHead (h : Seats true b s) {e : QueueEntry} (he : e ∈ s.admission.queue) (hb : s.admission.budget ≠ 0)
    (hfit : fitsBudget s e = true) : Seats true b (s.admitHead e) := by
  have seat := h.seat e.chan
  have agrees := channelOk_iff.1 seat.channel
  have hstate := seat.waiting.2 ⟨e, he, rfl⟩
  obtain ⟨move, hmove⟩ := Option.isSome_iff_exists.1 (agrees.waiting hstate)
  have hnot : s.NotHolding e.chan := seat.notHolding (by unfold holdsShare; rw [hstate])
  have fits := fitsBudget_iff.1 hfit
  rw [h.budget] at hb fits
  have admitted : SeatsBut true b e.chan { s with admission := { s.admission with
      queue := dropChan e.chan s.admission.queue, holders := s.admission.holders ++ [{ e with time := s.clock.now }],
      stagger := timerOf s.settings.stagger } } := by
    refine ⟨fun d hd => (h.seat d).congr rfl (fun x hx => ?_) fun x hx => ?_, h.sorted.dropChan _, ?_, h.budget,
      fun _ => HoldersLaw.joined hb fits⟩
    · exact mem_dropChan.trans (and_iff_left (hx ▸ hd))
    · rw [List.mem_append, List.mem_singleton]
      exact or_iff_left (by rintro rfl; exact hd hx.symm)
    · refine List.pairwise_append.2 ⟨h.distinct, List.pairwise_singleton .., fun x hx y hy => ?_⟩
      rw [List.mem_singleton.1 hy]
      exact hnot x hx
  have hchan : State.chan { s with admission := { s.admission with
      queue := dropChan e.chan s.admission.queue, holders := s.admission.holders ++ [{ e with time := s.clock.now }],
      stagger := timerOf s.settings.stagger } } e.chan = s.chan e.chan := rfl
  unfold State.admitHead
  dsimp only
  rw [hchan, hmove]
  dsimp only
  refine (admitted.modChan _).seats ⟨?_, ?_, fun x hx hc => absurd hc (mem_dropChan.1 hx).2, ?_, fun x hx hc => ?_⟩
  · rw [State.chan_modChan_self]
    exact (agrees.atRest (.inr hstate)).channelOk_enterMoving ..
  · rw [State.chan_modChan_self]
    exact iff_of_false nofun fun ⟨x, hx, hc⟩ => (mem_dropChan.1 hx).2 hc
  · rw [State.chan_modChan_self]
    exact iff_of_true rfl ⟨_, List.mem_append_right _ (List.mem_singleton_self _), rfl⟩
  · rw [State.chan_modChan_self]
    rcases List.mem_append.1 hx with hx | hx
    · exact absurd hc (hnot x hx)
    · rw [List.mem_singleton.1 hx]
      exact (seat.entry e he rfl).2

theorem Seats.admitLoop (h : Seats true b s) (n : Nat) : Seats true b (admitLoop n s) := by
  induction n generalizing s with
  | zero => exact h
  | succ n ih =>
    unfold Sys2Proof.Machine.admitLoop
    split
    · exact h
    · rename_i e l hq
      have he : e ∈ s.admission.queue := by rw [hq]; exact List.mem_cons_self ..
      split
      · exact h
      · rename_i hstart
        simp only [Bool.or_eq_true, decide_eq_true_eq, not_or] at hstart
        split
        · rename_i hfit
          exact ih (h.admitHead he hstart.2 hfit)
        · split
          · have preempted : Seats true b (s.preempt e) := h.preemptLoop e _
            dsimp only
            split
            · rename_i hfit
              refine ih (preempted.admitHead ?_ ?_ hfit)
              · rw [State.preempt, preemptLoop_queue]; exact he
              · rw [preempted.budget, ← h.budget]; exact hstart.2
            · exact preempted
          · exact h

theorem Seats.evaluateAdmission (h : Seats true b s) : Seats true b s.evaluateAdmission := h.admitLoop _

theorem Seats.finish (h : Seats true b s) (before : State) : Seats true b (before.finish s) :=
  KeptInside.choice h h.evaluateAdmission

/-! ### The budget computed anew (R77, R78) -/

theorem holdersFit_iff {a : Admission} : holdersFit a = true ↔ HoldersLaw a.budget a.holders := by
  constructor
  · intro h
    simp only [holdersFit, Bool.or_eq_true, List.isEmpty_iff, Bool.and_eq_true, decide_eq_true_eq] at h
    rcases h with h | ⟨hpos, h⟩
    · exact ⟨fun _ => h, fun hlen => by rw [h] at hlen; cases hlen⟩
    · exact ⟨fun hb => by omega, fun hlen => h.resolve_left (by omega)⟩
  · intro h
    simp only [holdersFit, Bool.or_eq_true, List.isEmpty_iff, Bool.and_eq_true, decide_eq_true_eq]
    by_cases hb : a.budget = 0
    · exact .inl (h.none hb)
    · refine .inr ⟨Nat.pos_of_ne_zero hb, ?_⟩
      by_cases hlen : a.holders.length ≤ 1
      · exact .inl hlen
      · exact .inr (h.total (by omega))

theorem dropChan_length_lt {l : List QueueEntry} {e : QueueEntry} (he : e ∈ l) : (dropChan e.chan l).length < l.length := by
  refine List.length_filter_lt_length_iff_exists.2 ⟨e, he, by simp⟩

/-- Sheds end when the law of R76 holds: there are no more of them than holders. -/
theorem holdersFit_shedLoop (cause : HaltCause) (n : Nat) (s : State) (hn : s.admission.holders.length ≤ n) :
    holdersFit (shedLoop cause n s).admission = true := by
  induction n generalizing s with
  | zero =>
    have hnil : s.admission.holders = [] := List.length_eq_zero_iff.1 (Nat.le_zero.1 hn)
    simp [shedLoop, holdersFit, hnil]
  | succ n ih =>
    unfold shedLoop
    split
    · rename_i hfit; exact hfit
    · rename_i hfit
      split
      · rename_i hnone
        by_cases hnil : s.admission.holders = []
        · simp [holdersFit, hnil]
        · obtain ⟨x, hx⟩ := firstShed_isSome hnil
          rw [hx] at hnone
          cases hnone
      · rename_i x hx
        refine ih _ ?_
        have := dropChan_length_lt (firstShed_mem hx)
        rw [State.shed_holders]
        omega

/-- Under the budget of its settings and monitors the admission unit keeps the law of R76. -/
theorem Seats.rebudget (h : Seats true b s) (cause : HaltCause) : MotionOk (s.rebudget cause) := by
  let t : State := { s with admission := { s.admission with budget := budgetOf s.settings s.supply.state s.thermal.state } }
  have seats : Seats false (budgetOf s.settings s.supply.state s.thermal.state) t :=
    ⟨fun d => (h.seat d).congr rfl (fun _ _ => .rfl) (fun _ _ => .rfl), h.sorted, h.distinct, rfl, nofun⟩
  have lawful {v : State} (hv : Seats false (budgetOf s.settings s.supply.state s.thermal.state) v)
      (hrest : budgetOf v.settings v.supply.state v.thermal.state = budgetOf s.settings s.supply.state s.thermal.state)
      (law : HoldersLaw v.admission.budget v.admission.holders) : MotionOk v := by
    rw [motionOk_iff, hrest]
    exact ⟨hv.seat, hv.sorted, hv.distinct, hv.budget, fun _ => hv.budget ▸ law⟩
  unfold State.rebudget
  dsimp only
  split
  · obtain ⟨-, -, -, hsettings, -, -, hsupply, hthermal, -⟩ := (StartsAndSheds.shedLoop cause s.admission.holders.length t).fields
    refine lawful (seats.shedLoop cause _) ?_ (holdersFit_iff.1 (holdersFit_shedLoop cause _ _ le_rfl))
    rw [hsettings, hsupply, hthermal]
  · rename_i hfalls
    have law := h.law rfl
    rw [← h.budget] at law
    refine lawful seats rfl ⟨fun hb => law.none ?_, fun hlen => Nat.le_trans (law.total hlen) (Nat.not_lt.1 hfalls)⟩
    exact Nat.le_zero.1 (Nat.le_trans (Nat.not_lt.1 hfalls) (Nat.le_of_eq hb))

/-! ### Every step -/

theorem MotionOk.seats (h : MotionOk s) : Seats true (budgetOf s.settings s.supply.state s.thermal.state) s := motionOk_iff.1 h

theorem Seats.motionOk (h : Seats true b s) (hb : b = budgetOf s.settings s.supply.state s.thermal.state) : MotionOk s :=
  motionOk_iff.2 (hb ▸ h)

/-- A change of other blocks leaves the agreement. -/
theorem MotionOk.of_eq (h : MotionOk s) (hchans : u.chans = s.chans) (hadm : u.admission = s.admission)
    (hbudget : budgetOf u.settings u.supply.state u.thermal.state = budgetOf s.settings s.supply.state s.thermal.state) :
    MotionOk u := (h.seats.of_eq hchans hadm).motionOk hbudget.symm

/-- A change of one channel that leaves its motion, its profile and its drive. -/
theorem MotionOk.modChan_beside {f : Channel → Channel} (h : MotionOk s)
    (hf : ∀ c, ChannelOk c → c.SameSeat (f c) ∧ ChannelOk (f c)) (ch : Chan) : MotionOk (s.modChan ch f) :=
  Seats.motionOk (h.seats.modChan (hf _ (h.seats.seat ch).channel).1 (hf _ (h.seats.seat ch).channel).2) rfl

theorem MotionOk.mapChans {f : Channel → Channel} (h : MotionOk s) (hchans : u.chans = s.chans.map f)
    (hadm : u.admission.queue = s.admission.queue ∧ u.admission.holders = s.admission.holders
      ∧ u.admission.budget = s.admission.budget)
    (hbudget : budgetOf u.settings u.supply.state u.thermal.state = budgetOf s.settings s.supply.state s.thermal.state)
    (hf : ∀ c, ChannelOk c → c.SameSeat (f c) ∧ ChannelOk (f c)) : MotionOk u :=
  (h.seats.mapChans hchans hadm hf).motionOk hbudget.symm

theorem budgetOf_congr {t t' : Settings} (hn : t'.normalBudget = t.normalBudget) (hl : t'.lowBudget = t.lowBudget)
    (supply : SupplyState) (thermal : ThermalState) : budgetOf t' supply thermal = budgetOf t supply thermal := by
  unfold budgetOf
  rw [hn, hl]

/-- A fold of changes beside the motion, one for each channel. -/
theorem MotionOk.foldl_modChan {f : Channel → Channel} (h : MotionOk s)
    (hf : ∀ c, ChannelOk c → c.SameSeat (f c) ∧ ChannelOk (f c)) (l : List Chan) :
    MotionOk (l.foldl (fun s c => s.modChan c f) s) :=
  KeptInside.foldl (fun _ ch hu => MotionOk.modChan_beside hu hf ch) h

/-- Claims, airing records and the selector's result stand beside the motion. -/
theorem channelOk_claims (c : Channel) (slots : ClaimSlots) (airing : Option AiringRecord) (h : ChannelOk c) :
    ChannelOk { c with slots := slots, airing := airing } := channelOk_iff.2 { channelOk_iff.1 h with }

theorem Channel.sameSeat_refl (c : Channel) : c.SameSeat c := ⟨rfl, rfl, fun _ => rfl, rfl⟩

/-- A channel that stands without a timer of its motion, whatever it rests in. -/
structure Channel.Unmoved (c : Channel) : Prop where
  ranked : c.motion.hand.target ≠ .none → c.motion.hand.queueRank.isSome = true
  settleTimer : c.motion.settleTimer = none
  dwellTimer : c.motion.dwellTimer = none
  stop : c.motion.stop = none
  off : DriveIsOff c
  legs : c.drive.legs.isDriving = false

/-- An unmoved channel in DISABLED, IDLE or FAULTED meets its law when the profile's enable, the fault and the rest timer are those
of the state (R46, R48, R71). -/
theorem Channel.Unmoved.channelOk {c : Channel} (h : c.Unmoved)
    (hdisabled : c.motion.state = .disabled ↔ c.profile.enable = false)
    (hfaulted : c.motion.state = .faulted ↔ c.motion.fault.isSome = true)
    (hrest : c.motion.restTimer.isSome = true → c.motion.state = .faulted)
    (hstate : c.motion.state = .disabled ∨ c.motion.state = .idle ∨ c.motion.state = .faulted) : ChannelOk c := by
  have differs (m : MotionState) (h1 : m ≠ .disabled) (h2 : m ≠ .idle) (h3 : m ≠ .faulted) : c.motion.state ≠ m := fun hs => by
    rw [hs] at hstate; tauto
  have undriven : isDriven c.motion.state = false := by rcases hstate with hs | hs | hs <;> rw [hs] <;> rfl
  have unshared : holdsShare c = false := by unfold holdsShare; rcases hstate with hs | hs | hs <;> rw [hs]
  exact channelOk_iff.2 {
    disabled := hdisabled
    faulted := hfaulted
    rest := hrest
    braking := iff_of_false (differs _ nofun nofun nofun) (by rw [h.settleTimer]; nofun)
    dwell := iff_of_false (differs _ nofun nofun nofun) (by rw [h.dwellTimer]; nofun)
    moving := fun hs => absurd hs (differs _ nofun nofun nofun)
    waiting := fun hs => absurd hs (differs _ nofun nofun nofun)
    ranked := h.ranked
    dir := fun hs => absurd (unshared.symm.trans hs) nofun
    byReset := fun hs => absurd (unshared.symm.trans hs) nofun
    stall := fun hs => absurd (undriven.symm.trans hs) nofun
    stop := fun hs => by rw [h.stop] at hs; cases hs
    off := fun _ => h.off
    legs := h.legs.trans undriven.symm }

/-- The states in which a profile write is accepted (R48, R161). -/
theorem isBusy_eq_false {m : MotionState} : isBusy m = false ↔ m = .disabled ∨ m = .idle ∨ m = .faulted := by
  cases m <;> decide

/-- The state after a profile write (R48). -/
theorem stateAfterWrite_cases (enable : Bool) {m : MotionState} (hm : m = .disabled ∨ m = .idle ∨ m = .faulted) :
    (stateAfterWrite enable m = .disabled ↔ enable = false) ∧ (stateAfterWrite enable m = .faulted ↔ enable = true ∧ m = .faulted)
      ∧ (stateAfterWrite enable m = .disabled ∨ stateAfterWrite enable m = .idle ∨ stateAfterWrite enable m = .faulted) := by
  rcases hm with rfl | rfl | rfl <;> cases enable <;> decide

/-- A profile write on a channel that is not busy (R48): it has no seat before, and none after. -/
theorem Seats.writeProfile (h : Seats strict b s) {p : Profile} (hbusy : isBusy (s.chan ch).motion.state = false) :
    Seats strict b (s.modChan ch (fun c => c.writeProfile p)) := by
  have agrees := channelOk_iff.1 (h.seat ch).channel
  have hm := isBusy_eq_false.1 hbusy
  have differs (m : MotionState) (hb : isBusy m = true) : (s.chan ch).motion.state ≠ m := fun hs => by
    rw [hs, hb] at hbusy; cases hbusy
  have undriven : isDriven (s.chan ch).motion.state = false := by rcases hm with hs | hs | hs <;> rw [hs] <;> rfl
  have unmoved : ((s.chan ch).writeProfile p).Unmoved :=
    ⟨fun ht => absurd rfl ht, agrees.settleTimer_eq_none (differs _ rfl), agrees.dwellTimer_eq_none (differs _ rfl),
      agrees.stop_eq_none (differs _ rfl) (differs _ rfl), agrees.off undriven, agrees.legs.trans undriven⟩
  obtain ⟨hdisabled, hfaulted, hstate⟩ := stateAfterWrite_cases p.enable hm
  have unshared (c : Channel) (hc : c.motion.state = .disabled ∨ c.motion.state = .idle ∨ c.motion.state = .faulted) :
      holdsShare c = false := by unfold holdsShare; rcases hc with hs | hs | hs <;> rw [hs]
  refine ((h.but ch).modChan _).seats (.of_free ?_ ?_ ?_ ((h.seat ch).notQueued (differs _ rfl))
    ((h.seat ch).notHolding (unshared _ hm))) <;> rw [State.chan_modChan_self]
  · refine unmoved.channelOk hdisabled (hfaulted.trans ?_) (fun hr => hfaulted.2 ?_) hstate
    · rw [agrees.faulted]
      cases henable : p.enable <;> simp [Channel.writeProfile, henable]
    · cases henable : p.enable with
      | false => simp [Channel.writeProfile, henable] at hr
      | true => exact ⟨rfl, agrees.rest (by simpa [Channel.writeProfile, henable] using hr)⟩
  · exact fun hs => by
      rw [show ((s.chan ch).writeProfile p).motion.state = stateAfterWrite p.enable (s.chan ch).motion.state from rfl] at hs
      rw [hs] at hstate; tauto
  · exact unshared _ hstate

end Sys2Proof.Machine
end

section
/-! SUPPORT. The agreement of motion, drive and admission through every step, and with it that no channel is driven without supply
(R46, R47, R76, R77). -/

namespace Sys2Proof.Machine

variable {s u : State} {ch : Chan}

/-! ### Claims -/

theorem Channel.SameSeat.claims (c : Channel) (slots : ClaimSlots) (airing : Option AiringRecord) :
    c.SameSeat { c with slots := slots, airing := airing } := .of_motion rfl rfl

/-- A change of a record that leaves all but its claims (R10, R14). -/
theorem MotionOk.modChan_claims {f : Channel → Channel} (h : MotionOk s)
    (hf : ∀ c, f c = { c with slots := (f c).slots, airing := (f c).airing }) (ch : Chan) : MotionOk (s.modChan ch f) :=
  h.modChan_beside (fun c hc => by rw [hf c]; exact ⟨.claims c _ _, channelOk_claims c _ _ hc⟩) ch

/-! ### The passing of time -/

/-- A ms leaves every timer of a channel running or stopped as it was (0.5). -/
theorem Channel.Agrees.tick {c : Channel} (h : c.Agrees) : ChannelOk c.tick := by
  have running (t : Option Nat) : (timerTick t).isSome = t.isSome := Option.isSome_map
  have shares : holdsShare c.tick = holdsShare c := rfl
  exact channelOk_iff.2 {
    h with
    rest := fun hr => h.rest ((running _).symm.trans hr)
    braking := by rw [show c.tick.motion.settleTimer.isSome = _ from running _]; exact h.braking
    dwell := by rw [show c.tick.motion.dwellTimer.isSome = _ from running _]; exact h.dwell
    moving := fun hm => ⟨(h.moving hm).1, Option.isSome_map.trans (h.moving hm).2⟩
    stall := fun hd => (running _).trans (h.stall hd)
    off := fun hd => by
      obtain ⟨hlevel, hphase, hramp, hrun, hmove, hmin, hstall, hstart, hblank, hfilter, hshort⟩ := h.off hd
      exact ⟨hlevel, hphase, by simp [Channel.tick, hramp, timerTick], hrun, by simp [Channel.tick, hmove], hmin,
        by simp [Channel.tick, hstall, timerTick], hstart, by simp [Channel.tick, hblank, timerTick],
        by simp [Channel.tick, hfilter, timerTick], by simp [Channel.tick, hshort, timerTick]⟩ }

/-- The legs of a channel go on while it stays driven, or stay undriven. -/
theorem channelOk_legs (c : Channel) {l : LegStage} (hl : l.isDriving = c.drive.legs.isDriving) (h : ChannelOk c) :
    ChannelOk { c with drive := { c.drive with legs := l } } :=
  channelOk_iff.2 { channelOk_iff.1 h with legs := hl.trans (channelOk_iff.1 h).legs }

namespace MotionOk

theorem passTime (h : MotionOk s) (units : Nat) : MotionOk (s.passTime units) := by
  unfold State.passTime
  dsimp only
  split
  · exact h.of_eq rfl rfl rfl
  · exact h.mapChans (f := Channel.tick) rfl ⟨rfl, rfl, rfl⟩ rfl fun c hc =>
      ⟨⟨rfl, rfl, fun _ => rfl, rfl⟩, (channelOk_iff.1 hc).tick⟩

theorem boundary (h : MotionOk s) : MotionOk s.boundary :=
  h.mapChans (f := fun c => { c with drive := { c.drive with legs := legsAtBoundary c.drive.legs } }) rfl ⟨rfl, rfl, rfl⟩ rfl
    fun c hc => ⟨.of_motion rfl rfl, channelOk_legs c (isDriving_legsAtBoundary _) hc⟩

theorem passCount (h : MotionOk s) : MotionOk s.passCount := ((h.passTime _).boundary).of_eq rfl rfl rfl

theorem restOfPeriod (h : MotionOk s) : MotionOk s.restOfPeriod :=
  KeptInside.choice (h.passTime _).boundary.boundary (h.passTime _).boundary

theorem startPeriod (h : MotionOk s) : MotionOk s.startPeriod :=
  h.mapChans (f := fun c => { c with drive := { c.drive with
      legs := legsAtPeriod c.drive.level ((s.clock.k + 1) % 256) c.drive.legs } }) rfl ⟨rfl, rfl, rfl⟩ rfl
    fun c hc => ⟨.of_motion rfl rfl, channelOk_legs c (isDriving_legsAtPeriod ..) hc⟩

/-! ### The monitors and the settings -/

/-- The admission unit computes the budget anew after a change of the settings, the monitors or the reports (R77). -/
theorem rebudget_of_eq (h : MotionOk s) (hchans : u.chans = s.chans) (hadm : u.admission = s.admission) (cause : HaltCause) :
    MotionOk (u.rebudget cause) := (h.seats.of_eq hchans hadm).rebudget cause

theorem firstSupply (h : MotionOk s) (v1 v2 v3 v4 : Nat) : MotionOk (s.firstSupply v1 v2 v3 v4) := by
  unfold State.firstSupply
  dsimp only
  split
  · exact h
  · split
    · exact h.rebudget_of_eq (by rfl) (by rfl) _
    · exact h.rebudget_of_eq (by rw [State.post_eq]) (by rw [State.post_eq]) _

theorem measureThermal (h : MotionOk s) (celsius : Int) : MotionOk (s.measureThermal celsius) := by
  unfold State.measureThermal
  dsimp only
  generalize (if s.thermal.formed then _ else _ : ThermalState) = state
  split
  · rename_i hstate
    exact h.of_eq rfl rfl (by rw [hstate])
  · exact h.rebudget_of_eq (by rw [State.post_eq]) (by rw [State.post_eq]) _

theorem changeSupply (h : MotionOk s) (state : SupplyState) : MotionOk (s.changeSupply state) :=
  h.rebudget_of_eq (by rw [State.post_eq]) (by rw [State.post_eq]) _

theorem writeSettings (h : MotionOk s) (t : Settings) : MotionOk (s.writeSettings t) := by
  unfold State.writeSettings
  dsimp only
  split
  · rename_i hbudgets
    exact h.of_eq rfl rfl (budgetOf_congr hbudgets.1 hbudgets.2 _ _)
  · exact h.rebudget_of_eq (by rfl) (by rfl) _

end MotionOk

/-! ### Every step -/

theorem budgetOf_keepsRest (h : KeepsRest s u) :
    budgetOf u.settings u.supply.state u.thermal.state = budgetOf s.settings s.supply.state s.thermal.state := by
  obtain ⟨-, -, -, hsettings, -, -, hsupply, hthermal, -⟩ := h.fields
  rw [hsettings, hsupply, hthermal]

theorem keptInside_motionOk : KeptInside MotionOk where
  motion e h := (h.seats.motion e).motionOk (budgetOf_keepsRest e.actsOn.1).symm
  finish {b s} h := by
    obtain ⟨-, -, -, hsettings, -, -, hsupply, hthermal, -⟩ := (StartsAndSheds.finish b s).fields
    exact (h.seats.finish b).motionOk (by rw [hsettings, hsupply, hthermal])
  reports h := h.of_eq rfl rfl rfl
  dropClaim h := h.modChan_claims (fun _ => rfl) _
  storeClaim {s l cls claim air} _ _ _ h := h.foldl_modChan (f := Channel.storeClaim cls claim air)
    (fun c hc => ⟨.of_motion rfl rfl, channelOk_claims c (Channel.storeClaim cls claim air c).slots _ hc⟩) l
  rewriteAiring _ _ h := h.modChan_claims (fun _ => rfl) _
  weather _ h := h.of_eq rfl rfl rfl
  input _ h := h.of_eq rfl rfl rfl
  group _ h := h.of_eq rfl rfl rfl
  supply hstate _ h := h.of_eq rfl rfl (by rw [hstate])
  changeSupply h := h.changeSupply _
  firstSupply h := h.firstSupply ..
  measureThermal h := h.measureThermal _
  writeSettings _ h := h.writeSettings _
  writeProfile {s ch p} hbusy _ h := by
    have hacts := ActsOn.retarget ch (s.modChan ch (fun c => c.writeProfile p))
    exact ((h.seats.writeProfile hbusy).retarget ch).motionOk (budgetOf_keepsRest hacts.1).symm
  resetClaims h := h.mapChans rfl ⟨rfl, rfl, rfl⟩ rfl fun c hc => ⟨.claims c _ _, channelOk_claims c _ _ hc⟩
  stagger {s} h := by
    obtain ⟨-, -, -, hsettings, -, -, hsupply, hthermal, -⟩ :=
      (StartsAndSheds.evaluateAdmission { s with admission := { s.admission with stagger := none } }).fields
    have seats : Seats true _ { s with admission := { s.admission with stagger := none } } :=
      h.seats.mapChans (f := id) (by simp [PerChan.map]) ⟨rfl, rfl, rfl⟩ fun c hc => ⟨c.sameSeat_refl, hc⟩
    exact seats.evaluateAdmission.motionOk (by rw [hsettings, hsupply, hthermal])

/-- What LINE_LOST makes of a channel's claims leaves all else (R17). -/
theorem Channel.loseLine_eq (c : Channel) : c.loseLine = { c with slots := c.loseLine.slots, airing := c.loseLine.airing } := by
  unfold Channel.loseLine
  dsimp only
  split <;> split <;> rfl

theorem MotionOk.lineLost (h : MotionOk s) : MotionOk s.lineLost := by
  have placed : MotionOk { s with line := { s.line with lost := true }, chans := s.chans.map Channel.loseLine } :=
    h.mapChans rfl ⟨rfl, rfl, rfl⟩ rfl fun c hc => by
      rw [c.loseLine_eq]
      exact ⟨.claims c _ _, channelOk_claims c _ _ hc⟩
  exact keptInside_motionOk.post (keptInside_motionOk.retargetAll placed)

theorem MotionOk.lineOk (h : MotionOk s) : MotionOk s.lineOk :=
  have restored : MotionOk { s with line := { s.line with lost := false } } := h.of_eq rfl rfl rfl
  keptInside_motionOk.post (keptInside_motionOk.removeWhere restored)

theorem keptBySteps_motionOk : KeptBySteps MotionOk where
  toKeptInside := keptInside_motionOk
  line _ h := h.of_eq rfl rfl rfl
  freshStart h := h.of_eq rfl rfl rfl
  freeCount h := h.of_eq rfl rfl rfl
  lineOk h := h.lineOk
  lineLost h := h.lineLost
  period h := h.restOfPeriod.startPeriod
  reset _ := motionOk_reset.of_eq rfl rfl rfl
  pending h := h.of_eq rfl rfl rfl
  passCount _ h := h.passCount

/-- Settles O39: every event keeps the seats of `Seats`, and every budget change restores the law of the share holders. -/
theorem motionInvariant : Obligations.MotionInvariant := by
  unfold Obligations.MotionInvariant
  exact fun s t h _ hx => keptBySteps_motionOk.step h hx

/-! ### No drive without supply (R47) -/

theorem budgetOf_eq_zero {t : Settings} {p : SupplyState} {m : ThermalState} (h : p = .cut ∨ p = .overVolt ∨ m = .shut) :
    budgetOf t p m = 0 := by
  rcases h with rfl | rfl | rfl
  · cases m <;> simp [budgetOf]
  · cases m <;> simp [budgetOf]
  · cases p <;> rfl

theorem isDriven_holdsShare {c : Channel} (h : isDriven c.motion.state = true) : holdsShare c = true :=
  holdsShare_iff.2 (by rcases isDriven_iff.1 h with hs | hs <;> tauto)

/-- Under a budget of 0 no channel holds a share, so none is driven. -/
theorem MotionOk.undriven (h : MotionOk s) (hb : s.admission.budget = 0) (ch : Chan) : isDriven (s.chan ch).motion.state = false := by
  obtain ⟨-, -, hshare, -, -, -, hnone, -⟩ := h
  refine Bool.eq_false_iff.2 fun hd => ?_
  obtain ⟨e, he, -⟩ := (hshare ch).1 (isDriven_holdsShare hd)
  rw [hnone hb] at he
  cases he

/-- Settles O40: the budget of such a supply or temperature is 0, and under it no channel holds a share. -/
theorem noDriveWithoutSupply : Obligations.NoDriveWithoutSupply := by
  unfold Obligations.NoDriveWithoutSupply
  intro s t h _ hx hcut ch
  have ht := keptBySteps_motionOk.step h hx
  have agrees := channelOk_iff.1 (ht.1 ch)
  have undriven := ht.undriven (ht.seats.budget.trans (budgetOf_eq_zero hcut)) ch
  obtain ⟨hlevel, -⟩ := agrees.off undriven
  exact ⟨undriven, by rw [Channel.driveDir, undriven]; rfl, agrees.legs.trans undriven, hlevel⟩

end Sys2Proof.Machine
end

section
/-! SUPPORT. The ranges of a channel's stored values, through every change that the motion engine makes of its record (Tables 2.4,
3.2, 5.1, 6.1). -/

namespace Sys2Proof.Machine

variable {c : Channel}

/-! ### The ranges, clause by clause -/

/-- The bounds of a profile, also of one that was never written (Table 10.2). -/
structure Profile.Bounds (p : Profile) : Prop where
  retryLimit : p.retryLimit ≤ 3
  travel : p.travel ≤ 60000
  startLevel : p.startLevel ≤ 51200
  runLevel : p.runLevel ≤ 51200
  approachLevel : p.approachLevel ≤ 51200
  backoffDist : p.backoffDist ≤ 2000
  initOpen : p.initOpen ≤ 255
  initClose : p.initClose ≤ 255
  smokeWindward : p.smokeWindward ≤ 1000

theorem Profile.bounds_of_inRange {p : Profile} (h : profileInRange p = true) : p.Bounds := by
  simp only [profileInRange, Bool.and_eq_true, inRange_iff] at h
  constructor <;> omega

theorem Profile.bounds {p : Profile} (h : p = {} ∨ profileInRange p = true) : p.Bounds := by
  rcases h with rfl | h
  · constructor <;> decide
  · exact Profile.bounds_of_inRange h

/-- The ranges of a channel's stored values, but for the count of a running backoff. -/
structure Channel.Within (c : Channel) : Prop where
  profile : c.profile = {} ∨ profileInRange c.profile = true
  slots : ∀ k claim, c.slots.get k = some claim → ClaimOk c.profile.travel claim
  airing : ∀ a, c.airing = some a → AiringRangesOk a
  selected : SelectionOk c.profile.travel c.selected
  hand : SelectionOk c.profile.travel c.motion.hand
  stop : ∀ q, c.motion.stop = some q → StopOk c.profile.travel q
  retry : c.motion.retry ≤ 3
  eOpen : c.motion.eOpen ≤ 255
  eClose : c.motion.eClose ≤ 255
  timedEst : c.motion.timedEst ≤ 1000
  backoffCount : c.motion.backoffCount ≤ 2000
  positionLow : -512 ≤ c.travel.position
  positionHigh : c.travel.position ≤ (c.profile.travel : Int) + 512
  runCount : c.travel.runCount ≤ 60513
  moveCount : c.motion.state = .moving → c.travel.runCount ≤ c.profile.travel + 513
  drift : c.travel.drift ≤ 255
  period : c.travel.period ≤ 65535
  sample : c.current.sample ≤ 255
  level : c.drive.level ≤ 51200
  onCount : c.drive.legs.onCount ≤ 200
  ramp : ∀ r, c.drive.ramp = some r → r ≤ 10

/-- The count of a running backoff lies below its distance (R67). -/
def Channel.BackoffRuns (c : Channel) : Prop := c.motion.state = .backoff → c.motion.backoffCount < c.profile.backoffDist

theorem channelRangesOk_iff : ChannelRangesOk c ↔ c.Within ∧ c.BackoffRuns := by
  constructor
  · rintro ⟨h1, h2, h3, h4, h5, h6, h7, h8, h9, h10, h11, h12, h13, h14, h15, h16, h17, h18, h19, h20, h21, h22⟩
    exact ⟨⟨h1, h2, h3, h4, h5, h6, h7, h8, h9, h10, h11, h13, h14, h15, h16, h17, h18, h19, h20, h21, h22⟩, h12⟩
  · rintro ⟨h, hb⟩
    exact ⟨h.profile, h.slots, h.airing, h.selected, h.hand, h.stop, h.retry, h.eOpen, h.eClose, h.timedEst, h.backoffCount, hb,
      h.positionLow, h.positionHigh, h.runCount, h.moveCount, h.drift, h.period, h.sample, h.level, h.onCount, h.ramp⟩

theorem ChannelRangesOk.within (h : ChannelRangesOk c) : c.Within := (channelRangesOk_iff.1 h).1

/-- Outside BACKOFF no backoff runs. -/
theorem Channel.Within.ok (h : c.Within) (hs : c.motion.state ≠ .backoff) : ChannelRangesOk c :=
  channelRangesOk_iff.2 ⟨h, fun hb => absurd hb hs⟩

theorem Channel.Within.bounds (h : c.Within) : c.profile.Bounds := Profile.bounds h.profile

/-! ### The evaluation (R34 to R42) -/

/-- A number in the form the channel compares by lies in its range. -/
def NumberOk (c : Channel) (n : Nat) : Prop := if c.motion.referenced then n ≤ c.profile.travel else n ≤ 1000

theorem targetOk_asTarget {n : Nat} (h : NumberOk c n) : TargetOk c.profile.travel (asTarget c n) := by
  unfold NumberOk at h
  unfold asTarget
  split at h <;> rename_i href
  · rw [if_pos href]; exact h
  · rw [if_neg href]; exact h

theorem targetOk_targetOf {n : Option Nat} (h : ∀ m, n = some m → NumberOk c m) : TargetOk c.profile.travel (targetOf c n) := by
  cases n with
  | none => trivial
  | some m => exact targetOk_asTarget (h m rfl)

theorem numberOk_asNumber {d : Nat} (h : d ≤ 1000) (c : Channel) : NumberOk c (asNumber c d) := by
  unfold NumberOk asNumber
  split
  · exact toPulses_le_travel h _
  · exact h

theorem numberOk_rawTarget {d : Demand} (h : DemandOk c.profile.travel d) (n : Nat) (hn : rawTarget c d = some n) : NumberOk c n := by
  cases d with
  | level d => cases hn; exact numberOk_asNumber h c
  | stay p =>
    cases p with
    | none => cases hn
    | some p =>
      simp only [rawTarget] at hn
      split at hn
      · rename_i href
        cases hn
        unfold NumberOk
        rw [if_pos href]
        exact h
      · cases hn

theorem foldl_min_le (l : List Nat) (n : Nat) : l.foldl min n ≤ n := by
  induction l generalizing n with
  | nil => exact Nat.le_refl n
  | cons x xs ih => exact Nat.le_trans (ih _) (Nat.min_le_left ..)

theorem NumberOk.mono {n m : Nat} (h : NumberOk c n) (hm : m ≤ n) : NumberOk c m := by
  unfold NumberOk at h ⊢
  split at h <;> rename_i href
  · rw [if_pos href]; omega
  · rw [if_neg href]; omega

theorem classRank_range (cls : ClaimClass) : 1 ≤ classRank cls ∧ classRank cls ≤ 6 := by cases cls <;> decide

theorem selectionOk_of_rank {T r : Nat} (h : 1 ≤ r ∧ r ≤ 6) : SelectionOk T { winRank := some r } :=
  ⟨trivial, by rintro x ⟨⟩; exact h, nofun⟩

/-- The winner stands in its slot (R36). -/
theorem winner_get {slots : ClaimSlots} {cls : ClaimClass} {claim : Claim} (h : winner slots = some (cls, claim)) :
    slots.get cls = some claim := by
  obtain ⟨k, -, hk⟩ := List.exists_of_findSome?_eq_some h
  obtain ⟨x, hx, hpair⟩ := Option.map_eq_some_iff.1 hk
  cases hpair
  exact hx

/-- The selector's result lies in the ranges of Table 2.4. -/
theorem selectionOk_evaluate (h : c.Within) (w : Weather) : SelectionOk c.profile.travel (evaluate w c) := by
  unfold evaluate
  split
  · exact selectionOk_none _
  · rename_i cls claim hwin
    have hdemand : DemandOk c.profile.travel claim.demand := (h.slots cls claim (winner_get hwin)).1
    have hraw := numberOk_rawTarget (c := c) hdemand
    have hrank : ∀ r, some (classRank cls) = some r → 1 ≤ r ∧ r ≤ 6 := by rintro r ⟨⟩; exact classRank_range cls
    have ranked {n : Nat} (hn : 1 ≤ n ∧ n ≤ 6) : ∀ r, some n = some r → 1 ≤ r ∧ r ≤ 6 := by rintro r ⟨⟩; exact hn
    dsimp only
    split
    · exact selectionOk_of_rank (classRank_range cls)
    · split
      · refine ⟨targetOk_targetOf ?_, hrank, ranked (by decide)⟩
        split
        · rintro m ⟨⟩; exact numberOk_asNumber h.bounds.smokeWindward c
        · exact hraw
      · exact ⟨targetOk_targetOf hraw, hrank, ranked (by decide)⟩
      · split
        · exact selectionOk_of_rank (classRank_range cls)
        · rename_i p hp
          refine ⟨targetOk_asTarget ((hraw p hp).mono (foldl_min_le _ p)), hrank, ranked ?_⟩
          simp only [underCeilings]
          split
          · decide
          · exact classRank_range cls

/-! ### The legs and the dither (R113) -/

theorem onCount_le {level : Nat} (h : level ≤ 51200) (k : Nat) : onCount level k ≤ 200 := by
  unfold onCount
  split <;> omega

@[simp] theorem onCount_legsOnRemoval (brake : Bool) (l : LegStage) : (legsOnRemoval brake l).onCount = l.onCount := rfl

theorem onCount_legsOnOff_le (l : LegStage) : (legsOnOff l).onCount ≤ l.onCount := by cases l <;> exact Nat.le_refl _

@[simp] theorem onCount_legsOnStart (count : Nat) : (legsOnStart count).onCount = 0 := by unfold legsOnStart; split <;> rfl

theorem onCount_legsAtBoundary_le (l : LegStage) : (legsAtBoundary l).onCount ≤ l.onCount := by
  cases l with
  | cutting n brake => cases brake <;> exact Nat.zero_le _
  | _ => exact Nat.le_refl _

theorem onCount_legsAtPeriod_le {level : Nat} (h : level ≤ 51200) (k : Nat) {l : LegStage} (hl : l.onCount ≤ 200) :
    (legsAtPeriod level k l).onCount ≤ 200 := by
  have hon := onCount_le h k
  unfold legsAtPeriod
  split
  · exact hon
  · exact hon
  · exact Nat.zero_le _
  · exact hon
  · exact hl

/-! ### The records that the motion engine makes -/

theorem stopOk_stopFor {T t : Nat} (ht : t ≤ T) (ho : c.motion.eOpen ≤ 255) (hc : c.motion.eClose ≤ 255) (dir : Dir) :
    StopOk T (stopFor c dir t) := by
  unfold stopFor
  split
  · dsimp only [StopOk]; omega
  · split
    · trivial
    · dsimp only [StopOk]; omega

namespace Channel.Within

variable (h : c.Within)
include h

theorem handPulses_le : handPulses c ≤ c.profile.travel := by
  have ht := h.hand.1
  unfold handPulses
  split
  · rename_i hhand
    rw [hhand] at ht
    exact ht
  · exact Nat.zero_le _

theorem levelOf_le (phase : PhaseLevel) : c.profile.levelOf phase ≤ 51200 := by
  cases phase
  · exact h.bounds.startLevel
  · exact h.bounds.runLevel
  · exact h.bounds.approachLevel

theorem enterMoving (count : Nat) (kind : MoveKind) (dir : Dir) : (c.enterMoving count kind dir).Within where
  __ := h
  stop q hq := by
    simp only [Channel.enterMoving] at hq
    split at hq
    · cases hq; exact stopOk_stopFor h.handPulses_le h.eOpen h.eClose dir
    · cases hq
  runCount := Nat.zero_le _
  moveCount _ := Nat.zero_le _
  drift := Nat.zero_le _
  level := by
    have either (m : Bool) : (if m = true then c.profile.approachLevel else c.profile.startLevel) ≤ 51200 := by
      cases m
      · exact h.bounds.startLevel
      · exact h.bounds.approachLevel
    exact either _
  onCount := Nat.le_trans (Nat.le_of_eq (onCount_legsOnStart count)) (Nat.zero_le _)
  ramp := by rintro r ⟨⟩; exact Nat.le_refl _

theorem enterBackoff (count : Nat) : (c.enterBackoff count).Within where
  __ := h
  backoffCount := Nat.zero_le _
  moveCount := nofun
  level := h.bounds.startLevel
  onCount := Nat.le_trans (Nat.le_of_eq (onCount_legsOnStart count)) (Nat.zero_le _)
  ramp := nofun

theorem driveOff {l : LegStage} (hl : l.onCount ≤ 200) : (c.driveOff l).Within where
  __ := h
  level := Nat.zero_le _
  onCount := hl
  ramp := nofun

theorem enterBraking (reason : BrakingReason) (cause : Option HaltCause) (afterBackoff : Bool) :
    (c.enterBraking reason cause afterBackoff).Within where
  __ := h.driveOff (l := legsOnRemoval c.profile.brakeMode c.drive.legs) h.onCount
  moveCount := nofun

theorem leaveBraking {m : MotionState} (hm : m ≠ .moving) : (c.leaveBraking m).Within where
  __ := h
  stop := nofun
  moveCount hs := absurd hs hm
  onCount := Nat.le_trans (onCount_legsOnOff_le _) h.onCount

theorem enterFaulted (code : FaultCode) : (c.enterFaulted code).Within where
  __ := h.driveOff (Nat.le_trans (onCount_legsOnOff_le c.drive.legs) h.onCount)
  stop := nofun
  moveCount := nofun

theorem follow {t : Nat} (ht : t ≤ c.profile.travel) (dir : Dir) : (c.follow dir t).Within where
  __ := h
  stop := by rintro q ⟨⟩; exact stopOk_stopFor ht h.eOpen h.eClose dir

theorem learn : c.learn.Within := by
  have le (e n : Nat) : learnt e n ≤ 255 := by unfold learnt; dsimp only; omega
  unfold Channel.learn
  split
  · exact { h with eOpen := le .. }
  · exact { h with eClose := le .. }
  · exact h

theorem timeMove : c.timeMove.Within := by
  unfold Channel.timeMove
  split
  · exact { h with timedEst := Nat.min_le_left .. }
  · exact h

theorem rampStep : c.rampStep.Within := by
  unfold Channel.rampStep
  split
  · exact { h with ramp := nofun }
  · rename_i phase _
    refine { h with level := ?_, ramp := by rintro r ⟨⟩; exact Nat.le_refl _ }
    have hphase := h.levelOf_le phase
    have hlevel := h.level
    dsimp only
    unfold rampToward
    split <;> omega

theorem sampleCurrent {v : Nat} (hv : v ≤ 255) : (c.sampleCurrent v).Within := by
  unfold Channel.sampleCurrent
  split <;> exact { h with sample := hv }

/-- A channel takes a state outside MOVING with its record as it stands. -/
theorem restsIn {m : MotionState} (hm : m ≠ .moving) : Channel.Within { c with motion := { c.motion with state := m } } where
  __ := h
  moveCount hs := absurd hs hm

theorem countPulse (hb : c.BackoffRuns) (now : Nat) : (c.countPulse now).Within where
  __ := h
  backoffCount := by
    have hdist := h.bounds.backoffDist
    simp only [Channel.countPulse]
    split
    · rename_i hs; have := hb hs; omega
    · exact h.backoffCount
  positionLow := by
    have hlow := h.positionLow
    simp only [Channel.countPulse, counterAfter]
    split
    · exact hlow
    · split <;> omega
  positionHigh := by
    have hhigh := h.positionHigh
    simp only [Channel.countPulse, counterAfter]
    split
    · exact hhigh
    · split <;> omega
  runCount := by
    have htravel := h.bounds.travel
    simp only [Channel.countPulse]
    split
    · omega
    · exact h.runCount
  moveCount hs := by
    have hs : c.motion.state = .moving := hs
    simp only [Channel.countPulse, if_pos hs]
    omega
  drift := by
    simp only [Channel.countPulse]
    split
    · omega
    · exact h.drift
  period := by
    simp only [Channel.countPulse, Travel.capture]
    split
    · exact h.period
    · exact Nat.min_le_left ..

end Channel.Within

end Sys2Proof.Machine
end

section
/-! SUPPORT. Every event of one channel's motion, and every admission evaluation, keeps the stored values of the channels in their
ranges. -/

namespace Sys2Proof.Machine

variable {s u : State} {ch : Chan}

/-! ### The channels of a station -/

/-- The stored values of every channel lie in their ranges. -/
structure State.InRanges (s : State) : Prop where
  chan : ∀ d, ChannelRangesOk (s.chan d)

/-- The stored values of every channel lie in their ranges, but that the backoff of channel `ch` may have run out. -/
structure State.Counted (ch : Chan) (s : State) : Prop where
  others : ∀ d, d ≠ ch → ChannelRangesOk (s.chan d)
  within : (s.chan ch).Within

namespace State.Counted

theorem modChan {f : Channel → Channel} (h : s.Counted ch) (hf : ChannelRangesOk (f (s.chan ch))) : (s.modChan ch f).InRanges := by
  refine ⟨fun d => ?_⟩
  by_cases hd : d = ch
  · subst hd; rwa [State.chan_modChan_self]
  · rw [State.chan_modChan_ne s f hd]; exact h.others d hd

/-- A channel outside BACKOFF has no backoff that could have run out. -/
theorem inRanges (h : s.Counted ch) (hs : (s.chan ch).motion.state ≠ .backoff) : s.InRanges := by
  refine ⟨fun d => ?_⟩
  by_cases hd : d = ch
  · subst hd; exact h.within.ok hs
  · exact h.others d hd

end State.Counted

namespace State.InRanges

theorem of_chans (h : s.InRanges) (hc : u.chans = s.chans) : u.InRanges := ⟨fun d => State.chan_congr hc d ▸ h.chan d⟩

theorem releaseShare (h : s.InRanges) (ch : Chan) : (s.releaseShare ch).InRanges := h.of_chans rfl

theorem leaveQueue (h : s.InRanges) (ch : Chan) : (s.leaveQueue ch).InRanges := h.of_chans rfl

theorem counted (h : s.InRanges) (ch : Chan) : s.Counted ch := ⟨fun d _ => h.chan d, (h.chan ch).within⟩

theorem modChan {f : Channel → Channel} (h : s.InRanges) (hf : ChannelRangesOk (f (s.chan ch))) : (s.modChan ch f).InRanges :=
  (h.counted ch).modChan hf

theorem mapChans {f : Channel → Channel} (h : s.InRanges) (hf : ∀ c, ChannelRangesOk c → ChannelRangesOk (f c))
    (hc : u.chans = s.chans.map f) : u.InRanges := by
  refine ⟨fun d => ?_⟩
  rw [State.chan, hc, PerChan.get_map]
  exact hf _ (h.chan d)

end State.InRanges

theorem ChannelRangesOk.of_within {c : Channel} (h : c.Within) (hs : c.motion.state ≠ .backoff) : ChannelRangesOk c := h.ok hs

/-- A record in its ranges that keeps its state, its profile and its backoff count. -/
theorem ChannelRangesOk.keeps {c d : Channel} (h : ChannelRangesOk c) (hd : d.Within) (hb : c.BackoffRuns → d.BackoffRuns) :
    ChannelRangesOk d := channelRangesOk_iff.2 ⟨hd, hb (channelRangesOk_iff.1 h).2⟩

/-! ### The motion engine -/

theorem State.Counted.brake (h : s.Counted ch) (reason : BrakingReason) (cause : Option HaltCause) (afterBackoff : Bool) :
    (s.brake ch reason cause afterBackoff).InRanges :=
  have braking := h.modChan (f := fun c => c.enterBraking reason cause afterBackoff)
    ((h.within.enterBraking reason cause afterBackoff).ok nofun)
  KeptInside.choice (P := State.InRanges) braking (braking.of_chans rfl)

theorem State.Counted.faultChannel (h : s.Counted ch) (code : FaultCode) : (s.faultChannel ch code).InRanges := by
  unfold State.faultChannel
  split
  · rename_i hs
    exact h.inRanges (by rw [hs]; nofun)
  · exact (h.modChan (f := fun c => c.enterFaulted code) ((h.within.enterFaulted code).ok nofun)).of_chans (by simp)

namespace State.InRanges

theorem brake (h : s.InRanges) (ch : Chan) (reason : BrakingReason) (cause : Option HaltCause) (afterBackoff : Bool) :
    (s.brake ch reason cause afterBackoff).InRanges := (h.counted ch).brake ..

theorem faultChannel (h : s.InRanges) (ch : Chan) (code : FaultCode) : (s.faultChannel ch code).InRanges :=
  (h.counted ch).faultChannel code

/-- A channel takes a state at rest. -/
theorem restsIn (h : s.InRanges) (ch : Chan) {m : MotionState} (hm : m ≠ .moving) (hb : m ≠ .backoff) :
    (s.modChan ch (fun c => { c with motion := { c.motion with state := m } })).InRanges :=
  h.modChan (((h.chan ch).within.restsIn hm).ok hb)

theorem settleAtRest (h : s.InRanges) (ch : Chan) : (s.settleAtRest ch).InRanges := by
  unfold State.settleAtRest
  split
  · exact (h.restsIn ch (m := .waiting) nofun nofun).of_chans rfl
  · exact h.restsIn ch nofun nofun

theorem enterDwell (h : s.InRanges) (ch : Chan) : (s.enterDwell ch).InRanges :=
  h.modChan (ChannelRangesOk.of_within { (h.chan ch).within with moveCount := nofun } nofun)

theorem retargetMoving (h : s.InRanges) (ch : Chan) (changed : Bool) : (s.retargetMoving ch changed).InRanges := by
  unfold State.retargetMoving
  dsimp only
  split
  · split
    · split
      · rename_i t hhand
        have ht := (h.chan ch).within.hand.1
        rw [hhand] at ht
        split
        · exact h.modChan ((h.chan ch).keeps ((h.chan ch).within.follow ht _) id)
        · exact h.brake ..
      · exact h.brake ..
    · exact h
  · split
    · split
      · have timed (n : Nat) : (s.modChan ch (fun c => { c with motion := { c.motion with duration := n } })).InRanges :=
          h.modChan ((h.chan ch).keeps { (h.chan ch).within with } id)
        split
        · exact (timed _).brake ..
        · exact timed _
      · exact h.brake ..
    · exact h.brake ..
  · split
    · exact h.brake ..
    · split
      · exact h.brake ..
      · exact h
    · exact h

theorem actOnTarget (h : s.InRanges) (ch : Chan) (changed : Bool) : (s.actOnTarget ch changed).InRanges := by
  unfold State.actOnTarget
  split
  · split
    · exact (h.restsIn ch (m := .waiting) nofun nofun).of_chans rfl
    · exact h
  · split
    · exact h.of_chans (by simp)
    · exact (h.restsIn ch (m := .idle) nofun nofun).of_chans rfl
  · exact h.retargetMoving ch changed
  · exact h

theorem passRank (h : s.InRanges) (ch : Chan) (rank : Option Nat) : (s.passRank ch rank).InRanges := by
  unfold State.passRank
  split
  · split
    · exact h.of_chans rfl
    · exact h.of_chans rfl
  · exact h

theorem takeTarget (h : s.InRanges) (ch : Chan) {sel : Selection} (hsel : SelectionOk (s.chan ch).profile.travel sel) :
    (s.takeTarget ch sel).InRanges := by
  unfold State.takeTarget
  dsimp only
  split
  · exact h.modChan ((h.chan ch).keeps { (h.chan ch).within with hand := selectionOk_none _ } id)
  · refine ((h.modChan ?_).actOnTarget ch _).passRank ch _
    refine (h.chan ch).keeps { (h.chan ch).within with hand := hsel, retry := ?_ } id
    dsimp only
    split
    · exact Nat.zero_le _
    · exact (h.chan ch).within.retry

end State.InRanges

/-- The selector does not read its own result. -/
theorem evaluate_selected (w : Weather) (c : Channel) (sel : Selection) : evaluate w { c with selected := sel } = evaluate w c := rfl

/-- A channel is evaluated, whose selection may stand for a travel that has been replaced. -/
theorem State.InRanges.retarget_of_selected (hothers : ∀ d, d ≠ ch → ChannelRangesOk (s.chan d))
    (h : ChannelRangesOk { s.chan ch with selected := {} }) : (s.retarget ch).InRanges := by
  have hsel := selectionOk_evaluate h.within s.weather
  rw [evaluate_selected] at hsel
  have selected : (s.modChan ch (fun c => { c with selected := evaluate s.weather (s.chan ch) })).InRanges := by
    refine ⟨fun d => ?_⟩
    by_cases hd : d = ch
    · subst hd
      rw [State.chan_modChan_self]
      exact h.keeps { h.within with selected := hsel } id
    · rw [State.chan_modChan_ne _ _ hd]; exact hothers d hd
  exact selected.takeTarget ch (by rw [State.chan_modChan_self]; exact hsel)

namespace State.InRanges

theorem retarget (h : s.InRanges) (ch : Chan) : (s.retarget ch).InRanges :=
  .retarget_of_selected (fun d _ => h.chan d) ((h.chan ch).keeps { (h.chan ch).within with selected := selectionOk_none _ } id)

/-! ### The end of BRAKING (R60 to R66) -/

theorem endArrive (h : s.InRanges) (ch : Chan) : (s.endArrive ch).InRanges := by
  refine State.InRanges.settleAtRest (of_chans (h.modChan ?_) (State.postChan_chans ..)) ch
  exact ChannelRangesOk.of_within { (h.chan ch).within.learn.timeMove.leaveBraking (m := .idle) nofun with retry := Nat.zero_le _ } nofun

theorem endAtEnd (h : s.InRanges) (ch : Chan) : (s.endAtEnd ch).InRanges := by
  have left : (s.modChan ch (fun c => { c.leaveBraking .idle with
      motion := { (c.leaveBraking .idle).motion with retry := 0, referenced := true },
      travel := { (c.leaveBraking .idle).travel with
        position := if c.motion.dir = some .opening then (c.profile.travel : Int) else 0 } })).InRanges := by
    refine h.modChan (ChannelRangesOk.of_within { (h.chan ch).within.leaveBraking (m := .idle) nofun with
      retry := Nat.zero_le _, positionLow := ?_, positionHigh := ?_ } nofun)
    · dsimp only; split <;> omega
    · show (if _ then _ else _) ≤ ((s.chan ch).profile.travel : Int) + 512
      split <;> omega
  unfold State.endAtEnd
  dsimp only
  split
  · exact (left.of_chans (by simp)).retarget ch
  · exact (left.of_chans (by simp)).settleAtRest ch

theorem endStop (h : s.InRanges) (ch : Chan) : (s.endStop ch).InRanges := by
  have left : (s.modChan ch (fun c => { c.timeMove.leaveBraking .idle with
      motion := { (c.timeMove.leaveBraking .idle).motion with haltCause := none, afterBackoff := false } })).InRanges :=
    h.modChan (ChannelRangesOk.of_within { (h.chan ch).within.timeMove.leaveBraking (m := .idle) nofun with } nofun)
  have posted (cause : Option HaltCause) (byReset : Bool) : ((s.modChan ch (fun c => { c.timeMove.leaveBraking .idle with
      motion := { (c.timeMove.leaveBraking .idle).motion with haltCause := none, afterBackoff := false } })).postStopped ch cause
        byReset).InRanges := ⟨fun d => by rw [State.postStopped_chan]; exact left.chan d⟩
  unfold State.endStop
  dsimp only
  split
  · exact (posted _ _).enterDwell ch
  · split
    · exact posted _ _
    · split
      · exact (posted _ _).settleAtRest ch
      · exact (posted _ _).enterDwell ch

theorem endObstruct (h : s.InRanges) (ch : Chan) : (s.endObstruct ch).InRanges := by
  unfold State.endObstruct
  dsimp only
  split
  · exact h.faultChannel ..
  · rename_i hretry
    have counted : (s.modChan ch (fun c => { c.leaveBraking .idle with
        motion := { (c.leaveBraking .idle).motion with retry := (c.leaveBraking .idle).motion.retry + 1 } })).InRanges := by
      refine h.modChan (ChannelRangesOk.of_within { (h.chan ch).within.leaveBraking (m := .idle) nofun with retry := ?_ } nofun)
      have hlimit := (h.chan ch).within.bounds.retryLimit
      exact Nat.le_trans (Nat.lt_of_not_le hretry) hlimit
    split
    · exact (counted.of_chans (u := State.releaseShare _ ch) rfl).enterDwell ch
    · rename_i hdist
      refine counted.modChan (channelRangesOk_iff.2 ⟨(counted.chan ch).within.enterBackoff _, fun _ => ?_⟩)
      rw [State.chan_modChan_self]
      exact Nat.pos_of_ne_zero hdist

theorem settleExpired (h : s.InRanges) (ch : Chan) : (s.settleExpired ch).InRanges := by
  have stopped : (s.modChan ch (fun c => { c with motion := { c.motion with settleTimer := none } })).InRanges :=
    h.modChan ((h.chan ch).keeps { (h.chan ch).within with } id)
  refine KeptInside.choice (KeptInside.choice ?_ stopped) h
  unfold State.endBraking
  split
  · exact stopped.endArrive ch
  · exact stopped.endAtEnd ch
  · exact stopped.endObstruct ch
  · exact stopped.endStop ch
  · exact stopped.endStop ch

theorem dwellExpired (h : s.InRanges) (ch : Chan) : (s.dwellExpired ch).InRanges := by
  have stopped : (s.modChan ch (fun c => { c with motion := { c.motion with dwellTimer := none } })).InRanges :=
    h.modChan ((h.chan ch).keeps { (h.chan ch).within with } id)
  exact KeptInside.choice (KeptInside.choice (stopped.settleAtRest ch) stopped) h

/-! ### Sensing (Chapter 5) -/

theorem resistance (h : s.InRanges) (ch : Chan) {elsewhere : State → State} (he : (elsewhere s).InRanges) :
    (s.resistance ch elsewhere).InRanges := by
  unfold State.resistance
  dsimp only
  split
  · split
    · exact h.brake ..
    · exact KeptInside.choice (h.brake ..) he
    · exact h.brake ..
  · exact h.brake ..
  · exact h

theorem stallExpires (h : s.InRanges) (ch : Chan) : (s.stallExpires ch).InRanges := by
  have stopped : (s.modChan ch (fun c => { c with travel := { c.travel with stall := none } })).InRanges :=
    h.modChan ((h.chan ch).keeps { (h.chan ch).within with } id)
  exact KeptInside.choice (stopped.resistance ch (stopped.faultChannel ..)) h

theorem filterExpires (h : s.InRanges) (ch : Chan) : (s.filterExpires ch).InRanges := by
  unfold State.filterExpires
  refine KeptInside.choice ?_ h
  have stopped : (s.modChan ch (fun c => { c with
      current := { c.current with filter := none },
      motion := { c.motion with timedLimit :=
        c.motion.timedLimit || (c.motion.state == .moving && c.motion.moveKind == some .timed) } })).InRanges :=
    h.modChan ((h.chan ch).keeps { (h.chan ch).within with } id)
  exact stopped.resistance ch (stopped.brake ..)

theorem shortExpires (h : s.InRanges) (ch : Chan) : (s.shortExpires ch).InRanges := by
  have stopped : (s.modChan ch (fun c => { c with current := { c.current with short := none } })).InRanges :=
    h.modChan ((h.chan ch).keeps { (h.chan ch).within with } id)
  exact KeptInside.choice (KeptInside.choice (stopped.faultChannel ..) stopped) h

theorem dropReference (h : s.InRanges) (ch : Chan) : (s.dropReference ch).InRanges := by
  have ranged := channelRangesOk_iff.1 (h.chan ch)
  have dropped (waited : Bool) : (s.modChan ch (fun c =>
      { c with motion := { c.motion with referenced := false, timedEst := 0, state := if waited then .idle else c.motion.state },
               travel := { c.travel with drift := 0 } })).InRanges := by
    refine h.modChan (channelRangesOk_iff.2 ⟨{ ranged.1 with timedEst := Nat.zero_le _, moveCount := ?_, drift := Nat.zero_le _ }, ?_⟩)
    · cases waited
      · exact ranged.1.moveCount
      · exact nofun
    · cases waited
      · exact ranged.2
      · exact nofun
  exact KeptInside.choice (P := State.InRanges) ((dropped _).of_chans (State.postChan_chans ..))
    ((dropped _).of_chans (State.postChan_chans ..))

theorem driftPulse (h : s.InRanges) (ch : Chan) : (s.driftPulse ch).InRanges := by
  unfold State.driftPulse
  dsimp only
  split
  · exact h.settleAtRest ch
  · exact (h.restsIn ch (m := .idle) nofun nofun).of_chans rfl
  · exact h

end State.InRanges

/-- A counted pulse acts: the backoff that has run out ends (R67). -/
theorem State.Counted.actOnPulse (h : s.Counted ch) : (s.actOnPulse ch).InRanges := by
  unfold State.actOnPulse
  dsimp only
  split
  · rename_i hs
    have ranges := h.inRanges (by rw [hs]; nofun)
    split
    · split
      · exact h.brake ..
      · split
        · exact ranges.modChan ((ranges.chan ch).keeps { h.within with } id)
        · exact ranges
    · exact ranges
  · split
    · exact h.brake ..
    · rename_i hruns
      refine ⟨fun d => ?_⟩
      by_cases hd : d = ch
      · subst hd; exact channelRangesOk_iff.2 ⟨h.within, fun _ => Nat.lt_of_not_le hruns⟩
      · exact h.others d hd
  iterate 3
    · rename_i hs
      have ranges := h.inRanges (by rw [hs]; nofun)
      exact KeptInside.choice (ranges.driftPulse ch) ranges
  · rename_i hbackoff _ _ _
    exact h.inRanges hbackoff

theorem isDrift_state {c : Channel} (h : isDrift c = true) : c.motion.state ≠ .backoff := by
  intro hs
  simp [isDrift, hs, atRest] at h

namespace State.InRanges

theorem takePulse (h : s.InRanges) (ch : Chan) : (s.takePulse ch).InRanges := by
  have ranged := channelRangesOk_iff.1 (h.chan ch)
  have counted : (s.modChan ch (fun c => c.countPulse s.clock.tenths)).Counted ch :=
    ⟨fun d hd => by rw [State.chan_modChan_ne _ _ hd]; exact h.chan d,
      by rw [State.chan_modChan_self]; exact ranged.1.countPulse ranged.2 _⟩
  unfold State.takePulse
  dsimp only
  split
  · exact counted.faultChannel _
  · split
    · rename_i hloses
      simp only [losesReference, Bool.and_eq_true] at hloses
      refine State.InRanges.dropReference (counted.inRanges ?_) ch
      rw [State.chan_modChan_self]
      exact isDrift_state hloses.1
    · exact counted.actOnPulse

theorem clearChannel (h : s.InRanges) (ch : Chan) : (s.clearChannel ch).state.InRanges := by
  unfold State.clearChannel
  dsimp only
  split
  · exact h
  · split
    · refine State.InRanges.retarget (of_chans (h.modChan ?_) (State.postChan_chans ..)) ch
      refine ChannelRangesOk.of_within { (h.chan ch).within with retry := Nat.zero_le _, moveCount := nofun, timedEst := ?_ } nofun
      simp only [Channel.clearFault]
      split
      · exact (h.chan ch).within.timedEst
      · exact Nat.zero_le _
    · exact h

/-! ### STATION RESET (R74, R170) -/

theorem resetMotion (h : s.InRanges) (ch : Chan) : (s.resetMotion ch).InRanges := by
  obtain ⟨v, hv, hcase⟩ := s.resetMotion_cases ch
  have responded : v.InRanges := by
    split at hcase
    · rw [hcase]; exact h.brake ..
    · rw [hcase]; exact h.brake ..
    · rename_i hs
      rw [hcase]
      split
      · exact releaseShare (h.modChan ((h.chan ch).keeps { (h.chan ch).within with } id)) ch
      · exact h
    · rw [hcase]; exact (leaveQueue (h.restsIn ch (m := .idle) nofun nofun) ch).settleAtRest ch
    · rw [hcase]
      exact settleAtRest (h.modChan (ChannelRangesOk.of_within { (h.chan ch).within with moveCount := (by nofun) } (by nofun))) ch
    · rw [hcase]; exact h
  rw [hv]
  exact responded.modChan ((responded.chan ch).keeps { (responded.chan ch).within with retry := Nat.zero_le _ } id)

theorem resetChannel (h : s.InRanges) (ch : Chan) (changed : Bool) : (s.resetChannel ch changed).InRanges := by
  have ordered : s.freeOrder.2.InRanges := h.of_chans rfl
  have retargeted {v : State} (hv : v.InRanges) : (if changed then v.retarget ch else v).InRanges :=
    KeptInside.choice (hv.retarget ch) hv
  unfold State.resetChannel
  dsimp only
  split
  · have both := retargeted (ordered.resetMotion ch)
    exact both.modChan ((both.chan ch).keeps { (both.chan ch).within with } id)
  · have both := (retargeted ordered).resetMotion ch
    exact both.modChan ((both.chan ch).keeps { (both.chan ch).within with } id)

/-- Every event of one channel's motion. -/
theorem motion (h : s.InRanges) (e : s.MotionEvent ch u) : u.InRanges := by
  cases e with
  | retarget => exact h.retarget ch
  | settleExpired => exact h.settleExpired ch
  | dwellExpired => exact h.dwellExpired ch
  | timedArrives => exact KeptInside.choice (h.brake ..) h
  | takePulse => exact h.takePulse ch
  | stallExpires => exact h.stallExpires ch
  | filterExpires => exact h.filterExpires ch
  | shortExpires => exact h.shortExpires ch
  | clearChannel => exact h.clearChannel ch
  | resetChannel changed => exact h.resetChannel ch changed
  | rampStep =>
    refine h.modChan ((h.chan ch).keeps (h.chan ch).within.rampStep ?_)
    unfold Channel.rampStep
    split <;> exact id
  | sample v =>
    refine h.modChan ((h.chan ch).keeps ((h.chan ch).within.sampleCurrent (Nat.min_le_right ..)) ?_)
    unfold Channel.sampleCurrent
    split <;> exact id
  | blankingEnds | restEnds => exact h.modChan ((h.chan ch).keeps { (h.chan ch).within with } id)
  | periodEnds => exact h.modChan ((h.chan ch).keeps { (h.chan ch).within with period := Nat.le_refl _ } id)

/-! ### The admission unit (Chapter 4) -/

theorem shed (h : s.InRanges) (e : QueueEntry) (cause : HaltCause) : (s.shed e cause).InRanges := by
  have released : (s.releaseShare e.chan).InRanges := h.of_chans rfl
  unfold State.shed State.shedChannel
  split
  · exact released.brake ..
  · exact released.brake ..
  · split
    · exact releaseShare (released.modChan ((released.chan e.chan).keeps { (released.chan e.chan).within with } id)) e.chan
    · exact released
  · exact released

theorem preemptLoop (h : s.InRanges) (e : QueueEntry) (n : Nat) : (preemptLoop e n s).InRanges := by
  induction n generalizing s with
  | zero => exact h
  | succ n ih =>
    unfold Sys2Proof.Machine.preemptLoop
    split
    · exact h
    · split
      · exact h
      · exact ih (h.shed _ _)

theorem shedLoop (h : s.InRanges) (cause : HaltCause) (n : Nat) : (shedLoop cause n s).InRanges := by
  induction n generalizing s with
  | zero => exact h
  | succ n ih =>
    unfold Sys2Proof.Machine.shedLoop
    split
    · exact h
    · split
      · exact h
      · exact ih (h.shed _ _)

theorem admitHead (h : s.InRanges) (e : QueueEntry) : (s.admitHead e).InRanges := by
  have held (a : Admission) : State.InRanges { s with admission := a } := h.of_chans rfl
  unfold State.admitHead
  dsimp only
  split
  · exact (held _).modChan (((h.chan e.chan).within.enterMoving ..).ok nofun)
  · exact ((held _).restsIn e.chan (m := .idle) nofun nofun).of_chans rfl

theorem admitLoop (h : s.InRanges) (n : Nat) : (admitLoop n s).InRanges := by
  induction n generalizing s with
  | zero => exact h
  | succ n ih =>
    unfold Sys2Proof.Machine.admitLoop
    split
    · exact h
    · split
      · exact h
      · split
        · exact ih (h.admitHead _)
        · split
          · dsimp only
            split
            · exact ih ((h.preemptLoop _ _).admitHead _)
            · exact h.preemptLoop _ _
          · exact h

theorem finish (h : s.InRanges) (before : State) : (before.finish s).InRanges := KeptInside.choice h (h.admitLoop _)

theorem rebudget (h : s.InRanges) (cause : HaltCause) : (s.rebudget cause).InRanges :=
  have set (a : Admission) : State.InRanges { s with admission := a } := h.of_chans rfl
  KeptInside.choice ((set _).shedLoop _ _) (set _)

end State.InRanges

end Sys2Proof.Machine
end

section
/-! SUPPORT. Every step keeps the stored values in their ranges: the claims, the profile writes, the monitors and the passing of time. -/

namespace Sys2Proof.Machine

variable {s u : State} {ch : Chan}

/-! ### Claims (Tables 1.2, 7.1) -/

/-- A channel with other claims in their ranges. -/
theorem ChannelRangesOk.withClaims {c : Channel} (h : ChannelRangesOk c) {slots : ClaimSlots} {airing : Option AiringRecord}
    (hslots : ∀ k claim, slots.get k = some claim → ClaimOk c.profile.travel claim) (hair : ∀ a, airing = some a → AiringRangesOk a) :
    ChannelRangesOk { c with slots := slots, airing := airing } :=
  h.keeps { h.within with slots := hslots, airing := hair } id

/-- A slot of a channel after one slot was set. -/
theorem ClaimSlots.of_set {slots : ClaimSlots} {k : ClaimClass} {x : Option Claim} {R : Claim → Prop}
    (h : ∀ j claim, slots.get j = some claim → R claim) (hx : ∀ claim, x = some claim → R claim) (j : ClaimClass) (claim : Claim)
    (hj : (slots.set k x).get j = some claim) : R claim := by
  by_cases hjk : j = k
  · subst hjk; rw [ClaimSlots.get_set_self] at hj; exact hx claim hj
  · rw [ClaimSlots.get_set_ne _ _ hjk] at hj; exact h j claim hj

theorem ClaimSlots.of_map {slots : ClaimSlots} {f : Claim → Claim} {R R' : Claim → Prop}
    (h : ∀ j claim, slots.get j = some claim → R claim) (hf : ∀ claim, R claim → R' (f claim)) (j : ClaimClass) (claim : Claim)
    (hj : (slots.map f).get j = some claim) : R' claim := by
  rw [ClaimSlots.get_map] at hj
  obtain ⟨old, hold, rfl⟩ := Option.map_eq_some_iff.1 hj
  exact hf old (h j old hold)

namespace ChannelRangesOk

variable {c : Channel} (h : ChannelRangesOk c)
include h

theorem dropClaim (cls : ClaimClass) : ChannelRangesOk (c.dropClaim cls) := by
  refine h.withClaims (ClaimSlots.of_set h.within.slots nofun) fun a ha => ?_
  split at ha
  · cases ha
  · exact h.within.airing a ha

theorem putClaim (cls : ClaimClass) {claim : Claim} (hclaim : ClaimOk c.profile.travel claim) :
    ChannelRangesOk (c.putClaim cls claim) :=
  h.keeps { h.within with slots := ClaimSlots.of_set h.within.slots (by rintro _ ⟨⟩; exact hclaim) } id

theorem storeClaim (cls : ClaimClass) {claim : Channel → Claim} {air : AiringRecord}
    (hclaim : ∀ c, ClaimOk c.profile.travel (claim c)) (hair : AiringRangesOk air) :
    ChannelRangesOk (c.storeClaim cls claim air) := by
  refine (h.putClaim cls (hclaim c)).withClaims (h.putClaim cls (hclaim c)).within.slots fun a ha => ?_
  split at ha
  · cases ha; exact hair
  · exact h.within.airing a ha

theorem rewriteAiring {a b : AiringRecord} (ha : c.airing = some a) (hb : AiringRangesOk a → AiringRangesOk b) :
    ChannelRangesOk (c.rewriteAiring b) := by
  have bounds := hb (h.within.airing a ha)
  refine h.withClaims (slots := { c.slots with airing := _ }) (fun k claim hk => ?_) (by rintro _ ⟨⟩; exact bounds)
  by_cases hair : k = .airing
  · subst hair
    obtain ⟨old, hold, rfl⟩ := Option.map_eq_some_iff.1 hk
    obtain ⟨-, htag, hexpiry, hgroup⟩ := h.within.slots .airing old hold
    exact ⟨bounds.level_le, htag, hexpiry, hgroup⟩
  · refine h.within.slots k claim ?_
    cases k with
    | airing => exact absurd rfl hair
    | smoke | service | fallback | manual | comfort => exact hk

theorem resetClaims : ChannelRangesOk c.resetClaims := by
  refine h.withClaims (fun k claim hk => ?_) nofun
  cases k with
  | smoke => exact h.within.slots .smoke claim hk
  | service | fallback | manual | comfort | airing => cases hk

omit h in
theorem claimOk_fallbackClaim (hp : c.profile = {} ∨ profileInRange c.profile = true) : ClaimOk c.profile.travel (fallbackClaim c) := by
  refine ⟨?_, Nat.zero_le _, nofun, nofun⟩
  have hlevel : c.profile.moveToLevel ≤ 1000 := by
    rcases hp with hp | hp
    · rw [hp]; decide
    · simp only [profileInRange, Bool.and_eq_true, inRange_iff] at hp
      omega
  dsimp only [fallbackClaim]
  split
  · exact hlevel
  · exact demandOk_captureStay c

theorem loseLine : ChannelRangesOk c.loseLine := by
  have dropped := (h.dropClaim .comfort).dropClaim .airing
  have fallback := claimOk_fallbackClaim h.within.profile
  unfold Channel.loseLine
  dsimp only
  split <;> split
  · exact dropped.dropClaim .manual
  · exact dropped
  · exact (dropped.dropClaim .manual).putClaim .fallback fallback
  · exact dropped.putClaim .fallback fallback

/-! ### The passing of time -/

theorem tick : ChannelRangesOk c.tick := by
  refine h.keeps { h.within with
    slots := ClaimSlots.of_map h.within.slots fun claim hclaim => ?_, airing := fun a ha => ?_, stop := h.within.stop
    ramp := fun r hr => ?_ } id
  · obtain ⟨hdemand, htag, hexpiry, hgroup⟩ := hclaim
    refine ⟨hdemand, htag, fun r hr => ?_, hgroup⟩
    obtain ⟨x, hx, rfl⟩ := Option.map_eq_some_iff.1 hr
    exact Nat.le_trans (Nat.sub_le ..) (hexpiry x hx)
  · obtain ⟨x, hx, rfl⟩ := Option.map_eq_some_iff.1 ha
    obtain ⟨hlevel, hopen, hopen', hclosed, hclosed', hleft, hcycles, hdwell⟩ := h.within.airing x hx
    exact ⟨hlevel, hopen, hopen', hclosed, hclosed', hleft, hcycles, Nat.le_trans (Nat.sub_le ..) hdwell⟩
  · obtain ⟨x, hx, rfl⟩ := Option.map_eq_some_iff.1 hr
    exact Nat.le_trans (Nat.sub_le ..) (h.within.ramp x hx)

theorem withLegs {l : LegStage} (hl : l.onCount ≤ 200) : ChannelRangesOk { c with drive := { c.drive with legs := l } } :=
  h.keeps { h.within with onCount := hl } id

/-! ### A profile write (R48) -/

/-- The record that a profile write leaves on an unmoved channel; its selection is that of the evaluation that follows. -/
theorem writeProfile {p : Profile} (hp : profileInRange p = true) (hstop : c.motion.stop = none)
    (hstate : c.motion.state = .disabled ∨ c.motion.state = .idle ∨ c.motion.state = .faulted) :
    ChannelRangesOk { c.writeProfile p with selected := {} } := by
  have bounds := Profile.bounds_of_inRange hp
  obtain ⟨-, -, hrest⟩ := stateAfterWrite_cases p.enable hstate
  have differs {m : MotionState} (h1 : m ≠ .disabled) (h2 : m ≠ .idle) (h3 : m ≠ .faulted) :
      (c.writeProfile p).motion.state ≠ m := fun hs => by
    rw [show (c.writeProfile p).motion.state = stateAfterWrite p.enable c.motion.state from rfl] at hs
    rw [hs] at hrest; tauto
  refine .of_within { h.within with
    profile := .inr hp, selected := selectionOk_none _, hand := selectionOk_none _, retry := Nat.zero_le _, eOpen := bounds.initOpen,
    eClose := bounds.initClose, timedEst := Nat.zero_le _, drift := Nat.zero_le _
    slots := fun k claim hk => ?_
    stop := fun q hq => ?_
    positionLow := ?_, positionHigh := ?_
    moveCount := fun hs => absurd hs (differs nofun nofun nofun) } (differs nofun nofun nofun)
  · simp only [Channel.writeProfile] at hk
    split at hk
    · rename_i htravel
      exact htravel ▸ h.within.slots k claim hk
    · refine ClaimSlots.of_map h.within.slots (fun claim hclaim => ?_) k claim hk
      obtain ⟨hdemand, htag, hexpiry, hgroup⟩ := hclaim
      unfold Claim.reclamp
      split
      · exact ⟨Nat.min_le_right .., htag, hexpiry, hgroup⟩
      · rename_i hform
        refine ⟨?_, htag, hexpiry, hgroup⟩
        cases hd : claim.demand with
        | level d => rw [hd] at hdemand; exact hdemand
        | stay x =>
          cases x with
          | none => trivial
          | some x => exact absurd hd (hform x)
  · cases hstop.symm.trans hq
  · simp only [Channel.writeProfile]; omega
  · simp only [Channel.writeProfile]; omega

end ChannelRangesOk

/-! ### The station -/

/-- What `RangesOk` asks beside the channels. -/
structure State.RestInRange (s : State) : Prop where
  input : ∀ n, (s.input n).InRange
  settings : settingsInRange s.settings = true
  groupCount : s.groups.length = 64
  group : ∀ e ∈ s.groups, e.number ≤ 1023
  weather : s.weather.InRange
  supply : s.supply.InRange
  thermal : -55 ≤ s.thermal.temperature ∧ s.thermal.temperature ≤ 200
  count : s.clock.count < 200
  k : s.clock.k < 256
  sub : s.clock.sub < 80000

theorem rangesOk_iff : RangesOk s ↔ s.InRanges ∧ s.RestInRange := by
  constructor
  · intro h
    obtain ⟨hchans, hinput, hsettings, hlen, hgroup, ⟨-, -, -, -, -, -, -, -, -, -, -, -, hlow, hhigh⟩, hcount, hk, hsub⟩ := id h
    exact ⟨⟨hchans⟩, hinput, hsettings, hlen, hgroup, h.weather, h.supply, ⟨hlow, hhigh⟩, hcount, hk, hsub⟩
  · rintro ⟨⟨hchans⟩, hinput, hsettings, hlen, hgroup, ⟨h1, h2, h3, h4, h5, h6⟩, ⟨h7, h8, h9, h10, h11, h12⟩, hthermal, hcount, hk, hsub⟩
    exact ⟨hchans, hinput, hsettings, hlen, hgroup, ⟨h1, h2, h3, h4, h5, h6, h7, h8, h9, h10, h11, h12, hthermal⟩, hcount, hk, hsub⟩

theorem RangesOk.chans (h : RangesOk s) : s.InRanges := (rangesOk_iff.1 h).1

theorem RangesOk.rest (h : RangesOk s) : s.RestInRange := (rangesOk_iff.1 h).2

namespace State.RestInRange

/-- A change of the channels, the admission unit, the reports and the line leaves the rest. -/
theorem of_fields (h : s.RestInRange) (hinputs : u.inputs = s.inputs) (hsettings : u.settings = s.settings)
    (hgroups : u.groups = s.groups) (hweather : u.weather = s.weather) (hsupply : u.supply = s.supply)
    (hthermal : u.thermal = s.thermal) (hclock : u.clock = s.clock) : u.RestInRange where
  input n := by rw [State.input, hinputs]; exact h.input n
  settings := by rw [hsettings]; exact h.settings
  groupCount := by rw [hgroups]; exact h.groupCount
  group := by rw [hgroups]; exact h.group
  weather := by rw [hweather]; exact h.weather
  supply := by rw [hsupply]; exact h.supply
  thermal := by rw [hthermal]; exact h.thermal
  count := by rw [hclock]; exact h.count
  k := by rw [hclock]; exact h.k
  sub := by rw [hclock]; exact h.sub

theorem of_keepsRest (h : s.RestInRange) (hrest : KeepsRest s u) : u.RestInRange := by
  obtain ⟨-, hgroups, hinputs, hsettings, -, hweather, hsupply, hthermal, -, hclock⟩ := hrest.fields
  exact h.of_fields hinputs hsettings hgroups hweather hsupply hthermal hclock

theorem of_startsAndSheds (h : s.RestInRange) (hrest : StartsAndSheds s u) : u.RestInRange := by
  obtain ⟨hu, -⟩ := hrest
  exact h.of_fields (by rw [hu]) (by rw [hu]) (by rw [hu]) (by rw [hu]) (by rw [hu]) (by rw [hu]) (by rw [hu])

theorem withClock {k : Clock} (h : s.RestInRange) (hcount : k.count < 200) (hk : k.k < 256) (hsub : k.sub < 80000) :
    State.RestInRange { s with clock := k } := { h with count := hcount, k := hk, sub := hsub }

theorem withSupply {m : Supply} (h : s.RestInRange) (hm : m.InRange) : State.RestInRange { s with supply := m } := { h with supply := hm }

theorem rebudget (h : s.RestInRange) (cause : HaltCause) : (s.rebudget cause).RestInRange := by
  have set (a : Admission) : State.RestInRange { s with admission := a } := { h with }
  exact KeptInside.choice (P := State.RestInRange) ((set _).of_startsAndSheds (.shedLoop ..)) (set _)

theorem post (h : s.RestInRange) (r : Report) : (s.post r).RestInRange := h.of_keepsRest (ActsOn.post .ch0 s r).1

theorem changeSupply (h : s.RestInRange) (state : SupplyState) : (s.changeSupply state).RestInRange :=
  have set : State.RestInRange { s with supply := { s.supply with
      state, holdOff := none, latch := if state = .cut then s.settings.latched else s.supply.latch } } := h.withSupply h.supply
  (set.post _).rebudget _

theorem firstSupply (h : s.RestInRange) (v1 v2 v3 v4 : Nat) : (s.firstSupply v1 v2 v3 v4).RestInRange := by
  have clamped : ∀ x ∈ [clampVolt v4, clampVolt v3, clampVolt v2, clampVolt v1], x ≤ 400 := by
    intro x hx
    simp only [List.mem_cons, List.not_mem_nil, or_false] at hx
    rcases hx with rfl | rfl | rfl | rfl <;> exact Nat.min_le_right ..
  have bounds := Settings.bounds h.settings
  have set (state : SupplyState) : State.RestInRange { s with supply := { s.supply with
      samples := [clampVolt v4, clampVolt v3, clampVolt v2, clampVolt v1],
      measured := meanOf [clampVolt v4, clampVolt v3, clampVolt v2, clampVolt v1], formed := true, state,
      cutInForce := s.settings.cutVolt, lowInForce := s.settings.lowVolt, overInForce := s.settings.overVolt } } :=
    h.withSupply ⟨meanOf_le (Nat.le_refl 4) clamped, clamped, Nat.le_refl 4, bounds.cutVolt, bounds.lowVolt, bounds.overVolt⟩
  unfold State.firstSupply
  dsimp only
  split
  · exact h
  · split
    · exact (set _).rebudget _
    · exact ((set _).post _).rebudget _

theorem measureThermal (h : s.RestInRange) (celsius : Int) : (s.measureThermal celsius).RestInRange := by
  have set (state : ThermalState) : State.RestInRange { s with thermal := { state, temperature := clampCelsius celsius, formed := true } } :=
    { h with thermal := by unfold clampCelsius; dsimp only; omega }
  exact KeptInside.choice (P := State.RestInRange) (set _) (((set _).post _).rebudget _)

theorem writeSettings (h : s.RestInRange) {t : Settings} (ht : settingsInRange t = true) : (s.writeSettings t).RestInRange := by
  have set (latch : Bool) : State.RestInRange { s with settings := t, supply := { s.supply with latch } } :=
    { h with settings := ht, supply := h.supply }
  exact KeptInside.choice (P := State.RestInRange) (set _) ((set _).rebudget _)

theorem setInput (h : s.RestInRange) (n : InputNo) {e : InputEntry} (he : e.InRange) : (s.setInput n e).RestInRange where
  __ := h
  input m := by
    by_cases hm : m = n
    · subst hm; rwa [State.input_setInput_self]
    · rw [State.input, State.setInput, PerInput.get_set_ne _ _ hm]; exact h.input m

theorem setGroup (h : s.RestInRange) (i : Nat) {e : GroupEntry} (he : e.number ≤ 1023) :
    State.RestInRange { s with groups := s.groups.set i e } where
  __ := h
  groupCount := List.length_set.trans h.groupCount
  group x hx := by
    rcases List.mem_or_eq_of_mem_set hx with hx | rfl
    · exact h.group x hx
    · exact he

theorem tickMs (h : s.RestInRange) : s.tickMs.RestInRange where
  __ := h
  input n := by
    obtain ⟨hentry, htimer⟩ := h.input n
    rw [State.input, State.tickMs, PerInput.get_map]
    refine ⟨hentry, fun r hr => ?_⟩
    obtain ⟨x, hx, rfl⟩ := Option.map_eq_some_iff.1 hr
    exact Nat.le_trans (Nat.sub_le ..) (htimer x hx)
  weather := h.weather
  supply := h.supply

theorem passTime (h : s.RestInRange) {units : Nat} (hunits : units ≤ 80000) : (s.passTime units).RestInRange := by
  have hsub := h.sub
  unfold State.passTime
  dsimp only
  split
  · rename_i hms
    exact { h with sub := hms }
  · have ticked := h.tickMs
    have hleft : s.clock.sub + units - msUnits < 80000 := by simp only [msUnits]; omega
    exact ticked.withClock ticked.count ticked.k hleft

end State.RestInRange

/-! ### Every step -/

/-- The admission unit computes the budget anew after a change beside the channels. -/
theorem State.InRanges.rebudget_of_chans (h : s.InRanges) (hc : u.chans = s.chans) (cause : HaltCause) : (u.rebudget cause).InRanges :=
  (h.of_chans hc).rebudget cause

theorem RangesOk.of_eq (h : RangesOk s) (hchans : u.chans = s.chans) (hrest : u.RestInRange) : RangesOk u :=
  rangesOk_iff.2 ⟨h.chans.of_chans hchans, hrest⟩

theorem RangesOk.mapChans {f : Channel → Channel} (h : RangesOk s) (hf : ∀ c, ChannelRangesOk c → ChannelRangesOk (f c))
    (hc : u.chans = s.chans.map f) (hrest : u.RestInRange) : RangesOk u := rangesOk_iff.2 ⟨h.chans.mapChans hf hc, hrest⟩

theorem RangesOk.modChan {f : Channel → Channel} (h : RangesOk s) (hf : ChannelRangesOk (f (s.chan ch))) : RangesOk (s.modChan ch f) :=
  rangesOk_iff.2 ⟨h.chans.modChan hf, { h.rest with }⟩

theorem RangesOk.passTime (h : RangesOk s) {units : Nat} (hunits : units ≤ 80000) : RangesOk (s.passTime units) := by
  refine rangesOk_iff.2 ⟨?_, h.rest.passTime hunits⟩
  unfold State.passTime
  dsimp only
  split
  · exact h.chans.of_chans rfl
  · exact h.chans.mapChans (f := Channel.tick) (fun c hc => hc.tick) rfl

theorem RangesOk.boundary (h : RangesOk s) : RangesOk s.boundary :=
  h.mapChans (f := fun c => { c with drive := { c.drive with legs := legsAtBoundary c.drive.legs } })
    (fun _ hc => hc.withLegs (Nat.le_trans (onCount_legsAtBoundary_le _) hc.within.onCount)) rfl { h.rest with }

theorem RangesOk.startPeriod (h : RangesOk s) : RangesOk s.startPeriod :=
  h.mapChans (f := fun c => { c with drive := { c.drive with
      legs := legsAtPeriod c.drive.level ((s.clock.k + 1) % 256) c.drive.legs } })
    (fun _ hc => hc.withLegs (onCount_legsAtPeriod_le hc.within.level _ hc.within.onCount)) rfl
    { h.rest with count := Nat.zero_lt_succ _, k := Nat.mod_lt _ (by decide) }

theorem RangesOk.restOfPeriod (h : RangesOk s) : RangesOk s.restOfPeriod := by
  have hcount : countUnits s.clock.freq ≤ 25 := by cases s.clock.freq <;> decide
  have hunits : (periodCounts - s.clock.count) * countUnits s.clock.freq ≤ 80000 :=
    Nat.le_trans (Nat.mul_le_mul (Nat.sub_le ..) hcount) (by decide)
  exact KeptInside.choice (h.passTime hunits).boundary.boundary (h.passTime hunits).boundary

theorem RangesOk.passCount (h : RangesOk s) (hcount : s.clock.count < periodCounts - 1) : RangesOk s.passCount := by
  have passed := (h.passTime (Nat.le_trans (countUnits_le s.clock.freq) (by decide))).boundary
  refine passed.of_eq rfl { passed.rest with count := ?_ }
  have hclock : (s.passTime (countUnits s.clock.freq)).clock.count = s.clock.count := by
    unfold State.passTime; dsimp only; split <;> rfl
  show (s.passTime (countUnits s.clock.freq)).clock.count + 1 < 200
  rw [hclock]
  simp only [periodCounts] at hcount
  omega

/-- The ranges of the stored values, on a station whose motion, drive and admission agree. -/
theorem keptInside_rangesOk : KeptInside (fun s => MotionOk s ∧ RangesOk s) where
  motion e h := ⟨keptInside_motionOk.motion e h.1, rangesOk_iff.2 ⟨h.2.chans.motion e, h.2.rest.of_keepsRest e.actsOn.1⟩⟩
  finish h := ⟨keptInside_motionOk.finish h.1, rangesOk_iff.2 ⟨h.2.chans.finish _, h.2.rest.of_startsAndSheds (.finish ..)⟩⟩
  reports h := ⟨keptInside_motionOk.reports h.1, h.2.of_eq rfl { h.2.rest with }⟩
  dropClaim h := ⟨keptInside_motionOk.dropClaim h.1, h.2.modChan ((h.2.chans.chan _).dropClaim _)⟩
  storeClaim hl hcls hok h := by
    obtain ⟨hclaim, hair⟩ := hok h.2
    exact ⟨keptInside_motionOk.storeClaim hl hcls hok h.1,
      KeptInside.foldl (fun v d (hv : RangesOk v) => hv.modChan ((hv.chans.chan d).storeClaim _ hclaim hair)) h.2⟩
  rewriteAiring hair hb h := ⟨keptInside_motionOk.rewriteAiring hair hb h.1, h.2.modChan ((h.2.chans.chan _).rewriteAiring hair hb)⟩
  weather hw h := ⟨keptInside_motionOk.weather hw h.1, h.2.of_eq rfl { h.2.rest with weather := hw h.2 }⟩
  input he h := ⟨keptInside_motionOk.input he h.1, h.2.of_eq rfl (h.2.rest.setInput _ (he h.2))⟩
  group he h := ⟨keptInside_motionOk.group he h.1, h.2.of_eq rfl (h.2.rest.setGroup _ he)⟩
  supply hstate hm h := ⟨keptInside_motionOk.supply hstate hm h.1, h.2.of_eq rfl (h.2.rest.withSupply (hm h.2))⟩
  changeSupply h := ⟨keptInside_motionOk.changeSupply h.1, rangesOk_iff.2
    ⟨.rebudget_of_chans h.2.chans (by simp) _, h.2.rest.changeSupply _⟩⟩
  firstSupply {s v1 v2 v3 v4} h := by
    refine ⟨keptInside_motionOk.firstSupply h.1, rangesOk_iff.2 ⟨?_, h.2.rest.firstSupply ..⟩⟩
    unfold State.firstSupply
    dsimp only
    split
    · exact h.2.chans
    · split
      · exact .rebudget_of_chans h.2.chans (by rfl) _
      · exact .rebudget_of_chans h.2.chans (by simp) _
  measureThermal h := ⟨keptInside_motionOk.measureThermal h.1, rangesOk_iff.2
    ⟨KeptInside.choice (h.2.chans.of_chans rfl) (.rebudget_of_chans h.2.chans (by simp) _), h.2.rest.measureThermal _⟩⟩
  writeSettings ht h := ⟨keptInside_motionOk.writeSettings ht h.1, rangesOk_iff.2
    ⟨KeptInside.choice (h.2.chans.of_chans rfl) (.rebudget_of_chans h.2.chans (by rfl) _), h.2.rest.writeSettings ht⟩⟩
  writeProfile {s ch p} hbusy hp h := by
    refine ⟨keptInside_motionOk.writeProfile hbusy hp h.1, rangesOk_iff.2 ⟨.retarget_of_selected (fun d hd => ?_) ?_, ?_⟩⟩
    · rw [State.chan_modChan_ne _ _ hd]; exact h.2.chans.chan d
    · have agrees := channelOk_iff.1 (h.1.1 ch)
      have hstate := isBusy_eq_false.1 hbusy
      rw [State.chan_modChan_self]
      exact (h.2.chans.chan ch).writeProfile hp
        (agrees.stop_eq_none (by rintro hs; rw [hs] at hstate; tauto) (by rintro hs; rw [hs] at hstate; tauto)) hstate
    · exact State.RestInRange.of_keepsRest (s := s.modChan ch (fun c => c.writeProfile p)) { h.2.rest with } (ActsOn.retarget ..).1
  resetClaims h := ⟨keptInside_motionOk.resetClaims h.1, h.2.mapChans (fun _ hc => hc.resetClaims) rfl { h.2.rest with }⟩
  stagger {s} h := ⟨keptInside_motionOk.stagger h.1, rangesOk_iff.2
    ⟨.admitLoop (s := { s with admission := { s.admission with stagger := none } }) (h.2.chans.of_chans rfl) _,
      State.RestInRange.of_startsAndSheds (s := { s with admission := { s.admission with stagger := none } }) { h.2.rest with }
        (.evaluateAdmission _)⟩⟩

theorem rangesOk_lineOk (h : MotionOk s ∧ RangesOk s) : RangesOk s.lineOk :=
  have restored : MotionOk { s with line := { s.line with lost := false } } ∧ RangesOk { s with line := { s.line with lost := false } } :=
    ⟨h.1.of_eq rfl rfl rfl, h.2.of_eq rfl { h.2.rest with }⟩
  (keptInside_rangesOk.post (keptInside_rangesOk.removeWhere restored)).2

theorem RangesOk.lineLost (h : RangesOk s) : RangesOk s.lineLost := by
  have placed : RangesOk { s with line := { s.line with lost := true }, chans := s.chans.map Channel.loseLine } :=
    h.mapChans (fun _ hc => hc.loseLine) rfl { h.rest with }
  have targeted (chs : List Chan) := KeptInside.foldl (f := State.retarget) (l := chs) (P := RangesOk)
    (fun v d hv => rangesOk_iff.2 ⟨hv.chans.retarget d, hv.rest.of_keepsRest (ActsOn.retarget d v).1⟩) placed
  have posted {v : State} (hv : RangesOk v) (r : Report) : RangesOk (v.post r) := hv.of_eq (by simp) (hv.rest.post r)
  exact posted (targeted _) _

/-- The ranges of the stored values through every step. -/
theorem keptBySteps_rangesOk : KeptBySteps (fun s => MotionOk s ∧ RangesOk s) where
  toKeptInside := keptInside_rangesOk
  line hl h := ⟨keptBySteps_motionOk.line hl h.1, h.2.of_eq rfl { h.2.rest with }⟩
  freshStart h := ⟨keptBySteps_motionOk.freshStart h.1, h.2.of_eq rfl { h.2.rest with }⟩
  freeCount h := ⟨keptBySteps_motionOk.freeCount h.1, h.2.of_eq rfl { h.2.rest with }⟩
  lineOk h := ⟨keptBySteps_motionOk.lineOk h.1, rangesOk_lineOk h⟩
  lineLost h := ⟨keptBySteps_motionOk.lineLost h.1, h.2.lineLost⟩
  period h := ⟨keptBySteps_motionOk.period h.1, h.2.restOfPeriod.startPeriod⟩
  reset h := ⟨keptBySteps_motionOk.reset h.1, rangesOk_reset.of_eq rfl { rangesOk_reset.rest with }⟩
  pending h := ⟨keptBySteps_motionOk.pending h.1, h.2.of_eq rfl { h.2.rest with }⟩
  passCount hcount h := ⟨keptBySteps_motionOk.passCount hcount h.1, h.2.passCount hcount⟩

/-- Settles O41: on a station whose motion, drive and admission agree, every event keeps every stored value in its range. -/
theorem storedValuesInRange : Obligations.StoredValuesInRange := by
  unfold Obligations.StoredValuesInRange
  exact fun s t hm hr hx => (keptBySteps_rangesOk.step ⟨hm, hr⟩ hx).2

end Sys2Proof.Machine
end

section
/-! SUPPORT. The drive generator: the dither (R113), the ramp (R118) and the on-windows (R114). -/

namespace Sys2Proof.Machine

/-! ### The reversed digits (R113) -/

theorem bitrev8_lt (k : Nat) : bitrev8 k < 256 := by
  unfold bitrev8
  omega

theorem testBit_bitrev8 {k i : Nat} (hi : i < 8) : (bitrev8 k).testBit i = k.testBit (7 - i) := by
  have digit (d : Nat) : k / d % 2 < 2 := Nat.mod_lt _ (by decide)
  have h0 := digit 1; have h1 := digit 2; have h2 := digit 4; have h3 := digit 8
  have h4 := digit 16; have h5 := digit 32; have h6 := digit 64; have h7 := digit 128
  rw [Nat.div_one] at h0
  simp only [Nat.testBit_eq_decide_div_mod_eq, decide_eq_decide, bitrev8]
  have source : k / 2 ^ (7 - i) % 2 = match i with
      | 0 => k / 128 % 2 | 1 => k / 64 % 2 | 2 => k / 32 % 2 | 3 => k / 16 % 2
      | 4 => k / 8 % 2 | 5 => k / 4 % 2 | 6 => k / 2 % 2 | _ => k % 2 := by
    interval_cases i <;> simp
  rw [source]
  generalize k % 2 = b0 at *
  generalize k / 2 % 2 = b1 at *
  generalize k / 4 % 2 = b2 at *
  generalize k / 8 % 2 = b3 at *
  generalize k / 16 % 2 = b4 at *
  generalize k / 32 % 2 = b5 at *
  generalize k / 64 % 2 = b6 at *
  generalize k / 128 % 2 = b7 at *
  clear source
  interval_cases i <;> simp only [Nat.reducePow, Nat.div_one] <;> omega

/-- The reversal of the digits is one to one. -/
theorem bitrev8_injective {a b : Nat} (ha : a < 256) (hb : b < 256) (h : bitrev8 a = bitrev8 b) : a = b := by
  refine Nat.eq_of_testBit_eq fun i => ?_
  by_cases hi : i < 8
  · have := testBit_bitrev8 (k := a) (i := 7 - i) (by omega)
    rw [h, testBit_bitrev8 (by omega), show 7 - (7 - i) = i by omega] at this
    exact this.symm
  · have hpow : 256 ≤ 2 ^ i := Nat.pow_le_pow_right (n := 2) (i := 8) (by decide) (Nat.not_lt.1 hi)
    rw [Nat.testBit_lt_two_pow (Nat.lt_of_lt_of_le ha hpow), Nat.testBit_lt_two_pow (Nat.lt_of_lt_of_le hb hpow)]

/-- Any 256 periods in a row take the reversed digits of each index once. -/
theorem bitrev8_perm {k : Nat} : ((List.range 256).map (fun j => bitrev8 ((k + j) % 256))).Perm (List.range 256) := by
  have nodup : ((List.range 256).map (fun j => bitrev8 ((k + j) % 256))).Nodup := by
    refine List.Nodup.map_on (fun i hi j hj h => ?_) List.nodup_range
    have hmod := bitrev8_injective (Nat.mod_lt _ (by decide)) (Nat.mod_lt _ (by decide)) h
    rw [List.mem_range] at hi hj
    omega
  refine (nodup.subperm fun v hv => ?_).perm_of_length_le (by simp)
  obtain ⟨j, -, rfl⟩ := List.mem_map.1 hv
  exact List.mem_range.2 (bitrev8_lt _)

/-! ### The on-counts of 256 periods (R113) -/

theorem onCount_eq (L k : Nat) : onCount L k = L / 256 + if bitrev8 k < L % 256 then 1 else 0 := by
  unfold onCount
  split <;> rfl

theorem sum_range_below (q f n : Nat) :
    ((List.range n).map (fun v => q + if v < f then 1 else 0)).sum = n * q + min n f := by
  induction n with
  | zero => simp
  | succ n ih =>
    rw [List.range_succ, List.map_append, List.sum_append, ih, Nat.add_mul]
    simp only [List.map_cons, List.map_nil, List.sum_cons, List.sum_nil]
    split <;> omega

theorem length_filter_range_lt (f n : Nat) : ((List.range n).filter (fun v => decide (v < f))).length = min n f := by
  induction n with
  | zero => simp
  | succ n ih =>
    rw [List.range_succ, List.filter_append, List.length_append, ih, List.filter_singleton]
    by_cases h : n < f
    · simp only [h, decide_true, cond_true, List.length_cons, List.length_nil]; omega
    · simp only [h, decide_false, cond_false, List.length_nil]; omega

theorem sum_onCount (L k : Nat) : ((List.range 256).map (fun j => onCount L ((k + j) % 256))).sum = L := by
  have below := (bitrev8_perm (k := k)).map (fun v => L / 256 + if v < L % 256 then 1 else 0)
  rw [List.map_map] at below
  calc ((List.range 256).map (fun j => onCount L ((k + j) % 256))).sum
    _ = ((List.range 256).map (fun v => L / 256 + if v < L % 256 then 1 else 0)).sum := by
        rw [← below.sum_eq]
        exact congrArg List.sum (List.map_congr_left fun j _ => onCount_eq L _)
    _ = L := by rw [sum_range_below]; omega

/-- Exactly the fraction's number of the periods carries one count more. -/
theorem length_filter_onCount (L k : Nat) :
    ((List.range 256).filter (fun j => onCount L ((k + j) % 256) = L / 256 + 1)).length = L % 256 := by
  have carries (j : Nat) : (onCount L ((k + j) % 256) = L / 256 + 1) ↔ bitrev8 ((k + j) % 256) < L % 256 := by
    rw [onCount_eq]
    split <;> omega
  have mapped := List.filter_map (f := fun j => bitrev8 ((k + j) % 256)) (p := fun v => decide (v < L % 256)) (l := List.range 256)
  calc ((List.range 256).filter (fun j => onCount L ((k + j) % 256) = L / 256 + 1)).length
    _ = ((List.range 256).filter ((fun v => decide (v < L % 256)) ∘ fun j => bitrev8 ((k + j) % 256))).length := by
        refine congrArg List.length (List.filter_congr fun j _ => ?_)
        simp only [Function.comp, carries]
    _ = (((List.range 256).map (fun j => bitrev8 ((k + j) % 256))).filter (fun v => decide (v < L % 256))).length := by
        rw [mapped, List.length_map]
    _ = L % 256 := by rw [(bitrev8_perm.filter _).length_eq, length_filter_range_lt]; omega

/-- Settles O7: any 256 periods take each reversed index once, and so the fraction's number of them below the fraction. -/
theorem ditherTotalsTheLevel : Obligations.DitherTotalsTheLevel := by
  unfold Obligations.DitherTotalsTheLevel
  refine ⟨fun k i _ => testBit_bitrev8, fun k _ => bitrev8_lt k, fun L k => rfl,
    fun L k _ _ => ⟨sum_onCount L k, length_filter_onCount L k⟩, fun L k hL => onCount_le hL k, fun k => ⟨?_, ?_⟩⟩
  · simp [onCount]
  · simp [onCount]

/-! ### The ramp (R118) -/

/-- A ramp upwards after `m` steps. -/
theorem iterate_rampToward_up {a b R : Nat} (hab : a ≤ b) (m : Nat) :
    (fun L => rampToward L b R)^[m] a = min (a + m * R) b := by
  induction m with
  | zero => rw [Function.iterate_zero_apply]; omega
  | succ m ih =>
    rw [Function.iterate_succ_apply', ih, rampToward, Nat.add_mul]
    split <;> omega

/-- A ramp downwards after `m` steps. -/
theorem iterate_rampToward_down {a b R : Nat} (hab : b ≤ a) (m : Nat) :
    (fun L => rampToward L b R)^[m] a = max (a - m * R) b := by
  induction m with
  | zero => rw [Function.iterate_zero_apply]; omega
  | succ m ih =>
    rw [Function.iterate_succ_apply', ih, rampToward, Nat.add_mul]
    split <;> omega

/-- The steps of a ramp over `d` levels at the rate `R` reach it, and fewer do not. -/
theorem rampSteps_reach {d R : Nat} (hR : 1 ≤ R) : d ≤ (d + R - 1) / R * R ∧ ∀ m, m < (d + R - 1) / R → m * R < d := by
  have hdiv := Nat.div_add_mod (d + R - 1) R
  have hmod := Nat.mod_lt (d + R - 1) hR
  rw [Nat.mul_comm] at hdiv
  refine ⟨by omega, fun m hm => ?_⟩
  have hle := Nat.mul_le_mul_right R (Nat.succ_le_of_lt hm)
  rw [Nat.succ_mul] at hle
  omega

theorem rampToward_self (L R : Nat) : rampToward L L R = L := by
  unfold rampToward
  rw [if_neg (Nat.lt_irrefl L)]
  omega

theorem atRunLevel_iff {p : Profile} {level : Nat} {phase : PhaseLevel} :
    atRunLevel p level phase = true ↔ phase = .run ∧ level = p.runLevel := by simp [atRunLevel]

/-- A ramp step under a phase level (R118, R120). -/
theorem Channel.rampStep_of_phase {c : Channel} {phase : PhaseLevel} (h : c.drive.phase = some phase) :
    let level := rampToward c.drive.level (c.profile.levelOf phase) c.profile.rampRate
    c.rampStep = { c with
      drive := { c.drive with level, ramp := some 10, runMark := c.drive.runMark || atRunLevel c.profile level phase }
      current := { c.current with startPhase := c.current.startPhase && !atRunLevel c.profile level phase } } := by
  unfold Channel.rampStep
  rw [h]

/-- Settles O9: the step by the phase level, and the number of the steps by the rounded quotient. -/
theorem rampStepMovesTheLevel : Obligations.RampStepMovesTheLevel := by
  unfold Obligations.RampStepMovesTheLevel
  refine ⟨fun ch s ph hramp hphase => ?_, fun p => ⟨rfl, rfl, rfl⟩, fun a b R hR hab => ?_, fun a b R hR hab => ?_⟩
  · have hstep := Channel.rampStep_of_phase hphase
    dsimp only at hstep
    generalize hlevel : rampToward (s.chan ch).drive.level ((s.chan ch).profile.levelOf ph) (s.chan ch).profile.rampRate = level at hstep
    refine ⟨s.modChan ch Channel.rampStep, ?_, fun d hd => State.chan_modChan_ne _ _ hd, rfl, ?_⟩
    · show Host.Outcome.next (if timerDue (s.chan ch).drive.ramp then _ else _) = _
      rw [hramp]
      rfl
    · rw [State.chan_modChan_self, hstep]
      refine ⟨rfl, fun hlt => ?_, fun hlt => ?_, fun heq => ?_, rfl, rfl, hphase, rfl, ?_⟩
      · rw [← hlevel, rampToward, if_pos hlt]
      · rw [← hlevel, rampToward, if_neg (Nat.lt_asymm hlt)]
      · rw [← hlevel, ← heq, rampToward_self]
      · split
        · rename_i hreached
          simp [atRunLevel_iff.2 hreached]
        · rename_i hreached
          simp [Bool.eq_false_iff.2 fun h => hreached (atRunLevel_iff.1 h)]
  · obtain ⟨hreach, hshort⟩ := rampSteps_reach (d := b - a) hR
    refine ⟨?_, fun m hm => ?_⟩
    · rw [iterate_rampToward_up (Nat.le_of_lt hab)]; omega
    · have := hshort m hm
      rw [iterate_rampToward_up (Nat.le_of_lt hab)]; omega
  · obtain ⟨hreach, hshort⟩ := rampSteps_reach (d := a - b) hR
    refine ⟨?_, fun m hm => ?_⟩
    · rw [iterate_rampToward_down (Nat.le_of_lt hab)]; omega
    · have := hshort m hm
      rw [iterate_rampToward_down (Nat.le_of_lt hab)]; omega

end Sys2Proof.Machine
end

section
/-! SUPPORT. The passing of time (0.5) and the PWM period (R111, R112): what they do to the clock, the timers and the leg stages. -/

namespace Sys2Proof.Machine

variable {s t u : State} {ch : Chan}

/-! ### The leg stages at count boundaries (R116, R117) -/

/-- Two count boundaries bring every leg stage to one that stays. -/
theorem legsAtBoundary_settled (l : LegStage) :
    legsAtBoundary (legsAtBoundary (legsAtBoundary l)) = legsAtBoundary (legsAtBoundary l) := by
  cases l with
  | cutting n brake => cases brake <;> rfl
  | _ => rfl

theorem iterate_legsAtBoundary (l : LegStage) (n : Nat) : legsAtBoundary^[n + 2] l = legsAtBoundary (legsAtBoundary l) := by
  induction n with
  | zero => rfl
  | succ n ih => rw [Function.iterate_succ_apply', ih, legsAtBoundary_settled]

/-! ### Less than 1 ms, or 1 ms, of the time base -/

/-- The state of a channel but for its legs. -/
def Channel.SameButLegs (c d : Channel) : Prop := d = { c with drive := { c.drive with legs := d.drive.legs } }

theorem Channel.SameButLegs.trans {c d e : Channel} (h : c.SameButLegs d) (k : d.SameButLegs e) : c.SameButLegs e := by
  unfold Channel.SameButLegs at *
  rw [k, h]

/-- A change of the clock and the leg stages alone, the moment apart. -/
structure State.ClocksOnly (s t : State) : Prop where
  rest : t = { s with clock := t.clock, chans := t.chans }
  now : t.clock.now = s.clock.now
  chan : ∀ ch, (s.chan ch).SameButLegs (t.chan ch)

theorem State.ClocksOnly.boundary (s : State) : s.ClocksOnly s.boundary where
  rest := rfl
  now := rfl
  chan ch := by rw [Channel.SameButLegs, State.boundary, State.chan, PerChan.get_map]; rfl

theorem State.ClocksOnly.startPeriod (s : State) : s.ClocksOnly s.startPeriod where
  rest := rfl
  now := rfl
  chan ch := by rw [Channel.SameButLegs, State.startPeriod, State.chan, PerChan.get_map]; rfl

theorem TimePasses.zero {units : Nat} (h : s.clock.sub + units < msUnits) : TimePasses 0 s (s.passTime units) := by
  have hpass : s.passTime units = { s with clock := { s.clock with sub := s.clock.sub + units } } := if_pos h
  rw [hpass]
  exact ⟨rfl, rfl, fun _ => rfl⟩

theorem TimePasses.one {units : Nat} (h : ¬ s.clock.sub + units < msUnits) : TimePasses 1 s (s.passTime units) := by
  have hpass : s.passTime units = { s.tickMs with clock := { s.tickMs.clock with sub := s.clock.sub + units - msUnits } } := if_neg h
  rw [hpass]
  exact ⟨rfl, rfl, fun _ => rfl⟩

/-- A passing of less than 1 ms of units moves the time base by at most 1 ms. -/
theorem TimePasses.passTime (s : State) (units : Nat) : ∃ n, n ≤ 1 ∧ TimePasses n s (s.passTime units) := by
  by_cases h : s.clock.sub + units < msUnits
  · exact ⟨0, by omega, .zero h⟩
  · exact ⟨1, le_rfl, .one h⟩

theorem TimePasses.after {n : Nat} (h : TimePasses n s t) (k : t.ClocksOnly u) : TimePasses n s u := by
  obtain ⟨hnow, hrest, hchan⟩ := h
  refine ⟨k.now.trans hnow, ?_, fun ch => ?_⟩
  · have hu := k.rest
    rw [hrest] at hu
    exact hu
  · have hc : (((State.tickMs^[n] s)).chan ch).SameButLegs (t.chan ch) := hchan ch
    exact hc.trans (k.chan ch)

theorem State.ClocksOnly.trans (h : s.ClocksOnly t) (k : t.ClocksOnly u) : s.ClocksOnly u where
  rest := by
    have hu := k.rest
    rw [h.rest] at hu
    exact hu
  now := k.now.trans h.now
  chan ch := (h.chan ch).trans (k.chan ch)

theorem TimePasses.passCount (s : State) : ∃ n, n ≤ 1 ∧ TimePasses n s s.passCount := by
  obtain ⟨n, hn, htime⟩ := TimePasses.passTime s (countUnits s.clock.freq)
  exact ⟨n, hn, htime.after ((State.ClocksOnly.boundary _).trans ⟨rfl, rfl, fun _ => rfl⟩)⟩

/-- The boundaries that the rest of a period passes, after its time. -/
theorem State.ClocksOnly.restOfPeriod (s : State) :
    (s.passTime ((periodCounts - s.clock.count) * countUnits s.clock.freq)).ClocksOnly s.restOfPeriod := by
  unfold State.restOfPeriod
  dsimp only
  split
  · exact (State.ClocksOnly.boundary _).trans (.boundary _)
  · exact .boundary _

theorem State.ClocksOnly.pwmPeriod (s : State) :
    (s.passTime ((periodCounts - s.clock.count) * countUnits s.clock.freq)).ClocksOnly s.restOfPeriod.startPeriod :=
  (State.ClocksOnly.restOfPeriod s).trans (.startPeriod _)

theorem TimePasses.pwmPeriod (s : State) : ∃ n, n ≤ 1 ∧ TimePasses n s s.restOfPeriod.startPeriod := by
  obtain ⟨n, hn, htime⟩ := TimePasses.passTime s ((periodCounts - s.clock.count) * countUnits s.clock.freq)
  exact ⟨n, hn, htime.after (.pwmPeriod s)⟩

/-! ### The legs through an idle step and through PWM_PERIOD -/

/-- The passing of time leaves the drive level, the legs and the latest sample. -/
theorem State.passTime_drive (s : State) (units : Nat) (ch : Chan) :
    ((s.passTime units).chan ch).drive.legs = (s.chan ch).drive.legs
      ∧ ((s.passTime units).chan ch).drive.level = (s.chan ch).drive.level
      ∧ ((s.passTime units).chan ch).current.sample = (s.chan ch).current.sample := by
  unfold State.passTime
  dsimp only
  split
  · exact ⟨rfl, rfl, rfl⟩
  · rw [show ({ s.tickMs with clock := _ } : State).chan ch = (s.chan ch).tick from PerChan.get_map ..]
    exact ⟨rfl, rfl, rfl⟩

@[simp] theorem State.boundary_legs (s : State) (ch : Chan) :
    (s.boundary.chan ch).drive.legs = legsAtBoundary (s.chan ch).drive.legs := by
  rw [State.boundary, State.chan, PerChan.get_map]
  rfl

theorem State.passCount_legs (s : State) (ch : Chan) :
    (s.passCount.chan ch).drive.legs = legsAtBoundary (s.chan ch).drive.legs := by
  show ((s.passTime (countUnits s.clock.freq)).boundary.chan ch).drive.legs = _
  rw [State.boundary_legs, (s.passTime_drive _ ch).1]

/-- The leg stage at the end of the period: one boundary at the last count, and two, or more, before. -/
theorem State.restOfPeriod_legs (s : State) (ch : Chan) :
    (s.restOfPeriod.chan ch).drive.legs = if 2 ≤ 200 - s.clock.count then
      legsAtBoundary (legsAtBoundary (s.chan ch).drive.legs) else legsAtBoundary (s.chan ch).drive.legs := by
  have hlegs := (s.passTime_drive ((periodCounts - s.clock.count) * countUnits s.clock.freq) ch).1
  unfold State.restOfPeriod
  dsimp only [periodCounts] at *
  split
  · rw [State.boundary_legs, State.boundary_legs, hlegs]
  · rw [State.boundary_legs, hlegs]

/-- The boundaries that are left pass as that many, at each count of the period. -/
theorem State.restOfPeriod_legs_iterate (hcount : s.clock.count < 200) (ch : Chan) :
    (s.restOfPeriod.chan ch).drive.legs = legsAtBoundary^[200 - s.clock.count] (s.chan ch).drive.legs := by
  rw [State.restOfPeriod_legs]
  split
  · rename_i hleft
    obtain ⟨n, hn⟩ := Nat.exists_eq_add_of_le' hleft
    rw [hn, iterate_legsAtBoundary]
  · rw [show 200 - s.clock.count = 1 by omega]
    rfl

/-- A leg stage that no boundary changes stands until the period starts. -/
theorem State.restOfPeriod_legs_of_fixed (h : legsAtBoundary (s.chan ch).drive.legs = (s.chan ch).drive.legs) :
    (s.restOfPeriod.chan ch).drive.legs = (s.chan ch).drive.legs := by
  rw [State.restOfPeriod_legs, h, h, ite_self]

theorem State.restOfPeriod_level (s : State) (ch : Chan) : (s.restOfPeriod.chan ch).drive.level = (s.chan ch).drive.level
    ∧ (s.restOfPeriod.chan ch).current.sample = (s.chan ch).current.sample := by
  have hchan := (State.ClocksOnly.restOfPeriod s).chan ch
  obtain ⟨-, hlevel, hsample⟩ := s.passTime_drive ((periodCounts - s.clock.count) * countUnits s.clock.freq) ch
  rw [hchan]
  exact ⟨hlevel, hsample⟩

theorem State.startPeriod_legs (s : State) (ch : Chan) :
    (s.startPeriod.chan ch).drive.legs = legsAtPeriod (s.chan ch).drive.level ((s.clock.k + 1) % 256) (s.chan ch).drive.legs := by
  rw [State.startPeriod, State.chan, PerChan.get_map]
  rfl

/-- The leg stage that the period after PWM_PERIOD starts with. -/
theorem State.pwmPeriod_legs (s : State) (ch : Chan) :
    (s.restOfPeriod.startPeriod.chan ch).drive.legs
      = legsAtPeriod (s.chan ch).drive.level ((s.clock.k + 1) % 256) (s.restOfPeriod.chan ch).drive.legs := by
  rw [State.startPeriod_legs, (s.restOfPeriod_level ch).1, State.restOfPeriod_k]

/-- Settles O5: the clock by the units of the counts left, the legs by the stage they stand in at the end of the period. -/
theorem pwmPeriodBegins : Obligations.PwmPeriodBegins := by
  unfold Obligations.PwmPeriodBegins
  intro s
  have fixed (ch : Chan) (h : legsAtBoundary (s.chan ch).drive.legs = (s.chan ch).drive.legs) :
      (s.restOfPeriod.startPeriod.chan ch).drive.legs
        = legsAtPeriod (s.chan ch).drive.level ((s.clock.k + 1) % 256) (s.chan ch).drive.legs := by
    rw [State.pwmPeriod_legs, State.restOfPeriod_legs_of_fixed h]
  have hclock := State.ClocksOnly.pwmPeriod s
  refine ⟨s.restOfPeriod.startPeriod, rfl, rfl, ?k, ?freq, rfl, fun ch => ?sampled, ?moment, fun ch n hl => ?driven,
    fun ch hl => ?started, fun ch hl => ?waiting, fun ch hl => ?off, fun hnow => ?frame⟩
  case k => exact congrArg (fun k => (k + 1) % 256) s.restOfPeriod_k
  case freq =>
    show s.restOfPeriod.settings.freq = _
    rw [(State.ClocksOnly.restOfPeriod s).rest]
    unfold State.passTime
    dsimp only
    split <;> rfl
  case sampled =>
    show ((s.restOfPeriod.startPeriod).chan ch).current.sample = _
    rw [(State.ClocksOnly.startPeriod s.restOfPeriod).chan ch]
    exact (s.restOfPeriod_level ch).2
  case moment =>
    have hunits : (periodCounts - s.clock.count) * countUnits s.clock.freq ≤ msUnits := by
      have hfreq : countUnits s.clock.freq ≤ 25 := by cases s.clock.freq <;> decide
      exact Nat.le_trans (Nat.mul_le_mul (Nat.sub_le ..) hfreq) (by decide)
    have hsub : s.restOfPeriod.startPeriod.clock.sub
        = (s.passTime ((periodCounts - s.clock.count) * countUnits s.clock.freq)).clock.sub := by
      show s.restOfPeriod.clock.sub = _
      unfold State.restOfPeriod
      dsimp only
      split <;> rfl
    rw [hsub, hclock.now]
    refine (State.passTime_moment s hunits).trans ?_
    cases s.clock.freq <;> rfl
  case driven => rw [fixed ch (by rw [hl]; rfl), hl]; rfl
  case started => rw [fixed ch (by rw [hl]; rfl), hl]; rfl
  case waiting => rw [fixed ch (by rw [hl]; rfl), hl]; rfl
  case off => rw [fixed ch (by rw [hl]; rfl), hl]; rfl
  case frame =>
    have still : s.clock.sub + (periodCounts - s.clock.count) * countUnits s.clock.freq < msUnits := by
      by_contra hms
      have := (TimePasses.one hms).1
      rw [hclock.now, this] at hnow
      omega
    obtain ⟨-, hrest, hchan⟩ := (TimePasses.zero still).after hclock
    exact ⟨hrest, hchan⟩

/-! ### The on-windows and the legs (R114 to R117) -/

/-- A count lies in the window that starts at `offset` exactly when it is one of its counts, wrapping (R114). -/
theorem inWindow_iff {offset on count : Nat} (ho : offset < 200) (hon : on ≤ 200) (hc : count < 200) :
    inWindow offset on count = true ↔ ∃ i, i < on ∧ count = (offset + i) % 200 := by
  simp only [inWindow, decide_eq_true_eq]
  constructor
  · exact fun h => ⟨(count + 200 - offset) % 200, h, by omega⟩
  · rintro ⟨i, hi, rfl⟩
    omega

theorem inPowerOnReset_iff : inPowerOnReset s = true ↔ ∃ rest, s.pending = .powerOnReset :: rest := by
  unfold inPowerOnReset
  cases s.pending with
  | nil => simp
  | cons c rest => simp

theorem legOutputs_of_running (h : ∀ rest, s.pending ≠ .powerOnReset :: rest) (ch : Chan) :
    legOutputs s ch = stageOutputs ch (s.chan ch) s.clock.count :=
  if_neg fun hr => by
    obtain ⟨rest, hrest⟩ := inPowerOnReset_iff.1 hr
    exact h rest hrest

theorem legsOnStart_of_ne {count : Nat} (h : count ≠ 199) : legsOnStart count = .startWait 1 := if_neg h

theorem State.brake_legs (s : State) (ch : Chan) (r : BrakingReason) (h : Option HaltCause) (b : Bool) :
    ((s.brake ch r h b).chan ch).drive.legs = legsOnRemoval (s.chan ch).profile.brakeMode (s.chan ch).drive.legs := by
  unfold State.brake
  dsimp only
  split
  · rw [State.chan_modChan_self]; rfl
  · rw [State.chan_releaseShare, State.chan_modChan_self]; rfl

/-- Settles O8: each stage of the legs, at its count boundaries and at the start of a period. -/
theorem legOutputsFollowTheDrive : Obligations.LegOutputsFollowTheDrive := by
  unfold Obligations.LegOutputsFollowTheDrive
  refine ⟨by decide, fun _ => rfl, fun _ _ _ => inWindow_iff, fun s ch => ⟨fun hr => if_pos (inPowerOnReset_iff.2 hr), fun hr => ?_⟩,
    fun ch c n hl => ?_, fun ch c hl => ?_, fun ch s r h b n hl => ?_, fun n => ⟨rfl, rfl⟩, rfl, rfl, rfl, fun c f n hl => ?_,
    fun c m hl => ?_, fun c count L k kind dir hcount => ?_, fun c L k kind dir => ⟨rfl, rfl⟩,
    fun s hs hdue hcount => ⟨s.passCount, by rw [step_of_empty hs, idle_of_count hdue hcount], s.passCount_legs⟩,
    fun s hcount => ⟨_, rfl, fun ch => ?_⟩⟩
  · rw [legOutputs_of_running hr]
    unfold stageOutputs
    refine ⟨fun n hn => ?_, fun hl => ?_, fun hl => ?_⟩
    · rcases hn with hl | ⟨b, hl⟩ <;> rw [hl] <;> exact ⟨fun hd => by rw [hd], fun hd => by rw [hd]⟩
    · rcases hl with hl | hl <;> rw [hl]
    · rcases hl with hl | hl | ⟨n, hl⟩ <;> rw [hl]
  · rw [sampleCount, hl]
  · rw [sampleCount, hl]
  · rw [State.brake_legs, hl]; rfl
  · show legsAtBoundary (legsOnOff c.drive.legs) = _
    rw [hl]; rfl
  · show legsOnOff c.drive.legs = _ ∧ legsAtBoundary (legsOnOff c.drive.legs) = _
    rw [hl]; exact ⟨rfl, rfl⟩
  · show legsAtPeriod L k (legsOnStart count) = _ ∧ legsAtPeriod L k (legsOnStart count) = _
    rw [legsOnStart_of_ne hcount]; exact ⟨rfl, rfl⟩
  · rw [State.pwmPeriod_legs, State.restOfPeriod_legs_iterate hcount]

end Sys2Proof.Machine
end

section
/-! SUPPORT. The timers and their expiries (0.5, log 2), the small expiries, the samples of the inputs and the FAULT pin. -/

namespace Sys2Proof.Machine

variable {s : State} {ch : Chan}

/-! ### An expiry that is not due (log 2) -/

theorem timerDue_iff {t : Option Nat} : timerDue t = true ↔ t = some 0 := by simp [timerDue]

theorem timerDue_eq_false {t : Option Nat} (h : t ≠ some 0) : ¬ timerDue t = true := fun hd => h (timerDue_iff.1 hd)

theorem State.finish_self (s : State) : s.finish s = s := if_pos rfl

/-- A command that does nothing but when its timer is due. -/
theorem next_finish_of_not {p : Prop} [Decidable p] {u : State} (h : ¬ p) :
    (.next (s.finish (if p then u else s)) : Host.Outcome State Fault Refusal) = .next s := by
  rw [if_neg h, State.finish_self]

theorem next_of_not {p : Prop} [Decidable p] {u : State} (h : ¬ p) :
    (.next (if p then u else s) : Host.Outcome State Fault Refusal) = .next s := by rw [if_neg h]

theorem State.expireClaim_of_not_due {cls : ClaimClass} (h : ∀ claim, (s.chan ch).slots.get cls = some claim → claim.expiry ≠ some 0) :
    s.expireClaim ch cls = s := by
  unfold State.expireClaim
  split
  · rfl
  · rename_i claim hclaim
    refine if_neg fun hd => ?_
    rw [Bool.and_eq_true] at hd
    exact h claim hclaim (timerDue_iff.1 hd.1)

theorem State.endDwell_of_not_due (h : ∀ a, (s.chan ch).airing = some a → a.dwell ≠ 0) : s.endDwell ch = s := by
  unfold State.endDwell
  split
  · rfl
  · rename_i a ha
    exact if_pos (h a ha)

theorem ageDue_eq_false {w : Weather} (h : ∀ a, w.age = some a → a < w.staleAt) : ¬ ageDue w = true := by
  simp only [ageDue, Option.any_eq_true, decide_eq_true_eq, not_exists, not_and, Nat.not_le]
  exact fun a ha => h a ha

/-! ### Timers (0.5) -/

theorem iterate_timerTick_some (n m : Nat) : timerTick^[m] (some n) = some (n - m) := by
  induction m with
  | zero => rfl
  | succ m ih => rw [Function.iterate_succ_apply', ih]; rfl

theorem iterate_timerTick_none (m : Nat) : timerTick^[m] none = none := by
  induction m with
  | zero => rfl
  | succ m ih => rw [Function.iterate_succ_apply', ih]; rfl

theorem State.tickMs_chan (s : State) (ch : Chan) : s.tickMs.chan ch = (s.chan ch).tick := PerChan.get_map ..

theorem State.tickMs_input (s : State) (n : InputNo) :
    s.tickMs.input n = { s.input n with timer := timerTick (s.input n).timer } := PerInput.get_map ..

/-- Settles O3: one ms by what it does to each block, the commands that let time pass by their units, and each expiry by its test. -/
theorem timersRunAndExpire : Obligations.TimersRunAndExpire := by
  unfold Obligations.TimersRunAndExpire
  refine ⟨fun n m _ => iterate_timerTick_some n m, iterate_timerTick_none,
    fun s => ⟨rfl, s.tickMs_input, fun ch => ?_⟩, fun s hs hdue hcount => ?_, fun s => ?_,
    fun c s t => exec_clock, fun s ch cls n => ?_⟩
  · rw [State.tickMs_chan]
    exact ⟨rfl, ClaimSlots.get_map _ _⟩
  · obtain ⟨n, hn, htime⟩ := TimePasses.passCount s
    exact ⟨_, n, by rw [step_of_empty hs, idle_of_count hdue hcount], hn, htime⟩
  · obtain ⟨n, hn, htime⟩ := TimePasses.pwmPeriod s
    exact ⟨_, n, rfl, hn, htime⟩
  · refine ⟨fun h => ?claim, fun h => next_finish_of_not (timerDue_eq_false h), fun h => next_finish_of_not (timerDue_eq_false h),
      fun h => next_finish_of_not (timerDue_eq_false h), fun h => next_finish_of_not (ageDue_eq_false h), fun h => ?dwell,
      fun h => next_finish_of_not (timerDue_eq_false h), fun h => next_finish_of_not (timerDue_eq_false h),
      fun h => next_of_not (timerDue_eq_false h), fun h => next_finish_of_not (timerDue_eq_false h),
      fun h => next_finish_of_not (timerDue_eq_false h), fun h => next_finish_of_not (timerDue_eq_false h),
      fun h => next_finish_of_not (timerDue_eq_false h), fun h => next_of_not (timerDue_eq_false h),
      fun h => next_of_not (timerDue_eq_false h), fun h => next_of_not (timerDue_eq_false h),
      fun h => next_finish_of_not (timerDue_eq_false h), fun h => next_finish_of_not h⟩
    case claim =>
      show Host.Outcome.next (s.finish (s.expireClaim ch cls)) = _
      rw [State.expireClaim_of_not_due h, State.finish_self]
    case dwell =>
      show Host.Outcome.next (s.finish (s.endDwell ch)) = _
      rw [State.endDwell_of_not_due h, State.finish_self]

/-! ### Leaving a driven state (R47, R56, R60) -/

/-- What `State.brake` makes of a channel, with no halt cause. -/
theorem State.haltsMove_brake (s : State) (ch : Chan) (reason : BrakingReason) (afterBackoff : Bool) :
    HaltsMove ch (s.chan ch) s (s.brake ch reason none afterBackoff) reason afterBackoff := by
  have record : (s.brake ch reason none afterBackoff).chan ch = (s.chan ch).enterBraking reason none afterBackoff := by
    unfold State.brake
    dsimp only
    split
    · rw [State.chan_modChan_self]
    · rw [State.chan_releaseShare, State.chan_modChan_self]
  have admission : (s.brake ch reason none afterBackoff).admission.queue = s.admission.queue
      ∧ (s.brake ch reason none afterBackoff).reports = s.reports
      ∧ (s.brake ch reason none afterBackoff).admission.holders
        = if reason = .obstruct then s.admission.holders else dropChan ch s.admission.holders := by
    unfold State.brake
    dsimp only
    split <;> exact ⟨rfl, rfl, rfl⟩
  unfold HaltsMove
  rw [record]
  refine ⟨?_, driveIsOff_driveOff _ _, rfl, rfl, admission⟩
  rw [Nat.mul_comm 10]
  rfl

/-! ### The small expiries -/

theorem durationReached_iff {c : Channel} : durationReached c = true ↔ c.motion.state = .moving ∧ c.motion.moveKind = some .timed
    ∧ ∃ e, c.motion.moveTimer = some e ∧ c.motion.duration ≤ e := by
  simp [durationReached, Option.any_eq_true, and_assoc]

theorem State.dwellExpired_of_due (hstate : (s.chan ch).motion.state = .dwell) (htimer : (s.chan ch).motion.dwellTimer = some 0) :
    s.dwellExpired ch
      = (s.modChan ch (fun c => { c with motion := { c.motion with dwellTimer := none } })).settleAtRest ch := by
  unfold State.dwellExpired
  rw [if_pos (timerDue_iff.2 htimer)]
  exact if_pos (by rw [State.chan_modChan_self]; exact hstate)

theorem periodOver_iff {p : Nat} {c : Channel} (h : c.travel.lastPulse = some p) :
    periodOver s c = true ↔ p + 65535 ≤ s.clock.now * 10 + s.clock.sub / 8000 := by
  unfold periodOver
  rw [h]
  exact decide_eq_true_iff

/-- Settles O37: each expiry by its test, and the two that act on the motion by what a brake and a test of the target do. -/
theorem smallTimersExpire : Obligations.SmallTimersExpire := by
  unfold Obligations.SmallTimersExpire
  rintro s ch c rfl
  refine ⟨fun hstate htimer => ?dwell, fun e hstate hkind htimer => ⟨fun hreached => ?arrives, fun hshort => ?goesOn⟩,
    fun h => ?rest, fun h => ?blanking, fun p hp => ⟨fun hlong => ?outrun, fun hshort => ?running⟩⟩
  case dwell =>
    have hdue := State.dwellExpired_of_due hstate htimer
    obtain ⟨hchan, hadmission, hreports⟩ := State.settleAtRest_keeps
      (s.modChan ch (fun c => { c with motion := { c.motion with dwellTimer := none } })) ch
    have htests := State.settleAtRest_tests
      (s.modChan ch (fun c => { c with motion := { c.motion with dwellTimer := none } })) ch
    rw [← hdue] at hchan hadmission hreports htests
    rw [State.chan_modChan_self] at hchan
    exact ⟨s.dwellExpired ch, rfl, .dwellExpired ch s, hreports, hchan, htests, hadmission⟩
  case arrives =>
    have hdue : s.timedArrives ch = s.brake ch .arrive none false :=
      if_pos (durationReached_iff.2 ⟨hstate, hkind, e, htimer, hreached⟩)
    exact ⟨s.timedArrives ch, rfl, .timedArrives ch s, by rw [hdue]; exact s.haltsMove_brake ch .arrive false⟩
  case goesOn =>
    refine next_finish_of_not fun hdue => ?_
    obtain ⟨-, -, x, hx, hreached⟩ := durationReached_iff.1 hdue
    rw [htimer] at hx
    cases hx
    omega
  case rest => exact congrArg Host.Outcome.next (if_pos (timerDue_iff.2 h))
  case blanking => exact congrArg Host.Outcome.next (if_pos (timerDue_iff.2 h))
  case outrun => exact congrArg Host.Outcome.next (if_pos ((periodOver_iff hp).2 hlong))
  case running => exact next_of_not fun hlong => by have := (periodOver_iff hp).1 hlong; omega

/-! ### The inputs' samples (R133) -/

theorem InputEntry.sampleActive_eq_iff (e : InputEntry) (high : Bool) :
    e.sampleActive high = e.active ↔ (high = e.activeHigh ↔ e.active = true) := by
  unfold InputEntry.sampleActive
  cases high <;> cases e.activeHigh <;> cases e.active <;> decide

/-- What one sample makes of an entry, by the comparison with its debounced state. -/
theorem InputEntry.sample_eq (e : InputEntry) (high : Bool) :
    e.sample high = { e with
      pinHigh := high
      timer := (if e.function = .unused then e.timer else if e.sampleActive high = e.active then none
        else some (e.timer.getD (10 * e.debounce))) } := by
  have reads : ({ e with pinHigh := high } : InputEntry).sampleActive high = e.sampleActive high := rfl
  unfold InputEntry.sample
  dsimp only
  rw [reads]
  split
  · rfl
  · split
    · rfl
    · split <;> rename_i htimer <;> simp [htimer]

/-- The sample of one entry (R133). -/
theorem InputEntry.sample_spec (e : InputEntry) (high : Bool) :
    (e.sample high).pinHigh = high
      ∧ e.sample high = { e with timer := (e.sample high).timer, pinHigh := (e.sample high).pinHigh }
      ∧ (e.function = .unused → (e.sample high).timer = e.timer)
      ∧ (e.function ≠ .unused → ((high = e.activeHigh) ↔ e.active = true) → (e.sample high).timer = none)
      ∧ (e.function ≠ .unused → ¬ ((high = e.activeHigh) ↔ e.active = true) →
          (e.sample high).timer = some (e.timer.getD (10 * e.debounce))) := by
  rw [InputEntry.sample_eq]
  refine ⟨rfl, rfl, fun hunused => if_pos hunused, fun hused heq => ?_, fun hused hne => ?_⟩
  · dsimp only
    rw [if_neg hused, if_pos ((InputEntry.sampleActive_eq_iff _ _).2 heq)]
  · dsimp only
    rw [if_neg hused, if_neg fun h => hne ((InputEntry.sampleActive_eq_iff _ _).1 h)]

/-- Settles O45: the sample of one entry, at each of the four. -/
theorem inputsAreSampled : Obligations.InputsAreSampled := by
  unfold Obligations.InputsAreSampled
  intro s h1 h2 h3 h4
  refine ⟨_, rfl, rfl, fun n => ?_⟩
  cases n with
  | in1 => exact s.inputs.in1.sample_spec h1
  | in2 => exact s.inputs.in2.sample_spec h2
  | in3 => exact s.inputs.in3.sample_spec h3
  | in4 => exact s.inputs.in4.sample_spec h4

/-! ### The FAULT pin (R141, R142) -/

theorem faultCondition_iff (s : State) : faultCondition s = true ↔
    (s.settings.faultChannel = true ∧ ∃ ch, (s.chan ch).motion.state = .faulted)
      ∨ (s.settings.faultSupply = true ∧ (s.supply.state = .cut ∨ s.supply.state = .overVolt))
      ∨ (s.settings.faultThermal = true ∧ s.thermal.state = .shut) ∨ (s.settings.faultLine = true ∧ s.line.lost = true) := by
  have channel : channelSource s = true ↔ ∃ ch, (s.chan ch).motion.state = .faulted := by simp [channelSource, mem_allChans]
  simp [faultCondition, channel, supplySource, thermalSource, lineSource, or_assoc]

/-- Outside power-on reset the pin is released exactly while the condition agrees with the active level HIGH. -/
theorem faultPin_of_running (h : inPowerOnReset s = false) :
    faultPin s = if faultCondition s = s.settings.faultHigh then .released else .pulledLow := by
  unfold faultPin
  rw [h]
  simp

/-- Settles O47: the condition by its four sources, and the pin by both polarities. -/
theorem faultPinFollowsItsSources : Obligations.FaultPinFollowsItsSources := by
  unfold Obligations.FaultPinFollowsItsSources
  intro s
  dsimp only
  rw [← faultCondition_iff]
  refine ⟨fun hr => ?_, fun hr => ?_⟩
  · unfold faultPin
    rw [inPowerOnReset_iff.2 hr]
    rfl
  · have hrunning : inPowerOnReset s = false := Bool.eq_false_iff.2 fun h => by
      obtain ⟨rest, hrest⟩ := inPowerOnReset_iff.1 h
      exact hr rest hrest
    rw [faultPin_of_running hrunning]
    cases faultCondition s <;> cases s.settings.faultHigh <;> decide

end Sys2Proof.Machine
end

section
/-! SUPPORT. The DEMAND and RELEASE frames (R8, R9, R15, R147): the fields of the claim, the counts that go on, and what is stored or
removed; the addressed frames that pass the station (R150). -/

namespace Sys2Proof.Machine

variable {s : State}

/-! ### The fields of a claim (Tables 1.3 and 9.6) -/

theorem holdMs_zero (t : Settings) : holdMs t 0 = t.defaultHold * 1000 := Nat.mul_comm ..

theorem holdMs_of_le {hold : Nat} (h : 1 ≤ hold) (hle : hold ≤ 3600) (t : Settings) : holdMs t hold = hold * 1000 := by
  rw [holdMs, if_neg (by omega), Nat.min_eq_left hle, Nat.mul_comm]

theorem holdMs_of_gt {hold : Nat} (h : 3600 < hold) (t : Settings) : holdMs t hold = 3600000 := by
  rw [holdMs, if_neg (by omega), Nat.min_eq_right (Nat.le_of_lt h)]

theorem lineExpiry_service {hold : Nat} (h : hold ≠ 0) (t : Settings) : lineExpiry t .service hold = some (holdMs t hold) := if_neg h

theorem wordAt_eq (p : List Byte) (i : Nat) : wordAt p i = (byteAt p i).toNat * 256 + (byteAt p (i + 1)).toNat := rfl

theorem frameClass_eq_some (p : List Byte) (cls : ClaimClass) : frameClass p = some cls ↔ (byteAt p 0).toNat = classRank cls := by
  unfold frameClass
  generalize (byteAt p 0).toNat = n
  constructor
  · intro h
    unfold classOfCode at h
    split at h <;> cases h <;> rfl
  · rintro rfl
    cases cls <;> rfl

/-! ### The counts of a frame that goes on (R147) -/

theorem byteAt_set (p : List Byte) (i j : Nat) (b : Byte) (hi : i < p.length) :
    byteAt (p.set i b) j = if i = j then b else byteAt p j := by
  unfold byteAt
  rw [List.getD_eq_getElem?_getD, List.getD_eq_getElem?_getD, List.getElem?_set]
  by_cases hij : i = j
  · subst hij
    rw [if_pos rfl, if_pos rfl, if_pos hi]
    rfl
  · rw [if_neg hij, if_neg hij]

theorem length_raiseCounts (p : List Byte) (at0 accepted withheld : Nat) : (raiseCounts p at0 accepted withheld).length = p.length := by
  simp [raiseCounts]

theorem toNat_raiseCount (b : Byte) (n : Nat) : (raiseCount b n).toNat = min 255 (b.toNat + n) := by
  rw [raiseCount, byteOf_toNat_of_lt (by omega)]

theorem byteAt_raiseCounts {p : List Byte} {at0 : Nat} (h : at0 + 3 ≤ p.length) (accepted withheld i : Nat) :
    (byteAt (raiseCounts p at0 accepted withheld) i).toNat =
      if i = at0 then min 255 ((byteAt p i).toNat + accepted)
      else if i = at0 + 1 then min 255 ((byteAt p i).toNat + withheld)
      else if i = at0 + 2 then min 255 ((byteAt p i).toNat + 1)
      else (byteAt p i).toNat := by
  unfold raiseCounts
  rw [byteAt_set _ _ _ _ (by simp only [List.length_set]; omega), byteAt_set _ _ _ _ (by simp only [List.length_set]; omega),
    byteAt_set _ _ _ _ (by omega)]
  by_cases h0 : i = at0
  · subst h0
    rw [if_neg (by omega), if_neg (by omega), if_pos rfl, if_pos rfl, toNat_raiseCount]
  · rw [if_neg h0]
    by_cases h1 : i = at0 + 1
    · subst h1
      rw [if_neg (by omega), if_pos rfl, if_pos rfl, toNat_raiseCount]
    · rw [if_neg h1]
      by_cases h2 : i = at0 + 2
      · subst h2
        rw [if_pos rfl, if_pos rfl, toNat_raiseCount]
      · rw [if_neg h2, if_neg (Ne.symm h2), if_neg (Ne.symm h1), if_neg (Ne.symm h0)]

/-! ### The airing part (R124, R125) -/

theorem byteAt_append_right {head l : List Byte} (n : Nat) : byteAt (head ++ l) (head.length + n) = byteAt l n := by
  unfold byteAt
  rw [List.getD_eq_getElem?_getD, List.getD_eq_getElem?_getD, List.getElem?_append_right (Nat.le_add_right ..),
    Nat.add_sub_cancel_left]

theorem byteAt_append_left {head l : List Byte} {n : Nat} (h : n < head.length) : byteAt (head ++ l) n = byteAt head n := by
  unfold byteAt
  rw [List.getD_append _ _ _ _ h]

theorem airingOf_append {head : List Byte} (o1 o2 c1 c2 n ph : Byte) (h : head.length = 10) :
    airingOf (head ++ [o1, o2, c1, c2, n, ph]) =
      { openLevel := min (frameDemand head) 1000
        openDwell := max 10 (min (o1.toNat * 256 + o2.toNat) 7200)
        closedDwell := max 10 (min (c1.toNat * 256 + c2.toNat) 7200)
        remaining := if n.toNat = 0 then none else some n.toNat
        atCreation := if n.toNat = 0 then none else some n.toNat
        phase := if ph.toNat = 1 then .closedPhase else .openPhase
        dwell := 1000 * (match (if ph.toNat = 1 then AiringPhase.closedPhase else AiringPhase.openPhase) with
          | .openPhase => max 10 (min (o1.toNat * 256 + o2.toNat) 7200)
          | .closedPhase => max 10 (min (c1.toNat * 256 + c2.toNat) 7200)) } := by
  have tail (i : Nat) : byteAt (head ++ [o1, o2, c1, c2, n, ph]) (10 + i) = byteAt [o1, o2, c1, c2, n, ph] i := by
    rw [← h, byteAt_append_right]
  have hdemand : frameDemand (head ++ [o1, o2, c1, c2, n, ph]) = frameDemand head := by
    simp only [frameDemand, wordAt_eq]
    rw [byteAt_append_left (by omega), byteAt_append_left (by omega)]
  unfold airingOf
  simp only [wordAt_eq, hdemand, clampDwell, clampLevel]
  rw [tail 0, tail 1, tail 2, tail 3, tail 4, tail 5]
  rfl

/-- Settles O11: each field from its place, each bound by its clamp. -/
theorem frameFieldsOfAClaim : Obligations.FrameFieldsOfAClaim := by
  unfold Obligations.FrameFieldsOfAClaim
  refine ⟨fun t hold => ⟨rfl, rfl, rfl, rfl, fun h hle => ?_, fun h => ?_, fun cls hcls => ?_⟩,
    fun p => ⟨rfl, rfl, rfl, fun cls => ?_⟩, fun a cls => ?_,
    fun p at0 accepted withheld i h => ⟨length_raiseCounts .., byteAt_raiseCounts h accepted withheld i⟩,
    fun number station tag p => ⟨rfl, rfl, rfl⟩, fun head o1 o2 c1 c2 n ph h => ?_⟩
  · rw [lineExpiry_service (by omega), holdMs_of_le h hle]
  · rw [lineExpiry_service (by omega), holdMs_of_gt h]
  · have hline (hold : Nat) : lineExpiry t cls hold = some (holdMs t hold) := by rcases hcls with rfl | rfl <;> rfl
    simp only [hline]
    exact ⟨congrArg some (holdMs_zero t), fun h hle => congrArg some (holdMs_of_le h hle t), fun h => congrArg some (holdMs_of_gt h t)⟩
  · rw [frameClass_eq_some]
    cases cls <;> rfl
  · cases cls <;> rfl
  · have hzero : n.toNat = 0 ↔ n = 0 := ⟨fun hn => BitVec.eq_of_toNat_eq hn, fun hn => by rw [hn]; rfl⟩
    have hone : ph.toNat = 1 ↔ ph = 1 := ⟨fun hp => BitVec.eq_of_toNat_eq hp, fun hp => by rw [hp]; rfl⟩
    dsimp only
    rw [airingOf_append o1 o2 c1 c2 n ph h]
    refine ⟨rfl, rfl, rfl, rfl, ?_, fun hn => if_neg fun h => hn (hzero.1 h), ?_, fun hp => ?_, fun hp => ?_⟩
    · by_cases hn : n = 0 <;> simp [hzero, hn]
    · by_cases hp : ph = 1 <;> simp [hone, hp]
    · simp [hp, AiringRecord.level, Nat.mul_comm]
    · simp only [if_neg (mt hone.1 hp), AiringRecord.level, Nat.mul_comm, and_self]

end Sys2Proof.Machine
end

section
/-! SUPPORT. What a heard DEMAND stores, a heard RELEASE removes (R9, R15), and the frames that pass on as they came (R146, R150). -/

namespace Sys2Proof.Machine

variable {s w : State}

/-! ### A change of claims under the line interface of the heard frame -/

/-- A change of claims with the line interface set before it and after it. -/
theorem OnlyClaims.reline {l L : Line} (h : OnlyClaims { s with line := l } w) : OnlyClaims s { w with line := L } := by
  obtain ⟨hw, hbudget, hstagger, hsensed, hkept⟩ := h
  exact ⟨congrArg (fun x : State => { x with line := L }) hw, hbudget, hstagger, hsensed, hkept⟩

theorem TakeTargets.reline {P : Chan → Prop} {l L : Line} (h : TakeTargets { s with line := l } w P) :
    TakeTargets s { w with line := L } P := (h.of_line rfl).aside L w.reports

/-! ### Which channels store a claim (R9) -/

theorem mem_memberList {m : PerChan Bool} {ch : Chan} : ch ∈ memberList m ↔ m.get ch = true := by
  simp [memberList, mem_allChans]

/-- The members that do not store, or do not count, are the rest of them. -/
theorem length_filter_sub {α : Type} (l : List α) (p q : α → Bool) (hq : ∀ a, q a = true → p a = true) :
    (l.filter p).length - (l.filter q).length = (l.filter (fun a => p a && !q a)).length := by
  have split : (l.filter p).length = (l.filter q).length + (l.filter (fun a => p a && !q a)).length := by
    induction l with
    | nil => rfl
    | cons a l ih =>
      have ha := hq a
      simp only [List.filter_cons]
      cases hp : p a <;> cases hqa : q a <;> simp_all <;> omega
  omega

/-- The claim that a DEMAND places on channel `c` (R4 to R6). -/
def demandClaim (t : Settings) (tag : Word16) (p : List Byte) (cls : ClaimClass) (c : Channel) : Claim :=
  { origin := .line, group := some (frameGroup p), tag := tag.toNat, expiry := lineExpiry t cls (frameHold p)
    demand := (if cls = .airing then Asked.level (airingOf p).level else askedOf (frameDemand p)).demandFor c }

/-- A DEMAND that is placed: its claim is stored on the members that are not DISABLED (R9). -/
theorem State.placeDemand_of_admitted {tag : Word16} {p : List Byte} {cls : ClaimClass} {e : GroupEntry} (hclass : frameClass p = some cls)
    (he : lookupGroup s.groups (frameGroup p) = some e) (ha : e.admitted.admits cls = true) :
    s.placeDemand tag p
      = s.placeOn (memberList e.members) (Channel.storeClaim cls (demandClaim s.settings tag p cls) (airingOf p)) := by
  obtain ⟨-, hnumber, -⟩ := lookupGroup_some he
  unfold State.placeDemand
  simp only [hclass, he, ha, if_true]
  refine congrArg _ (funext fun c => ?_)
  rw [Channel.storeClaim, demandClaim, hnumber]

/-- The demand of the claim, by the frame's fields (R5, R125). -/
theorem demandClaim_demand (t : Settings) (tag : Word16) (p : List Byte) (cls : ClaimClass) (c : Channel) :
    (demandClaim t tag p cls c).demand =
      if cls = .airing then .level (airingOf p).level
      else if frameDemand p = 65535 then
        .stay (if c.motion.referenced then some (max 0 (min c.travel.position (c.profile.travel : Int))).toNat else none)
      else .level (min (frameDemand p) 1000) := by
  unfold demandClaim
  split
  · rfl
  · unfold askedOf
    split
    · have clamp : clampPosition c.travel.position c.profile.travel
          = (max 0 (min c.travel.position (c.profile.travel : Int))).toNat := by
        unfold clampPosition
        omega
      rw [← clamp]
      rfl
    · rfl

/-- The length that a DEMAND must carry, by its class (R147). -/
theorem demandLengthFits_iff (p : List Byte) :
    demandLengthFits p = true ↔ p.length = if (byteAt p 0).toNat = 6 then 16 else 10 := by
  unfold demandLengthFits
  split <;> exact beq_iff_eq

theorem demandLengthFits_of_class {p : List Byte} {cls : ClaimClass} (hclass : frameClass p = some cls)
    (hlen : p.length = if cls = .airing then 16 else 10) : demandLengthFits p = true := by
  rw [demandLengthFits_iff, hlen, (frameClass_eq_some p cls).1 hclass]
  cases cls <;> rfl

/-- The act of a DEMAND whose length fits. -/
theorem actDemand_of_fits {f : Frame} (h : demandLengthFits f.payload = true) (s : State) :
    actDemand f s = ((s.placeDemand f.tag f.payload).state, .forward
      { f with payload := (raiseCounts f.payload 7
          (s.placeDemand f.tag f.payload).accepted (s.placeDemand f.tag f.payload).withheld) } true) := if_pos h

theorem actDemand_of_not_fits {f : Frame} (h : ¬ demandLengthFits f.payload = true) (s : State) :
    actDemand f s = (s, .forward f false) := if_neg h

/-- Settles O12: the placement by what a change of claims does on the channels that store it. -/
theorem demandIsPlaced : Obligations.DemandIsPlaced := by
  unfold Obligations.DemandIsPlaced
  intro s station tag p cls e hears hlen hclass he ha
  let v : State := { s with line := heard s }
  let put := Channel.storeClaim cls (demandClaim s.settings tag p cls) (airingOf p)
  let l := (memberList e.members).filter (fun c => (s.chan c).motion.state != .disabled)
  have hl : l.Nodup := (nodup_allChans.filter _).filter _
  have hmem (ch : Chan) : ch ∈ l ↔ e.members.get ch = true ∧ (s.chan ch).motion.state ≠ .disabled := by
    simp [l, mem_memberList]
  obtain ⟨honly, hreports, hline, htargets, hstored, hothers⟩ := State.claims_spec put (fun _ => rfl) l hl v
  have hplaced : v.placeDemand tag p = v.placeOn (memberList e.members) put := State.placeDemand_of_admitted hclass he ha
  have haccepted : (v.placeDemand tag p).accepted = (allChans.filter (fun c => e.members.get c && (s.chan c).motion.state != .disabled
      && (s.chan c).motion.state != .faulted)).length := by
    rw [hplaced]
    show (((memberList e.members).filter _).filter _).length = _
    rw [memberList, List.filter_filter, List.filter_filter]
    refine congrArg List.length (List.filter_congr fun c _ => ?_)
    show (((s.chan c).motion.state != .faulted && (s.chan c).motion.state != .disabled) && e.members.get c) = _
    rw [Bool.and_comm, Bool.and_comm ((s.chan c).motion.state != .faulted), Bool.and_assoc]
  have hwithheld : (v.placeDemand tag p).withheld = (allChans.filter (fun c => e.members.get c && ((s.chan c).motion.state == .disabled
      || (s.chan c).motion.state == .faulted))).length := by
    have hsub : (v.placeDemand tag p).withheld = (memberList e.members).length - (v.placeDemand tag p).accepted := by rw [hplaced]; rfl
    rw [hsub, haccepted, memberList, length_filter_sub allChans _ _ (fun c hc => ?_)]
    · refine congrArg List.length (List.filter_congr fun c _ => ?_)
      cases e.members.get c <;> cases (s.chan c).motion.state <;> rfl
    · simp only [Bool.and_eq_true] at hc
      exact hc.1.1
  refine ⟨{ (v.placeDemand tag p).state with line := passesOn (heard s) ⟨0x01, station, tag, raiseCounts p 7
    (v.placeDemand tag p).accepted (v.placeDemand tag p).withheld⟩ true }, ?_, ?_⟩
  · show Host.Outcome.next (s.accept p (actDemand ⟨0x01, station, tag, p⟩)) = _
    rw [State.accept_of_hears hears, actDemand_of_fits (demandLengthFits_of_class hclass hlen), State.dispose_forward]
    have : (v.placeDemand tag p).state.line = heard s := by rw [hplaced]; exact hline
    rw [show ({ s with line := heard s } : State) = v from rfl, this]
  · rw [haccepted, hwithheld, hplaced]
    refine ⟨honly.reline, hreports, ?_, rfl, fun ch hmember hstate => ?_, fun ch hch => ?_⟩
    · obtain ⟨chs, hnodup, hiff, hu⟩ := htargets.reline (L := passesOn (heard s) ⟨0x01, station, tag, raiseCounts p 7
        (allChans.filter (fun c => e.members.get c && (s.chan c).motion.state != .disabled
          && (s.chan c).motion.state != .faulted)).length
        (allChans.filter (fun c => e.members.get c && ((s.chan c).motion.state == .disabled
          || (s.chan c).motion.state == .faulted))).length⟩ true)
      exact ⟨chs, hnodup, fun ch => (hiff ch).trans (hmem ch), hu⟩
    · obtain ⟨hevaluated, hslots, hairing⟩ := hstored ch ((hmem ch).2 ⟨hmember, hstate⟩)
      refine ⟨hevaluated, hairing, hslots.trans ?_⟩
      show (s.chan ch).slots.set cls (some (demandClaim s.settings tag p cls (s.chan ch))) = _
      rw [← demandClaim_demand s.settings tag p cls (s.chan ch)]
      rfl
    · refine hothers ch fun hin => ?_
      obtain ⟨hmember, hstate⟩ := (hmem ch).1 hin
      rcases hch with hch | hch
      · rw [hmember] at hch; cases hch
      · exact hstate hch

/-! ### A DEMAND that places nothing (R8, R147) -/

theorem classOfCode_eq_none {n : Nat} (h : n = 0 ∨ 6 < n) : classOfCode n = none := by
  unfold classOfCode
  split
  · omega
  · omega
  · omega
  · omega
  · omega
  · omega
  · rfl

theorem State.placeDemand_of_no_class {tag : Word16} {p : List Byte} (h : frameClass p = none) :
    s.placeDemand tag p = { state := s, stored := 0, accepted := 0, withheld := 0 } := by
  unfold State.placeDemand
  rw [h]

theorem State.placeDemand_of_no_group {tag : Word16} {p : List Byte} (h : lookupGroup s.groups (frameGroup p) = none) :
    s.placeDemand tag p = { state := s, stored := 0, accepted := 0, withheld := 0 } := by
  unfold State.placeDemand
  rw [h]
  split <;> rfl

theorem State.placeDemand_of_withheld {tag : Word16} {p : List Byte} {cls : ClaimClass} {e : GroupEntry} (hclass : frameClass p = some cls)
    (he : lookupGroup s.groups (frameGroup p) = some e) (ha : e.admitted.admits cls = false) :
    s.placeDemand tag p = { state := s, stored := 0, accepted := 0, withheld := (memberList e.members).length } := by
  unfold State.placeDemand
  simp only [hclass, he, ha, Bool.false_eq_true, if_false]

/-- Settles O13: the three ways of a DEMAND that leaves the claims as they were. -/
theorem demandIsNotPlaced : Obligations.DemandIsNotPlaced := by
  unfold Obligations.DemandIsNotPlaced
  intro s station tag p hears
  have passes {accepted withheld : Nat} (hfits : demandLengthFits p = true)
      (hplaced : State.placeDemand { s with line := heard s } tag p
        = { state := { s with line := heard s }, stored := 0, accepted, withheld }) :
      exec (.demand station tag p) s =
        .next { s with line := passesOn (heard s) ⟨0x01, station, tag, raiseCounts p 7 accepted withheld⟩ true } := by
    refine congrArg Host.Outcome.next (State.accept_of_forward hears ?_)
    rw [actDemand_of_fits hfits, hplaced]
  refine ⟨fun hlen => ?_, fun hlen h => passes ((demandLengthFits_iff p).2 hlen) ?_, fun cls e hlen hclass he ha => ?_⟩
  · exact congrArg Host.Outcome.next
      (State.accept_of_forward hears (actDemand_of_not_fits (fun h => hlen ((demandLengthFits_iff p).1 h)) _))
  · rcases h with h | h | h
    · exact State.placeDemand_of_no_class (classOfCode_eq_none (.inl h))
    · exact State.placeDemand_of_no_class (classOfCode_eq_none (.inr h))
    · exact State.placeDemand_of_no_group h
  · exact passes (demandLengthFits_of_class hclass hlen) (State.placeDemand_of_withheld hclass he ha)

/-! ### A RELEASE (R15) -/

theorem State.releaseClaims_of_class {p : List Byte} {cls : ClaimClass} (hclass : frameClass p = some cls) (hcls : cls ≠ .fallback) :
    s.releaseClaims p = s.removeWhere cls (fun c => frameGroup p == 0 || c.group == some (frameGroup p)) := by
  unfold State.releaseClaims
  rw [hclass]
  cases cls with
  | fallback => exact absurd rfl hcls
  | smoke | service | manual | comfort | airing => rfl

theorem State.releaseClaims_of_fallback {p : List Byte} (hclass : frameClass p = some .fallback) : s.releaseClaims p = (s, 0) := by
  unfold State.releaseClaims
  rw [hclass]

theorem State.releaseClaims_of_no_class {p : List Byte} (hclass : frameClass p = none) : s.releaseClaims p = (s, 0) := by
  unfold State.releaseClaims
  rw [hclass]

theorem actRelease_of_length {f : Frame} (h : f.payload.length = 6) (s : State) : actRelease f s = ((s.releaseClaims f.payload).1,
    .forward { f with payload := raiseCounts f.payload 3 (s.releaseClaims f.payload).2 0 } true) := if_pos h

/-- No channel takes a target, and nothing changes but the line interface. -/
theorem TakeTargets.none {P : Chan → Prop} (hP : ∀ ch, ¬ P ch) (L : Line) : TakeTargets s { s with line := L } P := by
  refine ⟨[], .nil, fun ch => iff_of_false (List.not_mem_nil) (hP ch), ?_⟩
  have : withClaimsOf s { s with line := L } = s := by
    obtain ⟨pending, ⟨c0, c1, c2, c3, c4, c5⟩⟩ := s
    rfl
  rw [this]
  rfl

/-- Settles O14: the removal by class and recorded group, for each class but FALLBACK, which no RELEASE reaches. -/
theorem releaseRemovesByGroup : Obligations.ReleaseRemovesByGroup := by
  unfold Obligations.ReleaseRemovesByGroup
  intro s station tag p hears
  let v : State := { s with line := heard s }
  refine ⟨fun cls hlen hclass => ?_, fun hlen hclass => ?_, fun hlen => ?_⟩
  · by_cases hcls : cls = .fallback
    · subst hcls
      have hact : actRelease ⟨0x02, station, tag, p⟩ v = (v, .forward ⟨0x02, station, tag, raiseCounts p 3 0 0⟩ true) := by
        rw [actRelease_of_length hlen, State.releaseClaims_of_fallback hclass]
      refine ⟨{ s with line := passesOn (heard s) ⟨0x02, station, tag, raiseCounts p 3 0 0⟩ true }, 0, ?_,
        ⟨rfl, rfl, rfl, fun _ => ⟨rfl, rfl, rfl, rfl⟩, fun _ => ⟨rfl, rfl, rfl, rfl, rfl⟩⟩, rfl, .none (fun _ h => h.1 rfl) _, rfl,
        ⟨[], .nil, fun ch => iff_of_false List.not_mem_nil fun h => h.1 rfl, rfl⟩, fun _ h => absurd rfl h.1, fun _ _ => rfl⟩
      exact congrArg Host.Outcome.next ((State.accept_of_forward hears hact).trans (State.finish_eq_self rfl).symm)
    · let hit (c : Claim) : Bool := frameGroup p == 0 || c.group == some (frameGroup p)
      obtain ⟨honly, hreports, hline, htargets, hstored, hothers, hcount⟩ := State.removeWhere_spec v cls hit
      have hleaves (ch : Chan) : (∃ c, (s.chan ch).slots.get cls = some c ∧ hit c = true) ↔
          cls ≠ .fallback ∧ ∃ c, (s.chan ch).slots.get cls = some c ∧ (frameGroup p = 0 ∨ c.group = some (frameGroup p)) := by
        simp [hit, hcls]
      have hrelease : v.releaseClaims p = v.removeWhere cls hit := State.releaseClaims_of_class hclass hcls
      refine ⟨{ (v.removeWhere cls hit).1 with
          line := passesOn (heard s) ⟨0x02, station, tag, raiseCounts p 3 (v.removeWhere cls hit).2 0⟩ true },
        (v.removeWhere cls hit).2, ?_, honly.reline, hreports, ?_, rfl, ?_,
        fun ch hch => ?_, fun ch hch => hothers ch fun h => hch ((hleaves ch).1 h)⟩
      · show Host.Outcome.next (s.accept p (actRelease ⟨0x02, station, tag, p⟩)) = _
        rw [State.accept_of_hears hears, actRelease_of_length hlen, State.dispose_forward,
          show ({ s with line := heard s } : State) = v from rfl, hrelease, hline]
      · obtain ⟨chs, hnodup, hiff, hu⟩ := htargets.reline (L := passesOn (heard s)
          ⟨0x02, station, tag, raiseCounts p 3 (v.removeWhere cls hit).2 0⟩ true)
        exact ⟨chs, hnodup, fun ch => (hiff ch).trans (hleaves ch), hu⟩
      · refine ⟨allChans.filter (fun c => ((s.chan c).slots.get cls).any hit), nodup_allChans.filter _, fun ch => ?_, hcount.symm⟩
        refine Iff.trans ?_ (hleaves ch)
        simp [mem_allChans, Option.any_eq_true]
      · obtain ⟨hevaluated, hslots, hairing⟩ := hstored ch ((hleaves ch).2 hch)
        exact ⟨hslots, hevaluated, hairing⟩
  · refine congrArg Host.Outcome.next (State.accept_of_forward hears ?_)
    rw [actRelease_of_length hlen, State.releaseClaims_of_no_class hclass]
  · exact congrArg Host.Outcome.next (State.accept_of_forward hears (if_neg hlen))

/-! ### The addressed frames (R150) -/

/-- Every command with an addressed frame performs its request in the one way of R150. -/
theorem exec_request {c : Instr} {f : Frame} (hf : c.frame = some (.uPort, f))
    (hkind : f.kind = 0x10 ∨ f.kind = 0x11 ∨ f.kind = 0x12 ∨ f.kind = 0x13 ∨ f.kind = 0x14) (hc : ∀ g, c ≠ .unknownKindFrame g) :
    ∃ perform : State → Performed, ∀ s, exec c s = .next (s.accept f.payload (actAddressed f perform)) := by
  cases c with
  | groupWrite | profileWrite | inputWrite | settingsWrite | tableRead | statusRead | clearFault | clearSupply | stationReset =>
    cases hf
    exact ⟨_, fun s => rfl⟩
  | demand | release | weather | beacon | enumerate =>
    cases hf
    simp at hkind
  | unknownKindFrame g => exact absurd rfl (hc g)
  | _ => cases hf

theorem actAddressed_of_other {f : Frame} {perform : State → Performed} (h : s.line.station = 0 ∨ f.station.toNat ≠ s.line.station) :
    actAddressed f perform s = (s, .forward f false) := if_pos h

theorem actAddressed_of_occupied {f : Frame} {perform : State → Performed} (hn : s.line.station ≠ 0)
    (hs : f.station.toNat = s.line.station) (hreply : s.line.reply.isSome = true) : actAddressed f perform s = (s, .gone) := by
  unfold actAddressed
  rw [if_neg (not_or.2 ⟨hn, not_not_intro hs⟩), if_pos hreply]

theorem actAddressed_of_consumed {f : Frame} {perform : State → Performed} (hn : s.line.station ≠ 0)
    (hs : f.station.toNat = s.line.station) (hreply : s.line.reply = .none) : actAddressed f perform s =
      ({ (perform s).state with line := { (perform s).state.line with
          reply := some (replyFrame (perform s).state.line.station f.tag (perform s)) } }, .gone) := by
  unfold actAddressed
  rw [if_neg (not_or.2 ⟨hn, not_not_intro hs⟩), if_neg (by rw [hreply]; nofun)]

/-- A frame that is heard and dropped leaves all but the reception and the watchdog. -/
theorem State.accept_of_gone {p : List Byte} (h : Hears s p) {act : State → State × Fate} {u : State}
    (hact : act { s with line := heard s } = (u, .gone)) : s.accept p act = s.finish u := by
  rw [State.accept_of_hears h, hact]
  rfl

/-- Settles O52: the two tests that stand before a request is performed. -/
theorem addressedFramesPassOn : Obligations.AddressedFramesPassOn := by
  unfold Obligations.AddressedFramesPassOn
  intro s c f hf hkind hc hears
  obtain ⟨perform, hexec⟩ := exec_request hf hkind hc
  rw [hexec]
  refine ⟨fun h => ?_, fun hn hs hreply => ?_⟩
  · exact congrArg Host.Outcome.next (State.accept_of_forward hears (actAddressed_of_other h))
  · exact congrArg Host.Outcome.next
      ((State.accept_of_gone hears (actAddressed_of_occupied hn hs hreply)).trans (State.finish_eq_self rfl))

end Sys2Proof.Machine
end

section
/-! SUPPORT. Changes of claims followed by re-targets: the turn of an airing's dwell (R129, R130), the loss of the line and its return (R17, R19, R157). -/

namespace Sys2Proof.Machine

variable {s v w : State} {ch : Chan}

/-! ### Claims that change before a list of re-targets -/

/-- All that a change of claims does when the channels of `l` are then re-targeted, whichever channels it changed. -/
theorem State.claimsChange_spec (l : List Chan) (hl : l.Nodup)
    (hv : v = { s with chans := v.chans, line := v.line, reports := v.reports })
    (hc : ∀ d, v.chan d = { s.chan d with slots := (v.chan d).slots, airing := (v.chan d).airing }) :
    let u := v.retargetAll l
    OnlyClaims s u ∧ u.reports = v.reports ∧ u.line = v.line ∧ TakeTargets s u (· ∈ l)
      ∧ (∀ ch, (u.chan ch).slots = (v.chan ch).slots ∧ (u.chan ch).airing = (v.chan ch).airing)
      ∧ (∀ ch, (u.chan ch).motion.state = .disabled ↔ (s.chan ch).motion.state = .disabled)
      ∧ ∀ ch ∈ l, Evaluated u.weather (u.chan ch) := by
  dsimp only
  obtain ⟨hrest, hclaims, hsensed, hreports, hbudget, hstagger, -, hkept, hevaluated⟩ := State.retargetAll_spec l v
  obtain ⟨-, -, -, -, -, -, -, -, hline, -⟩ := hrest.fields
  have hadm : v.admission = s.admission := by rw [hv]
  have hsame (d : Chan) : (v.chan d).profile = (s.chan d).profile ∧ (v.chan d).motion = (s.chan d).motion
      ∧ (v.chan d).travel = (s.chan d).travel ∧ (v.chan d).current = (s.chan d).current := by
    rw [hc d]
    exact ⟨rfl, rfl, rfl, rfl⟩
  refine ⟨⟨by rw [hrest, hv], by rw [hbudget, hadm], by rw [hstagger, hadm], fun d => ?_, fun d => ?_⟩, hreports, hline,
    .intro l hl (fun _ => .rfl) (by rw [hv]) hc rfl, fun ch => (hclaims ch).2, fun ch => ?_, fun ch h => hevaluated ch (.inl h)⟩
  · obtain ⟨-, -, htravel, hcurrent⟩ := hsame d
    rw [← htravel, ← hcurrent]
    exact hsensed d
  · obtain ⟨hprofile, hmotion, htravel, -⟩ := hsame d
    obtain ⟨href, hfault, -, -, hrun, hdrift⟩ := hkept d
    rw [← hprofile, ← hmotion, ← htravel]
    exact ⟨(hclaims d).1, href, hfault, hrun, hdrift⟩
  · obtain ⟨-, hmotion, -, -⟩ := hsame ch
    rw [← hmotion]
    exact (hkept ch).2.2.1

/-- The line interface and the report queue are no part of what a change of claims may change. -/
theorem OnlyClaims.aside (h : OnlyClaims s w) (l : Line) (r : Reports) : OnlyClaims s (w.aside l r) := by
  obtain ⟨hw, hkept⟩ := h
  exact ⟨congrArg (fun x : State => x.aside l r) hw, hkept⟩

/-- All that a change of the claims of one channel with its re-target does. -/
theorem State.claimOn_spec (f : Channel → Channel) (hf : ∀ c, f c = { c with slots := (f c).slots, airing := (f c).airing })
    (s : State) (ch : Chan) :
    let u := (s.modChan ch f).retarget ch
    OnlyClaims s u ∧ KeepsOthers ch s u ∧ u.line = s.line ∧ u.reports = s.reports ∧ Evaluated u.weather (u.chan ch)
      ∧ TakeTargets s u (· = ch) ∧ (u.chan ch).slots = (f (s.chan ch)).slots ∧ (u.chan ch).airing = (f (s.chan ch)).airing := by
  obtain ⟨honly, hreports, hline, htargets, hchanged, hothers⟩ := State.claims_spec f hf [ch] (List.nodup_singleton ch) s
  obtain ⟨hevaluated, hslots, hairing⟩ := hchanged ch (List.mem_singleton_self ch)
  obtain ⟨chs, hnodup, hmem, hu⟩ := htargets
  exact ⟨honly, fun d hd => hothers d (by simpa using hd), hline, hreports, hevaluated,
    ⟨chs, hnodup, fun d => (hmem d).trans List.mem_singleton, hu⟩, hslots, hairing⟩

/-! ### The dwell of an airing (R129, R130) -/

theorem Channel.rewriteAiring_eq (c : Channel) (a : AiringRecord) :
    c.rewriteAiring a = { c with slots := (c.rewriteAiring a).slots, airing := (c.rewriteAiring a).airing } := rfl

theorem evaluate_winRank (weather : Weather) (c : Channel) :
    (evaluate weather c).winRank = (winner c.slots).map (fun k => classRank k.1) := by
  unfold evaluate
  split
  · next h => rw [h]; rfl
  · next cls claim h =>
    rw [h]
    dsimp only [Option.map]
    split
    · rfl
    · cases cls with
      | smoke | service => rfl
      | fallback | manual | comfort | airing => cases h : rawTarget c claim.demand <;> simp

theorem State.endDwell_of_open {a : AiringRecord} (ha : (s.chan ch).airing = some a) (hdwell : a.dwell = 0)
    (hphase : a.phase = .openPhase) :
    s.endDwell ch = (s.modChan ch (fun c => c.rewriteAiring (a.turnTo .closedPhase))).retarget ch := by
  unfold State.endDwell
  simp [ha, hdwell, hphase]

theorem State.endDwell_of_endless {a : AiringRecord} (ha : (s.chan ch).airing = some a) (hdwell : a.dwell = 0)
    (hphase : a.phase = .closedPhase) (hleft : a.remaining = none) :
    s.endDwell ch = (s.modChan ch (fun c => c.rewriteAiring (a.turnTo .openPhase))).retarget ch := by
  unfold State.endDwell
  simp [ha, hdwell, hphase, hleft]

theorem State.endDwell_of_more {a : AiringRecord} {n : Nat} (ha : (s.chan ch).airing = some a) (hdwell : a.dwell = 0)
    (hphase : a.phase = .closedPhase) (hleft : a.remaining = some (n + 1)) (hn : 1 ≤ n) :
    s.endDwell ch
      = (s.modChan ch (fun c => c.rewriteAiring ({ a with remaining := some n }.turnTo .openPhase))).retarget ch := by
  unfold State.endDwell
  simp [ha, hdwell, hphase, hleft, hn]

theorem State.endDwell_of_last {a : AiringRecord} {n : Nat} (ha : (s.chan ch).airing = some a) (hdwell : a.dwell = 0)
    (hphase : a.phase = .closedPhase) (hleft : a.remaining = some n) (hn : n ≤ 1) :
    s.endDwell ch
      = ((s.modChan ch (fun c => c.dropClaim .airing)).retarget ch).postAiringDone ch (a.atCreation.getD 0) := by
  unfold State.endDwell
  simp [ha, hdwell, hphase, hleft, show ¬ 2 ≤ n by omega]

/-- A turn of the phase is a change of one channel's claims. -/
theorem State.turn_spec (s : State) (ch : Chan) (b : AiringRecord) :
    let u := (s.modChan ch (fun c => c.rewriteAiring b)).retarget ch
    OnlyClaims s u ∧ KeepsOthers ch s u ∧ u.line = s.line ∧ u.reports = s.reports ∧ Evaluated u.weather (u.chan ch)
      ∧ TakeTargets s u (· = ch)
      ∧ (u.chan ch).slots = { (s.chan ch).slots with
          airing := (s.chan ch).slots.airing.map (fun k => { k with demand := .level b.level }) }
      ∧ (u.chan ch).airing = some b :=
  State.claimOn_spec (fun c => c.rewriteAiring b) (fun c => c.rewriteAiring_eq b) s ch

/-- AIRING DONE, in the terms of the state before the claim went (R132). -/
theorem State.postAiringDone_reports {u : State} {n : Nat} (honly : OnlyClaims s u) (hreports : u.reports = s.reports)
    (hevaluated : Evaluated u.weather (u.chan ch)) :
    (u.postAiringDone ch n).reports = (s.post {
      kind := .airingDone, chan := some ch, position := (s.chan ch).reported,
      rank := (u.chan ch).selected.winRank, detail := { b5 := byteOf n } }).reports := by
  obtain ⟨hu, -, -, hsensed, hkept⟩ := honly
  obtain ⟨hprofile, href, -⟩ := hkept ch
  have hreported : (u.chan ch).reported = (s.chan ch).reported := by
    unfold Channel.reported
    rw [hprofile, href, (hsensed ch).1]
  rw [hevaluated.1, evaluate_winRank, ← hreported]
  exact State.post_reports_congr _ hreports (by rw [hu])

/-- Settles O19: each end of a dwell is a change of one channel's claims. -/
theorem airingDwellTurns : Obligations.AiringDwellTurns := by
  unfold Obligations.AiringDwellTurns
  intro s ch a ha hdwell
  refine ⟨s.endDwell ch, rfl, ?_⟩
  cases hphase : a.phase with
  | openPhase =>
    rw [State.endDwell_of_open ha hdwell hphase]
    obtain ⟨honly, hothers, hline, hreports, hevaluated, htargets, hslots, hairing⟩ := State.turn_spec s ch (a.turnTo .closedPhase)
    refine ⟨honly, hothers, hline, hevaluated, htargets, fun _ => ⟨hreports, hairing.trans ?_, hslots⟩, nofun, nofun⟩
    rw [AiringRecord.turnTo, Nat.mul_comm]
  | closedPhase =>
    by_cases hlast : ∃ n, a.remaining = some n ∧ n ≤ 1
    · obtain ⟨n, hleft, hn⟩ := hlast
      obtain ⟨honly, hothers, hline, hreports, hevaluated, htargets, hslots, hairing⟩ :=
        State.claimOn_spec (fun c => c.dropClaim .airing) (fun c => c.dropClaim_eq .airing) s ch
      rw [State.endDwell_of_last ha hdwell hphase hleft hn]
      have hposted := State.postAiringDone_reports (n := a.atCreation.getD 0) honly hreports hevaluated
      generalize (s.modChan ch (fun c => c.dropClaim .airing)).retarget ch = u at *
      have hpost : u.postAiringDone ch (a.atCreation.getD 0)
          = u.aside u.line (u.postAiringDone ch (a.atCreation.getD 0)).reports := State.post_eq ..
      rw [hpost]
      refine ⟨honly.aside _ _, hothers, hline, hevaluated, htargets.aside _ _, nofun, fun left _ h => ?_,
        fun m N _ _ _ hat => ⟨hairing, hslots, ?_⟩⟩
      · rcases h with ⟨h, -⟩ | ⟨m, hm, h, -⟩
        · rw [hleft] at h
          cases h
        · rw [hleft] at h
          cases h
          omega
      · rw [hat] at hposted
        rw [hat]
        exact hposted
    · obtain ⟨left, hend, hunique⟩ : ∃ left, s.endDwell ch
            = (s.modChan ch (fun c => c.rewriteAiring ({ a with remaining := left }.turnTo .openPhase))).retarget ch
          ∧ ∀ l, (a.remaining = none ∧ l = none) ∨ (∃ n, 1 ≤ n ∧ a.remaining = some (n + 1) ∧ l = some n) → l = left := by
        cases hleft : a.remaining with
        | none =>
          refine ⟨none, ?_, fun l h => ?_⟩
          · rw [State.endDwell_of_endless ha hdwell hphase hleft, ← hleft]
          · rcases h with ⟨-, h⟩ | ⟨n, -, h, -⟩
            · exact h
            · cases h
        | some m =>
          obtain ⟨n, rfl⟩ : ∃ n, m = n + 2 := ⟨m - 2, by have : ¬ m ≤ 1 := fun h => hlast ⟨m, hleft, h⟩; omega⟩
          refine ⟨some (n + 1), State.endDwell_of_more ha hdwell hphase hleft (by omega), fun l h => ?_⟩
          rcases h with ⟨h, -⟩ | ⟨k, -, h, rfl⟩
          · cases h
          · cases h
            rfl
      rw [hend]
      obtain ⟨honly, hothers, hline, hreports, hevaluated, htargets, hslots, hairing⟩ :=
        State.turn_spec s ch ({ a with remaining := left }.turnTo .openPhase)
      refine ⟨honly, hothers, hline, hevaluated, htargets, nofun, fun l _ h => ?_, fun n N _ hleft hn => ?_⟩
      · obtain rfl := hunique l h
        refine ⟨hreports, hairing.trans ?_, hslots⟩
        rw [AiringRecord.turnTo, Nat.mul_comm]
      · exact absurd ⟨n, hleft, hn⟩ hlast

/-! ### The loss of the line (R17) -/

theorem Channel.loseLine_of_disabled {c : Channel} (h : c.motion.state = .disabled) :
    c.loseLine.slots.fallback = c.slots.fallback := by
  unfold Channel.loseLine
  dsimp only
  rw [if_pos h]
  split <;> rfl

theorem Channel.loseLine_slots (c : Channel) : c.loseLine.airing = none ∧ c.loseLine.slots.smoke = c.slots.smoke
    ∧ c.loseLine.slots.service = c.slots.service ∧ c.loseLine.slots.comfort = none ∧ c.loseLine.slots.airing = none
    ∧ c.loseLine.slots.manual = if c.slots.manual.any (fun m => m.origin == .line) then none else c.slots.manual := by
  unfold Channel.loseLine
  dsimp only
  split
  · split
    · next h => exact ⟨rfl, rfl, rfl, rfl, rfl, (if_pos h).symm⟩
    · next h => exact ⟨rfl, rfl, rfl, rfl, rfl, (if_neg h).symm⟩
  · split
    · next h => exact ⟨rfl, rfl, rfl, rfl, rfl, (if_pos h).symm⟩
    · next h => exact ⟨rfl, rfl, rfl, rfl, rfl, (if_neg h).symm⟩

theorem clampPosition_eq (p : Int) (T : Nat) : clampPosition p T = (max 0 (min p (T : Int))).toNat := by
  unfold clampPosition
  omega

/-- The FALLBACK claim of a channel's fail action (R17). -/
theorem Channel.loseLine_fallback {c : Channel} (h : c.motion.state ≠ .disabled) :
    c.loseLine.slots.fallback = some {
      origin := .line, group := none, expiry := none, tag := 0
      demand :=
        if c.profile.failMoveTo then .level c.profile.moveToLevel
        else .stay (if c.motion.referenced then
          some (max 0 (min c.travel.position (c.profile.travel : Int))).toNat else none) } := by
  rw [← clampPosition_eq]
  unfold Channel.loseLine
  dsimp only
  rw [if_neg h]
  rfl

/-- Settles O17: a loss of the line is a change of the claims of every channel and a re-target of those it concerns. -/
theorem lineLossPlacesFallback : Obligations.LineLossPlacesFallback := by
  unfold Obligations.LineLossPlacesFallback
  intro s hdue
  let line : Line := { s.line with watchdog := 1000 * s.settings.watchdog }
  have hexec : exec .lineWatchdogExpiry s
      = .next (s.finish (if s.line.lost then { s with line } else State.lineLost { s with line })) := by
    refine congrArg (fun u => Host.Outcome.next (s.finish u)) ?_
    exact if_pos hdue
  refine ⟨fun hlost => ?_, fun hlost => ?_⟩
  · rw [hexec, if_pos hlost]
    exact congrArg Host.Outcome.next (State.finish_eq_self rfl)
  · rw [hexec, if_neg (by rw [hlost]; nofun)]
    let v : State := { s with line := { line with lost := true }, chans := s.chans.map Channel.loseLine }
    let l := allChans.filter (fun c => (s.chan c).motion.state != .disabled || (s.chan c).loseLine.slots != (s.chan c).slots)
    have hchan (ch : Chan) : v.chan ch = (s.chan ch).loseLine := PerChan.get_map ..
    obtain ⟨honly, hreports, hline, htargets, hclaims, hdisabled, hevaluated⟩ :=
      State.claimsChange_spec (s := s) (v := v) l (nodup_allChans.filter _) rfl
        (fun d => by rw [hchan]; exact (s.chan d).loseLine_eq)
    have hpost : State.lineLost { s with line } = (v.retargetAll l).aside { line with lost := true }
        ((v.retargetAll l).post (lineReport true)).reports := by
      rw [← show v.line = { line with lost := true } from rfl, ← hline]
      exact State.post_eq ..
    have hslots (ch : Chan) : ((v.retargetAll l).chan ch).slots = (s.chan ch).loseLine.slots := by rw [(hclaims ch).1, hchan]
    have hmem (ch : Chan) : ch ∈ l ↔
        (s.chan ch).motion.state ≠ .disabled ∨ ((v.retargetAll l).chan ch).slots ≠ (s.chan ch).slots := by
      rw [hslots]
      simp [l, mem_allChans]
    refine ⟨_, rfl, ?_⟩
    rw [hpost]
    refine ⟨honly.aside _ _, rfl, ?_, ?_, fun ch => ?_, fun ch h => ⟨?_, (hdisabled ch).2 h⟩, fun ch h => ⟨?_, ?_⟩⟩
    · obtain ⟨chs, hnodup, hiff, hu⟩ := htargets.aside { line with lost := true }
        ((v.retargetAll l).post (lineReport true)).reports
      exact ⟨chs, hnodup, fun ch => (hiff ch).trans (hmem ch), hu⟩
    · exact State.post_reports_congr _ hreports (by rw [honly.1])
    · obtain ⟨hairing, hsmoke, hservice, hcomfort, hairingSlot, hmanual⟩ := (s.chan ch).loseLine_slots
      rw [State.chan_aside, hslots, (hclaims ch).2, hchan]
      refine ⟨hairing, hsmoke, hservice, hcomfort, hairingSlot, fun m hm horigin => ?_, fun hm => ?_⟩
      · rw [hmanual, if_pos (by simp [hm, horigin])]
      · rw [hmanual]
        refine if_neg fun h => ?_
        obtain ⟨m, hget, horigin⟩ := (Option.any_eq_true _ _).1 h
        exact hm m hget (beq_iff_eq.1 horigin)
    · rw [State.chan_aside, hslots, Channel.loseLine_of_disabled h]
    · exact hevaluated ch ((hmem ch).2 (.inl h))
    · rw [State.chan_aside, hslots, Channel.loseLine_fallback h]

end Sys2Proof.Machine
end

section
/-! SUPPORT. A frame accepted in LINE_LOST: LINE_OK and the frame's act are two events, and no act reads the line state but that of a STATUS READ of page 0 (R19, R79, R157). -/

namespace Sys2Proof.Machine

variable {s : State} {ch : Chan}

/-! ### LINE_OK -/

/-- LINE_OK as a removal of claims, with the line interface and the reports that it leaves. -/
theorem State.lineOk_eq (s : State) :
    s.lineOk = s.claimsLineOk.aside { s.line with lost := false } (s.post (lineReport false)).reports := by
  let v : State := s.aside { s.line with lost := false } s.reports
  have hclaims : v.claimsLineOk = s.claimsLineOk.aside { s.line with lost := false } s.reports := by
    unfold State.claimsLineOk
    rw [State.removeWhere_aside]
  have hsettings : s.claimsLineOk.settings = s.settings := by
    obtain ⟨⟨hu, -⟩, -⟩ := State.removeWhere_spec s .fallback (fun _ => true)
    unfold State.claimsLineOk
    rw [hu]
  show v.claimsLineOk.post (lineReport false) = _
  rw [hclaims, State.post_eq,
    State.post_reports_congr (s := s) (t := s.claimsLineOk.aside { s.line with lost := false } s.reports) _ rfl hsettings]
  rfl

theorem passesOn_lost (l : Line) (f : Frame) (acted lost : Bool) :
    passesOn { l with lost } f acted = { passesOn l f acted with lost } := by
  unfold passesOn
  cases hup : l.dUp <;> cases acted <;> simp [hup]
  split <;> rfl

/-- A frame that is forwarded unchanged and not acted on, accepted in LINE_LOST: either order gives the same. -/
theorem State.accept_forward_of_lost {p : List Byte} (h : Receives s p) (hlost : s.line.lost = true) (f : Frame) :
    s.accept p (actForward f) = s.finish (State.aside (State.claimsLineOk { s with line := heard s, freeCount := s.freeCount + 1 })
      (passesOn { heard s with lost := false } f false) (s.post (lineReport false)).reports) := by
  obtain ⟨hup, hrx, hlen⟩ := h
  let b : State := { s with line := heard s, freeCount := s.freeCount + 1 }
  have hreports : (b.post (lineReport false)).reports = (s.post (lineReport false)).reports :=
    State.post_reports_congr _ rfl rfl
  have hears (x : State) : x.hear (actForward f) = x.aside (passesOn x.line f false) x.reports := by
    show x.finish (x.dispose (.forward f false)) = _
    rw [State.dispose_forward]
    exact State.finish_eq_self rfl
  have hrestore (x : State) (l : Line) (hx : x = b.aside l b.reports) : x.restoreLine
      = s.finish (b.claimsLineOk.aside { l with lost := false } (s.post (lineReport false)).reports) := by
    subst hx
    show b.finish (State.lineOk { b with line := l }) = _
    rw [State.lineOk_setLine, State.lineOk_eq, hreports]
    rfl
  rw [State.accept_of_lost hup hrx hlen hlost]
  show (if Config.freeOrder s.freeCount then b.restoreLine.hear _ else (b.hear _).restoreLine) = _
  split
  · rw [hrestore b (heard s) rfl, hears, State.finish_aside, State.finish_aside]
    rfl
  · rw [hears, hrestore _ _ rfl, passesOn_lost (heard s) f false false]

/-- All that a frame without an act does in LINE_LOST. -/
theorem State.lineRestored_spec (s : State) (L : Line) :
    let u := State.aside (State.claimsLineOk { s with line := heard s, freeCount := s.freeCount + 1 }) L
      (s.post (lineReport false)).reports
    OnlyClaims s u ∧ TakeTargets { s with freeCount := s.freeCount + 1 } u (fun ch => (s.chan ch).slots.fallback.isSome = true)
      ∧ (∀ ch, (s.chan ch).slots.fallback.isSome = true →
          (u.chan ch).slots = { (s.chan ch).slots with fallback := none } ∧ (u.chan ch).airing = (s.chan ch).airing
            ∧ Evaluated u.weather (u.chan ch))
      ∧ ∀ ch, (s.chan ch).slots.fallback = none → u.chan ch = s.chan ch := by
  dsimp only
  obtain ⟨honly, -, -, htargets, hdropped, hothers, -⟩ :=
    State.removeWhere_spec { s with line := heard s, freeCount := s.freeCount + 1 } .fallback (fun _ => true)
  have hits (ch : Chan) : (∃ c, (s.chan ch).slots.get .fallback = some c ∧ true = true) ↔
      (s.chan ch).slots.fallback.isSome = true := by
    rw [Option.isSome_iff_exists]
    simp [ClaimSlots.get]
  obtain ⟨hu, hkept⟩ := honly.aside L (s.post (lineReport false)).reports
  obtain ⟨chs, hnodup, hmem, htaken⟩ := (htargets.aside L (s.post (lineReport false)).reports).of_line
    (s := { s with freeCount := s.freeCount + 1 }) rfl
  refine ⟨⟨hu, hkept⟩, ⟨chs, hnodup, fun ch => (hmem ch).trans (hits ch), htaken⟩, fun ch h => ?_, fun ch h => ?_⟩
  · obtain ⟨hevaluated, hslots, hairing⟩ := hdropped ch ((hits ch).2 h)
    exact ⟨hslots, hairing, hevaluated⟩
  · refine hothers ch fun hit => ?_
    have := (hits ch).1 hit
    rw [h] at this
    cases this

/-! ### Acts that do not read the line state -/

def State.withLost (s : State) (lost : Bool) : State := { s with line := { s.line with lost } }

/-- A change that commutes with the line interface and the reports leaves the line state to whoever set it. -/
theorem withLost_of_aside {g : State → State} (h : ∀ s l r, g (s.aside l r) = (g s).aside l r) (s : State) (lost : Bool) :
    g (s.withLost lost) = (g s).withLost lost := by
  have hself : g s = (g s).aside s.line s.reports := h s s.line s.reports
  have hline : (g s).line = s.line := by rw [hself]; rfl
  have hreports : (g s).reports = s.reports := by rw [hself]; rfl
  show g (s.aside { s.line with lost } s.reports) = _
  rw [h, ← hline, ← hreports]
  rfl

section commute
variable (s : State) (lost : Bool) (ch : Chan)

theorem State.post_withLost (r : Report) : (s.withLost lost).post r = (s.post r).withLost lost := by
  unfold State.post
  show (if reportEnabled s.settings.reportMask r.kind then _ else _) = _
  split <;> rfl

theorem State.retarget_withLost : (s.withLost lost).retarget ch = (s.retarget ch).withLost lost :=
  withLost_of_aside (g := fun s => s.retarget ch) (fun s l r => s.retarget_aside l r ch) s lost

theorem State.retargetAll_withLost (chs : List Chan) :
    (s.withLost lost).retargetAll chs = (s.retargetAll chs).withLost lost :=
  withLost_of_aside (g := fun s => s.retargetAll chs) (fun s l r => s.retargetAll_aside l r chs) s lost

theorem State.rebudget_withLost (cause : HaltCause) : (s.withLost lost).rebudget cause = (s.rebudget cause).withLost lost :=
  withLost_of_aside (g := fun s => s.rebudget cause) (fun s l r => s.rebudget_aside l r cause) s lost

theorem State.brake_withLost (reason : BrakingReason) (cause : Option HaltCause) (afterBackoff : Bool) :
    (s.withLost lost).brake ch reason cause afterBackoff = (s.brake ch reason cause afterBackoff).withLost lost :=
  withLost_of_aside (g := fun s => s.brake ch reason cause afterBackoff)
    (fun s l r => s.brake_aside l r ch reason cause afterBackoff) s lost

theorem State.foldl_modChan_withLost (f : Channel → Channel) (chs : List Chan) :
    chs.foldl (fun s c => s.modChan c f) (s.withLost lost) = (chs.foldl (fun s c => s.modChan c f) s).withLost lost :=
  withLost_of_aside (g := fun s => chs.foldl (fun s c => s.modChan c f) s)
    (fun s l r => State.foldl_modChan_aside f chs s l r) s lost

theorem State.removeWhere_withLost (cls : ClaimClass) (hit : Claim → Bool) :
    (s.withLost lost).removeWhere cls hit = ((s.removeWhere cls hit).1.withLost lost, (s.removeWhere cls hit).2) :=
  Prod.ext (withLost_of_aside (g := fun s => (s.removeWhere cls hit).1)
    (fun s l r => congrArg Prod.fst (s.removeWhere_aside l r cls hit)) s lost) rfl

theorem State.placeOn_withLost (members : List Chan) (put : Channel → Channel) :
    (s.withLost lost).placeOn members put
      = { s.placeOn members put with state := (s.placeOn members put).state.withLost lost } := by
  unfold State.placeOn
  dsimp only
  rw [← State.retargetAll_withLost, ← State.foldl_modChan_withLost]
  rfl

theorem State.placeDemand_withLost (tag : Word16) (p : List Byte) :
    (s.withLost lost).placeDemand tag p
      = { s.placeDemand tag p with state := (s.placeDemand tag p).state.withLost lost } := by
  cases hclass : frameClass p with
  | none => rw [State.placeDemand_of_no_class hclass, State.placeDemand_of_no_class hclass]
  | some cls =>
    cases he : lookupGroup s.groups (frameGroup p) with
    | none => rw [State.placeDemand_of_no_group he, State.placeDemand_of_no_group (s := s.withLost lost) he]
    | some e =>
      cases ha : e.admitted.admits cls with
      | false => rw [State.placeDemand_of_withheld hclass he ha, State.placeDemand_of_withheld (s := s.withLost lost) hclass he ha]
      | true =>
        rw [State.placeDemand_of_admitted hclass he ha, State.placeDemand_of_admitted (s := s.withLost lost) hclass he ha]
        exact s.placeOn_withLost lost ..

theorem State.releaseClaims_withLost (p : List Byte) :
    (s.withLost lost).releaseClaims p = ((s.releaseClaims p).1.withLost lost, (s.releaseClaims p).2) := by
  unfold State.releaseClaims
  split
  · rfl
  · rfl
  · exact s.removeWhere_withLost lost ..

theorem State.weatherEvent_withLost {change : State → State}
    (h : ∀ s lost, change (s.withLost lost) = (change s).withLost lost) :
    (s.withLost lost).weatherEvent change = (s.weatherEvent change).withLost lost := by
  unfold State.weatherEvent
  dsimp only
  rw [h]
  let b : State := { change s with
    weather := (change s).weather.onWet (change s).settings (wetCondition s) (wetCondition (change s)) }
  show (if weatherDiffers s.weather b.weather then ((b.withLost lost).post (weatherReport b.weather)).retargetAll allChans
    else b.withLost lost) = (if weatherDiffers s.weather b.weather then _ else b).withLost lost
  split
  · rw [State.post_withLost, State.retargetAll_withLost]
  · rfl

theorem State.removeLocal_withLost (n : InputNo) : (s.withLost lost).removeLocal n = (s.removeLocal n).withLost lost := by
  unfold State.removeLocal
  rw [State.removeWhere_withLost]

theorem State.writeInput_withLost (n : InputNo) (e : InputEntry) :
    (s.withLost lost).writeInput n e = (s.writeInput n e).withLost lost := by
  have hdeactivate : (s.withLost lost).deactivate n = (s.deactivate n).withLost lost := by
    unfold State.deactivate
    show (if (s.input n).function = .serviceSwitch then _ else _) = _
    split
    · exact s.removeLocal_withLost lost n
    · rfl
  unfold State.writeInput
  dsimp only
  show (if (s.input n).function = e.function ∧ (s.input n).activeHigh = e.activeHigh then _ else _) = _
  split
  · rfl
  · show State.weatherEvent (if (s.input n).active = true then _ else _) _ = State.withLost (State.weatherEvent _ _) lost
    rw [← State.weatherEvent_withLost _ _ (fun _ _ => rfl), hdeactivate]
    split <;> rfl

theorem State.settleAtRest_withLost : (s.withLost lost).settleAtRest ch = (s.settleAtRest ch).withLost lost := by
  unfold State.settleAtRest
  show (match moveNeeded (s.chan ch) with | some _ => _ | none => _) = _
  cases moveNeeded (s.chan ch) <;> rfl

theorem State.changeSupply_withLost (state : SupplyState) :
    (s.withLost lost).changeSupply state = (s.changeSupply state).withLost lost := by
  unfold State.changeSupply
  dsimp only
  rw [← State.rebudget_withLost, ← State.post_withLost]
  rfl

theorem State.startHoldOff_withLost : (s.withLost lost).startHoldOff = s.startHoldOff.withLost lost := by
  unfold State.startHoldOff
  show (if s.settings.holdOff = 0 then _ else _) = _
  split
  · exact s.changeSupply_withLost lost _
  · rfl

theorem State.clearSupply_withLost :
    (s.withLost lost).clearSupply = (s.clearSupply.1.withLost lost, s.clearSupply.2) := by
  unfold State.clearSupply
  show (if s.supply.state = .cut ∧ s.supply.latch = true then (if s.supply.recovered = true then _ else _) else _) = _
  split
  · split
    · exact congrArg (fun u => (u, true)) (State.startHoldOff_withLost { s with supply := { s.supply with latch := false } } lost)
    · rfl
  · rfl

theorem State.writeSettings_withLost (t : Settings) :
    (s.withLost lost).writeSettings t = (s.writeSettings t).withLost lost := by
  unfold State.writeSettings
  dsimp only
  show (if t.normalBudget = s.settings.normalBudget ∧ t.lowBudget = s.settings.lowBudget then _ else _) = _
  split
  · rfl
  · rw [← State.rebudget_withLost]
    rfl

theorem State.resetMotion_withLost : (s.withLost lost).resetMotion ch = (s.resetMotion ch).withLost lost := by
  have hchan : (s.withLost lost).chan ch = s.chan ch := rfl
  unfold State.resetMotion
  dsimp only
  rw [hchan]
  cases (s.chan ch).motion.state with
  | moving | backoff =>
    dsimp only
    rw [State.brake_withLost]
    rfl
  | braking =>
    dsimp only
    split <;> rfl
  | waiting =>
    exact congrArg (fun u : State => u.modChan ch Channel.endRetries) (State.settleAtRest_withLost
      ((s.modChan ch (fun c => { c with motion := { c.motion with state := .idle } })).leaveQueue ch) lost ch)
  | dwell =>
    exact congrArg (fun u : State => u.modChan ch Channel.endRetries) (State.settleAtRest_withLost
      (s.modChan ch (fun c => { c with motion := { c.motion with state := .idle, dwellTimer := none } })) lost ch)
  | idle | faulted | disabled => rfl

theorem State.retargeted_withLost (changed : Bool) :
    (if changed then (s.withLost lost).retarget ch else s.withLost lost)
      = (if changed then s.retarget ch else s).withLost lost := by
  cases changed
  · rfl
  · exact s.retarget_withLost lost ch

theorem State.resetChannel_withLost (changed : Bool) :
    (s.withLost lost).resetChannel ch changed = (s.resetChannel ch changed).withLost lost := by
  let b := s.freeOrder.2
  have hfirst : (if changed then ((b.withLost lost).resetMotion ch).retarget ch else (b.withLost lost).resetMotion ch)
      = (if changed then (b.resetMotion ch).retarget ch else b.resetMotion ch).withLost lost := by
    rw [State.resetMotion_withLost]
    exact State.retargeted_withLost ..
  have hlast : State.resetMotion (if changed then (b.withLost lost).retarget ch else b.withLost lost) ch
      = (State.resetMotion (if changed then b.retarget ch else b) ch).withLost lost := by
    rw [State.retargeted_withLost, State.resetMotion_withLost]
  unfold State.resetChannel
  show State.modChan (if Config.freeOrder s.freeCount then (if changed then ((b.withLost lost).resetMotion ch).retarget ch
    else (b.withLost lost).resetMotion ch) else State.resetMotion (if changed then (b.withLost lost).retarget ch
    else b.withLost lost) ch) ch _ = State.withLost (State.modChan (if Config.freeOrder s.freeCount then _ else _) ch _) lost
  rw [hfirst, hlast]
  split <;> rfl

theorem State.stationReset_withLost : (s.withLost lost).stationReset = s.stationReset.withLost lost := by
  have hfold (chs l : List Chan) (t : State) :
      chs.foldl (fun u ch => u.resetChannel ch (l.contains ch)) (t.withLost lost)
        = (chs.foldl (fun u ch => u.resetChannel ch (l.contains ch)) t).withLost lost := by
    induction chs generalizing t with
    | nil => rfl
    | cons c chs ih => rw [List.foldl_cons, List.foldl_cons, State.resetChannel_withLost, ih]
  exact hfold allChans (resetChanged s)
    { s with chans := s.chans.map Channel.resetClaims, reports := { s.reports with records := [] } }

end commute

/-! ### The requests -/

/-- A request whose effect does not read the line state. -/
def LostBlind (perform : State → Performed) : Prop :=
  ∀ s lost, perform (s.withLost lost) = { perform s with state := (perform s).state.withLost lost }

theorem lostBlind_groupWrite (p : List Byte) : LostBlind (performGroupWrite p) := by
  intro s lost
  cases p with
  | nil => rfl
  | cons sel record =>
    unfold performGroupWrite
    dsimp only
    show (if record.length ≠ 4 then _ else if (groupOf record).number = 0 then _ else if
      (decide (1023 < (groupOf record).number) || membersEmpty (groupOf record).members) = true then _ else if
        groupElsewhere s.groups (sel.toNat % 64) (groupOf record).number = true then _ else _) = _
    split
    · rfl
    · split
      · rfl
      · split
        · rfl
        · split <;> rfl

theorem lostBlind_profileWrite (p : List Byte) : LostBlind (performProfileWrite p) := by
  intro s lost
  cases p with
  | nil => rfl
  | cons sel record =>
    unfold performProfileWrite
    dsimp only
    split
    · rfl
    · cases chanOfIndex (sel.toNat % 64) with
      | none => rfl
      | some ch =>
        show (if isBusy (s.chan ch).motion.state = true then _ else _) = _
        dsimp only
        split
        · rfl
        · split
          · exact congrArg (fun u => ({ state := u, result := .done } : Performed))
              (State.retarget_withLost (s.modChan ch (fun c => c.writeProfile (profileOf record))) lost ch)
          · rfl

theorem lostBlind_inputWrite (p : List Byte) : LostBlind (performInputWrite p) := by
  intro s lost
  cases p with
  | nil => rfl
  | cons sel record =>
    unfold performInputWrite
    dsimp only
    split
    · rfl
    · cases inputOfIndex (sel.toNat % 64) with
      | none => rfl
      | some n =>
        show (match inputOf record (s.input n) with | none => _ | some e => _) = _
        dsimp only
        cases inputOf record (s.input n) with
        | none => rfl
        | some e =>
          dsimp only
          split
          · exact congrArg (fun u => ({ state := u, result := .done } : Performed)) (s.writeInput_withLost lost n e)
          · rfl

theorem lostBlind_settingsWrite (p : List Byte) : LostBlind (performSettingsWrite p) := by
  intro s lost
  cases p with
  | nil => rfl
  | cons sel record =>
    unfold performSettingsWrite
    dsimp only
    split
    · rfl
    · split
      · rfl
      · cases settingsOf record with
        | none => rfl
        | some t =>
          dsimp only
          split
          · exact congrArg (fun u => ({ state := u, result := .done } : Performed)) (s.writeSettings_withLost lost t)
          · rfl

theorem lostBlind_tableRead (p : List Byte) : LostBlind (performTableRead p) := by
  intro s lost
  unfold performTableRead
  split
  · next sel =>
    show (match recordOf s sel with | none => _ | some r => _) = _
    cases recordOf s sel <;> rfl
  · rfl

theorem lostBlind_clearSupply : LostBlind performClearSupply := by
  intro s lost
  unfold performClearSupply
  rw [State.clearSupply_withLost]

theorem lostBlind_clearChannel (ch : Chan) : LostBlind (fun s => s.clearChannel ch) := by
  intro s lost
  unfold State.clearChannel
  dsimp only
  show (if (s.chan ch).motion.state ≠ .faulted then _ else if causeGone s ch = true then _ else _) = _
  split
  · rfl
  · split
    · refine congrArg (fun u => ({ state := u, result := .done } : Performed)) ?_
      rw [← State.retarget_withLost, State.postChan, State.postChan, ← State.post_withLost]
      rfl
    · rfl

theorem lostBlind_clearFault (p : List Byte) : LostBlind (performClearFault p) := by
  intro s lost
  unfold performClearFault
  split
  · next code =>
    split
    · exact lostBlind_clearSupply s lost
    · cases chanOfIndex code.toNat with
      | none => rfl
      | some ch => exact lostBlind_clearChannel ch s lost
  · rfl

theorem lostBlind_stationReset (p : List Byte) : LostBlind (performStationReset p) := by
  intro s lost
  cases p with
  | nil => exact congrArg (fun u => ({ state := u, result := .done } : Performed)) (s.stationReset_withLost lost)
  | cons => rfl

theorem lostBlind_statusRead {p : List Byte} (h : p ≠ [0]) : LostBlind (performStatusRead p) := by
  intro s lost
  unfold performStatusRead
  split
  · next page =>
    dsimp only
    split
    · next hpage => exact absurd (congrArg (fun b => [b]) (BitVec.eq_of_toNat_eq (y := 0) hpage)) h
    · next n _ =>
      cases chanOfIndex n with
      | none => rfl
      | some ch => rfl
  · rfl

/-! ### The acts -/

/-- An act that does not read the line state. -/
def ActLostBlind (act : State → State × Fate) : Prop :=
  ∀ s lost, act (s.withLost lost) = ((act s).1.withLost lost, (act s).2)

theorem actLostBlind_demand (f : Frame) : ActLostBlind (actDemand f) := by
  intro s lost
  by_cases h : demandLengthFits f.payload = true
  · rw [actDemand_of_fits h, actDemand_of_fits h, State.placeDemand_withLost]
  · rw [actDemand_of_not_fits h, actDemand_of_not_fits h]

theorem actLostBlind_release (f : Frame) : ActLostBlind (actRelease f) := by
  intro s lost
  by_cases h : f.payload.length = 6
  · rw [actRelease_of_length h, actRelease_of_length h, State.releaseClaims_withLost]
  · unfold actRelease
    rw [if_neg h, if_neg h]

theorem actLostBlind_weather (f : Frame) : ActLostBlind (actWeather f) := by
  intro s lost
  unfold actWeather
  split
  · rw [State.weatherEvent_withLost _ _ (fun _ _ => rfl)]
  · rfl

theorem actLostBlind_enumerate (f : Frame) : ActLostBlind (actEnumerate f) := by
  intro s lost
  unfold actEnumerate
  dsimp only
  split
  · split <;> rfl
  · rfl

theorem actLostBlind_addressed {f : Frame} {perform : State → Performed} (h : LostBlind perform) :
    ActLostBlind (actAddressed f perform) := by
  intro s lost
  unfold actAddressed
  dsimp only
  rw [h s lost]
  show (if s.line.station = 0 ∨ f.station.toNat ≠ s.line.station then _ else if s.line.reply.isSome = true then _ else _) = _
  split
  · rfl
  · split <;> rfl

/-- Every command that brings a frame on the U-port accepts it with one act. -/
theorem exec_frame {c : Instr} {f : Frame} (hf : c.frame = some (.uPort, f)) : ∃ act : State → State × Fate,
    (∀ s, exec c s = .next (s.accept f.payload act))
      ∧ ((∀ station tag, c ≠ .statusRead station tag [0]) → ActLostBlind act)
      ∧ ∀ station tag, c = .statusRead station tag [0] → act = actAddressed f (performStatusRead [0]) := by
  cases c with
  | demand => cases hf; exact ⟨_, fun _ => rfl, fun _ => actLostBlind_demand _, nofun⟩
  | release => cases hf; exact ⟨_, fun _ => rfl, fun _ => actLostBlind_release _, nofun⟩
  | weather => cases hf; exact ⟨_, fun _ => rfl, fun _ => actLostBlind_weather _, nofun⟩
  | beacon | unknownKindFrame => cases hf; exact ⟨_, fun _ => rfl, fun _ _ _ => rfl, nofun⟩
  | enumerate => cases hf; exact ⟨_, fun _ => rfl, fun _ => actLostBlind_enumerate _, nofun⟩
  | groupWrite => cases hf; exact ⟨_, fun _ => rfl, fun _ => actLostBlind_addressed (lostBlind_groupWrite _), nofun⟩
  | profileWrite => cases hf; exact ⟨_, fun _ => rfl, fun _ => actLostBlind_addressed (lostBlind_profileWrite _), nofun⟩
  | inputWrite => cases hf; exact ⟨_, fun _ => rfl, fun _ => actLostBlind_addressed (lostBlind_inputWrite _), nofun⟩
  | settingsWrite => cases hf; exact ⟨_, fun _ => rfl, fun _ => actLostBlind_addressed (lostBlind_settingsWrite _), nofun⟩
  | tableRead => cases hf; exact ⟨_, fun _ => rfl, fun _ => actLostBlind_addressed (lostBlind_tableRead _), nofun⟩
  | clearFault => cases hf; exact ⟨_, fun _ => rfl, fun _ => actLostBlind_addressed (lostBlind_clearFault _), nofun⟩
  | clearSupply => cases hf; exact ⟨_, fun _ => rfl, fun _ => actLostBlind_addressed lostBlind_clearSupply, nofun⟩
  | stationReset => cases hf; exact ⟨_, fun _ => rfl, fun _ => actLostBlind_addressed (lostBlind_stationReset _), nofun⟩
  | statusRead station tag p =>
    cases hf
    refine ⟨_, fun _ => rfl, fun h => actLostBlind_addressed (lostBlind_statusRead fun hp => h station tag (by rw [hp])), ?_⟩
    intro _ _ hc
    cases hc
    rfl
  | _ => cases hf

/-- Settles O18: the frames without an act, then the one act of every frame in both line states. -/
theorem frameRestoresTheLine : Obligations.FrameRestoresTheLine := by
  unfold Obligations.FrameRestoresTheLine
  refine ⟨fun s c f hc hreceives => ?_, fun c f hf => ?_⟩
  · have hexec : exec c s = .next (s.accept f.payload (actForward f)) := by
      rcases hc with ⟨station, tag, p, rfl, rfl⟩ | rfl <;> rfl
    refine ⟨fun hlost => ?_, fun hlost => ?_⟩
    · obtain ⟨hup, hrx, hlen⟩ := hreceives
      rw [hexec]
      exact congrArg Host.Outcome.next (State.accept_of_forward ⟨hup, hrx, hlen, hlost⟩ rfl)
    · obtain ⟨honly, htargets, hdropped, hothers⟩ := s.lineRestored_spec (passesOn { heard s with lost := false } f false)
      rw [hexec, State.accept_forward_of_lost hreceives hlost]
      exact ⟨_, rfl, honly, rfl, rfl, htargets, hdropped, hothers⟩
  · obtain ⟨act, hexec, hblind, hpage⟩ := exec_frame hf
    refine ⟨act, fun s ⟨hup, hrx, hlen⟩ hlost => ?_, fun s ⟨hup, hrx, hlen⟩ hlost => ?_, fun h => hblind h,
      fun station tag s hc => ?_⟩
    · rw [hexec, State.accept_of_hears ⟨hup, hrx, hlen, hlost⟩]
      rfl
    · rw [hexec, State.accept_of_lost hup hrx hlen hlost]
      rfl
    · obtain rfl := hpage station tag hc
      subst hc
      cases hf
      let f : Frame := ⟨0x12, station, tag, [0]⟩
      exact ⟨actAddressed_of_other (f := f), actAddressed_of_occupied (f := f), actAddressed_of_consumed (f := f)⟩

end Sys2Proof.Machine
end

section
/-! SUPPORT. The weather unit's commands (R24 to R33) and the five stages of the target selector (R34 to R42). -/

namespace Sys2Proof.Machine

variable {s u : State} {w : Weather} {t : Settings}

/-! ### The wet condition and the fields that it leaves -/

theorem Weather.onWet_self (t : Settings) (w : Weather) (b : Bool) : w.onWet t b b = w := by
  unfold Weather.onWet
  rw [if_pos (beq_self_eq_true b)]

/-- A field of the weather record that is neither of the rain's comes out of a weather event as the event's own change leaves it. -/
theorem Weather.field_of_onWet {α : Type} {a v : Weather} {wet : Bool} {timer : Option Nat}
    (h : v = { a with rainWet := wet, rainTimer := timer }) (g : Weather → α)
    (hg : ∀ x b r, g { x with rainWet := b, rainTimer := r } = g x) : g v = g a := by
  rw [h, hg]

/-- A change of the weather record alone that leaves the wet condition leaves the rain state to itself. -/
theorem State.weatherEvent_of_wet {change : State → State} {x : Weather} (hc : change s = { s with weather := x })
    (hline : x.lineWet = s.weather.lineWet) (hwind : x.wind = .unknown ↔ s.weather.wind = .unknown) :
    OnlyClaims { s with weather := (s.weatherEvent change).weather } (s.weatherEvent change)
      ∧ KeepsClaims s (s.weatherEvent change) ∧ (s.weatherEvent change).line = s.line ∧ HandsOn s (s.weatherEvent change)
      ∧ (s.weatherEvent change).weather = x := by
  obtain ⟨honly, hclaims, hlineKept, hhands, -, hweather, -⟩ := s.weatherEvent_spec change (by rw [hc])
  have hwet : wetCondition (change s) = wetCondition s := by
    rw [Bool.eq_iff_iff, wetCondition_iff, wetCondition_iff, hc]
    show ((x.lineWet = true ∧ x.wind ≠ .unknown) ∨ _) ↔ _
    rw [hline, Ne, hwind]
    rfl
  rw [hwet, Weather.onWet_self, hc] at hweather
  rw [hc] at honly
  exact ⟨honly, hclaims, hlineKept, hhands, hweather⟩

/-! ### The expiries (R27 to R31) -/

theorem windOnRelease_eq (w : Weather) : windOnRelease w =
    if w.wind = .storm ∧ w.w1InForce - w.hystInForce ≤ w.lastSpeed then .windy
    else if w.wind = .storm ∨ w.wind = .windy then .calm else w.wind := by
  unfold windOnRelease
  cases w.wind <;> simp

theorem windOnRelease_unknown (w : Weather) : windOnRelease w = .unknown ↔ w.wind = .unknown := by
  rw [windOnRelease_eq]
  cases w.wind with
  | storm => by_cases h : w.w1InForce - w.hystInForce ≤ w.lastSpeed <;> simp [h]
  | unknown | calm | windy => simp

/-- Settles O22: each expiry is one event of the weather unit; none but the last touches the wet condition. -/
theorem weatherTimersExpire : Obligations.WeatherTimersExpire := by
  unfold Obligations.WeatherTimersExpire
  intro s
  refine ⟨fun hdue => ?_, fun hdue => ?_, fun hdue => ?_, fun a ha hdue => ?_⟩
  · have hexec : s.releaseExpires = s.weatherEvent (fun s =>
        { s with weather := { s.weather with wind := windOnRelease s.weather, releaseTimer := none } }) :=
      if_pos (timerDue_iff.2 hdue)
    obtain ⟨honly, hclaims, hline, hhands, hweather⟩ := State.weatherEvent_of_wet (s := s)
      (change := fun s => { s with weather := { s.weather with wind := windOnRelease s.weather, releaseTimer := none } })
      rfl rfl (windOnRelease_unknown s.weather)
    refine ⟨s.releaseExpires, rfl, ?_⟩
    rw [hexec]
    rw [windOnRelease_eq] at hweather
    exact ⟨honly, hclaims, hline, hhands, hweather⟩
  · have hexec : s.settleExpires = s.weatherEvent (fun s => { s with weather := { s.weather with
        settled := s.weather.candidate.or s.weather.settled, candidate := none, settleTimer := none } }) :=
      if_pos (timerDue_iff.2 hdue)
    obtain ⟨honly, hclaims, hline, hhands, hweather⟩ := State.weatherEvent_of_wet (s := s)
      (change := fun s => { s with weather := { s.weather with
        settled := s.weather.candidate.or s.weather.settled, candidate := none, settleTimer := none } }) rfl rfl .rfl
    refine ⟨s.settleExpires, rfl, ?_⟩
    rw [hexec]
    refine ⟨honly, hclaims, hline, hhands, fun hsome => hweather.trans ?_⟩
    obtain ⟨b, hb⟩ := Option.isSome_iff_exists.1 hsome
    rw [hb]
    rfl
  · have hexec : s.rainExpires = s.weatherEvent (fun s =>
        { s with weather := { s.weather with rainWet := false, rainTimer := none } }) :=
      if_pos (timerDue_iff.2 hdue)
    refine ⟨s.rainExpires, rfl, ?_⟩
    rw [hexec]
    exact State.weatherEvent_of_wet rfl rfl .rfl
  · let gone (s : State) : State := { s with weather := { s.weather with
        wind := .unknown, releaseTimer := none, settled := none, candidate := none, settleTimer := none, age := none } }
    have hexec : s.goesStale = s.weatherEvent gone :=
      if_pos (by unfold ageDue; rw [ha]; exact decide_eq_true hdue)
    obtain ⟨honly, hclaims, hline, hhands, hfields, -, hfollows⟩ := s.weatherEvent_spec gone rfl
    refine ⟨s.goesStale, rfl, ?_⟩
    rw [hexec]
    exact ⟨honly, hclaims, hline, hhands, hfields, hfollows rfl rfl⟩

/-! ### A WEATHER frame (R24 to R30) -/

/-- What a WEATHER frame of saturated speed `v` does to the wind state and the release timer, state by state (R26). -/
theorem windOnFrame_of_low (v : Nat) (h : w.wind = .unknown ∨ w.wind = .calm) :
    windOnFrame t w v = (if t.w2 ≤ v then .storm else if t.w1 ≤ v then .windy else .calm, none) := by
  unfold windOnFrame
  rcases h with h | h <;> rw [h] <;> rfl

theorem windOnFrame_of_windy (v : Nat) (h : w.wind = .windy) : windOnFrame t w v =
    if t.w2 ≤ v then (.storm, none) else if t.w1 - t.hysteresis ≤ v then (.windy, none)
    else (.windy, some (w.releaseTimer.getD (1000 * t.releaseDelay))) := by
  unfold windOnFrame startRelease
  rw [h]
  cases w.releaseTimer <;> rfl

theorem windOnFrame_of_storm (v : Nat) (h : w.wind = .storm) : windOnFrame t w v =
    if t.w2 - t.hysteresis ≤ v then (.storm, none)
    else (.storm, some (w.releaseTimer.getD (1000 * t.releaseDelay))) := by
  unfold windOnFrame startRelease
  rw [h]
  cases w.releaseTimer <;> rfl

/-- The settling changes the three items of the sector alone (R29). -/
theorem Weather.settle_eq (t : Settings) (w : Weather) (b : Nat) : w.settle t b = { w with
    settled := (w.settle t b).settled, candidate := (w.settle t b).candidate, settleTimer := (w.settle t b).settleTimer } := by
  unfold Weather.settle
  split
  · rfl
  · dsimp only
    split
    · rfl
    · split
      · rfl
      · split
        · rfl
        · split <;> rfl

theorem Weather.settle_rainWet (t : Settings) (w : Weather) (b : Nat) : (w.settle t b).rainWet = w.rainWet := by
  rw [Weather.settle_eq]

theorem Weather.settle_rainTimer (t : Settings) (w : Weather) (b : Nat) : (w.settle t b).rainTimer = w.rainTimer := by
  rw [Weather.settle_eq]

section sector
variable {b : Nat}

theorem Weather.settle_of_none (h : 16 ≤ b) : w.settle t b = w := if_pos h

theorem Weather.settle_of_adopted (hb : b < 16)
    (h : w.settled = none ∨ (w.settled ≠ some b ∧ w.candidate ≠ some b ∧ t.settleTime = 0)) :
    w.settle t b = { w with settled := some b, candidate := none, settleTimer := none } := by
  unfold Weather.settle
  rw [if_neg (by omega)]
  dsimp only
  rcases h with h | ⟨hsettled, hcandidate, htime⟩
  · rw [h]
  · split
    · rfl
    · next s hs =>
      rw [hs] at hsettled
      rw [if_neg (fun h => hsettled (by rw [h])), if_neg hcandidate, if_pos htime]

theorem Weather.settle_of_settled (hb : b < 16) (h : w.settled = some b) :
    w.settle t b = { w with candidate := none, settleTimer := none } := by
  unfold Weather.settle
  rw [if_neg (by omega)]
  simp [h]

theorem Weather.settle_of_candidate (hb : b < 16) (h : w.settled.isSome = true) (hne : w.settled ≠ some b)
    (hcandidate : w.candidate = some b) : w.settle t b = w := by
  obtain ⟨s, hs⟩ := Option.isSome_iff_exists.1 h
  rw [hs] at hne
  unfold Weather.settle
  rw [if_neg (by omega)]
  simp [hs, show b ≠ s from fun h => hne (by rw [h]), hcandidate]

theorem Weather.settle_of_new (hb : b < 16) (h : w.settled.isSome = true) (hne : w.settled ≠ some b)
    (hcandidate : w.candidate ≠ some b) (htime : t.settleTime ≠ 0) :
    w.settle t b = { w with candidate := some b, settleTimer := some (1000 * t.settleTime) } := by
  obtain ⟨s, hs⟩ := Option.isSome_iff_exists.1 h
  rw [hs] at hne
  unfold Weather.settle
  rw [if_neg (by omega)]
  simp [hs, show b ≠ s from fun h => hne (by rw [h]), hcandidate, htime]

end sector

/-- What a weather event hands on does not depend on the line interface. -/
theorem HandsOn.reline {l L : Line} (h : HandsOn { s with line := l } u) : HandsOn s { u with line := L } := by
  unfold HandsOn at h ⊢
  split
  · next hdiffers =>
    obtain ⟨hevaluated, htargets, hreports⟩ := (if_pos hdiffers).mp h
    exact ⟨hevaluated, htargets.reline, hreports.trans (State.post_reports_congr _ rfl rfl)⟩
  · next hsame => exact (if_neg hsame).mp h

/-- Settles O21: the frame is one event of the weather unit, whose own change is the record, the wind state and the sector. -/
theorem weatherFrameIsTaken : Obligations.WeatherFrameIsTaken := by
  unfold Obligations.WeatherFrameIsTaken
  intro s station tag p hears
  let f : Frame := ⟨0x03, station, tag, p⟩
  refine ⟨fun hlen => congrArg Host.Outcome.next (State.accept_of_forward hears ?_), fun hlen => ?_⟩
  · exact congrArg (fun x => (x, Fate.forward f false)) (if_neg hlen)
  · let v : State := { s with line := heard s }
    let u := v.weatherEvent (State.takeWeather p)
    let taken : Weather := { s.weather with
      windSpeed := min (wordAt p 0) 700, lastSpeed := min (wordAt p 0) 700, lineWet := (byteAt p 3) != 0
      age := some 0, staleAt := 1000 * s.settings.staleTime
      wind := (windOnFrame s.settings s.weather (min (wordAt p 0) 700)).1
      releaseTimer := (windOnFrame s.settings s.weather (min (wordAt p 0) 700)).2
      w1InForce := s.settings.w1, hystInForce := s.settings.hysteresis }
    obtain ⟨honly, hclaims, hline, hhands, hfields, -, hfollows⟩ := v.weatherEvent_spec (State.takeWeather p) rfl
    have hsettle := Weather.settle_eq s.settings taken (byteAt p 2).toNat
    have field {α : Type} (g : Weather → α) (hg : ∀ x b r, g { x with rainWet := b, rainTimer := r } = g x) :
        g u.weather = g (taken.settle s.settings (byteAt p 2).toNat) := Weather.field_of_onWet hfields g hg
    have own {α : Type} (g : Weather → α) (hg : ∀ x b r, g { x with rainWet := b, rainTimer := r } = g x)
        (hg' : ∀ x a b c, g { x with settled := a, candidate := b, settleTimer := c } = g x) : g u.weather = g taken := by
      rw [field g hg, hsettle, hg']
    have hwind : (u.weather.wind, u.weather.releaseTimer) = windOnFrame s.settings s.weather (min (wordAt p 0) 700) :=
      own (fun x => (x.wind, x.releaseTimer)) (fun _ _ _ => rfl) (fun _ _ _ _ => rfl)
    have hsector : (u.weather.settled, u.weather.candidate, u.weather.settleTimer)
        = ((taken.settle s.settings (byteAt p 2).toNat).settled, (taken.settle s.settings (byteAt p 2).toNat).candidate,
            (taken.settle s.settings (byteAt p 2).toNat).settleTimer) :=
      field (fun x => (x.settled, x.candidate, x.settleTimer)) (fun _ _ _ => rfl)
    refine ⟨{ u with line := passesOn (heard s) f false }, ?_, OnlyClaims.reline (s := { s with weather := u.weather }) honly,
      hclaims, rfl, own (·.windSpeed) (fun _ _ _ => rfl) (fun _ _ _ _ => rfl),
      own (·.lastSpeed) (fun _ _ _ => rfl) (fun _ _ _ _ => rfl), own (·.lineWet) (fun _ _ _ => rfl) (fun _ _ _ _ => rfl),
      own (·.age) (fun _ _ _ => rfl) (fun _ _ _ _ => rfl), own (·.staleAt) (fun _ _ _ => rfl) (fun _ _ _ _ => rfl),
      own (·.w1InForce) (fun _ _ _ => rfl) (fun _ _ _ _ => rfl), own (·.hystInForce) (fun _ _ _ => rfl) (fun _ _ _ _ => rfl),
      fun h => ?_, fun h => ⟨fun h2 => ?_, fun h2 h1 => ?_, fun h2 h1 => ?_⟩, fun h => ⟨fun h2 => ?_, fun h2 => ?_⟩,
      fun hb => ?_, fun hb h => ?_, fun hb h => ?_, fun hb h hne hc => ?_, fun hb h hne hc ht => ?_, ?_, hhands.reline⟩
    · show Host.Outcome.next (s.accept p (actWeather f)) = _
      have hact : actWeather f v = (u, .forward f false) := congrArg (fun x => (x, Fate.forward f false)) (if_pos hlen)
      rw [State.accept_of_hears hears, show ({ s with line := heard s } : State) = v from rfl, hact, State.dispose_forward, hline]
    · rw [windOnFrame_of_low _ h] at hwind
      exact ⟨congrArg Prod.snd hwind, congrArg Prod.fst hwind⟩
    · rw [windOnFrame_of_windy _ h, if_pos h2] at hwind
      exact ⟨congrArg Prod.fst hwind, congrArg Prod.snd hwind⟩
    · rw [windOnFrame_of_windy _ h, if_neg (by omega), if_pos h1] at hwind
      exact ⟨congrArg Prod.fst hwind, congrArg Prod.snd hwind⟩
    · rw [windOnFrame_of_windy _ h, if_neg (by omega), if_neg (by omega)] at hwind
      exact ⟨congrArg Prod.fst hwind, congrArg Prod.snd hwind⟩
    · rw [windOnFrame_of_storm _ h, if_pos h2] at hwind
      exact ⟨congrArg Prod.fst hwind, congrArg Prod.snd hwind⟩
    · rw [windOnFrame_of_storm _ h, if_neg (by omega)] at hwind
      exact ⟨congrArg Prod.fst hwind, congrArg Prod.snd hwind⟩
    · rw [Weather.settle_of_none hb] at hsector
      simpa [taken] using hsector
    · rw [Weather.settle_of_adopted (w := taken) hb h] at hsector
      simpa using hsector
    · rw [Weather.settle_of_settled (w := taken) hb h] at hsector
      simpa [taken, h] using hsector
    · rw [Weather.settle_of_candidate (w := taken) hb h hne hc] at hsector
      simpa [taken, hc] using hsector
    · rw [Weather.settle_of_new (w := taken) hb h hne hc ht] at hsector
      simpa [taken] using hsector
    · exact hfollows (Weather.settle_rainWet ..) (Weather.settle_rainTimer ..)

/-! ### The target selector (R34 to R42) -/

section selector
variable {c : Channel} {cls : ClaimClass} {claim : Claim}

/-- The winner is the claim in the occupied slot of lowest rank (R36). -/
theorem winner_of_lowest {slots : ClaimSlots} (h : slots.get cls = some claim)
    (hlow : ∀ k, classRank k < classRank cls → slots.get k = none) : winner slots = some (cls, claim) := by
  have hfront : ∃ before after, allClasses = before ++ cls :: after ∧ ∀ k ∈ before, classRank k < classRank cls := by
    cases cls with
    | smoke => exact ⟨[], _, rfl, by decide⟩
    | service => exact ⟨[.smoke], _, rfl, by decide⟩
    | fallback => exact ⟨[.smoke, .service], _, rfl, by decide⟩
    | manual => exact ⟨[.smoke, .service, .fallback], _, rfl, by decide⟩
    | comfort => exact ⟨[.smoke, .service, .fallback, .manual], _, rfl, by decide⟩
    | airing => exact ⟨[.smoke, .service, .fallback, .manual, .comfort], _, rfl, by decide⟩
  obtain ⟨before, after, heq, hbefore⟩ := hfront
  refine List.findSome?_eq_some_iff.2 ⟨before, cls, after, heq, ?_, fun k hk => ?_⟩
  · rw [h]; rfl
  · rw [hlow k (hbefore k hk)]; rfl

theorem winner_of_empty {slots : ClaimSlots} (h : ∀ k, slots.get k = none) : winner slots = none := by
  refine List.findSome?_eq_none_iff.2 fun k _ => ?_
  rw [h k]; rfl

/-- The least of a number and a list of ceilings: below each of them, and one of them. -/
theorem foldl_min_spec (l : List Nat) (n : Nat) :
    l.foldl min n ≤ n ∧ (∀ x ∈ l, l.foldl min n ≤ x) ∧ (l.foldl min n = n ∨ l.foldl min n ∈ l) := by
  induction l generalizing n with
  | nil => exact ⟨Nat.le_refl n, nofun, .inl rfl⟩
  | cons x xs ih =>
    obtain ⟨hle, hall, hone⟩ := ih (min n x)
    rw [List.foldl_cons]
    refine ⟨by omega, fun y hy => ?_, ?_⟩
    · rcases List.mem_cons.1 hy with rfl | hy
      · omega
      · exact hall y hy
    · rcases hone with h | h
      · rcases Nat.le_total n x with hnx | hnx
        · exact .inl (h.trans (Nat.min_eq_left hnx))
        · exact .inr (List.mem_cons.2 (.inl (h.trans (Nat.min_eq_right hnx))))
      · exact .inr (List.mem_cons_of_mem x h)

theorem isWindyOrStorm_iff (w : Weather) : isWindyOrStorm w = true ↔ w.wind = .windy ∨ w.wind = .storm := by
  simp [isWindyOrStorm]

theorem isWindward_iff (w : Weather) (p : Profile) :
    isWindward w p = true ↔ ∃ b, w.settled = some b ∧ p.windward.getLsbD b = true := by
  unfold isWindward
  cases w.settled <;> simp

theorem mem_ceilings {x : Nat} : x ∈ ceilings w c ↔
    (w.wind = .storm ∧ x = asNumber c c.profile.stormPosition) ∨ (w.rainWet = true ∧ x = asNumber c c.profile.rainPosition)
    ∨ (((w.wind = .windy ∨ w.wind = .storm) ∧ ∃ b, w.settled = some b ∧ c.profile.windward.getLsbD b = true)
        ∧ x = asNumber c c.profile.windCeiling)
    ∨ (w.wind = .unknown ∧ x = asNumber c c.profile.unknownCeiling) := by
  have mem_if (p : Prop) [Decidable p] (y : Nat) : x ∈ (if p then [y] else []) ↔ p ∧ x = y := by
    split <;> simp_all
  rw [← isWindyOrStorm_iff, ← isWindward_iff, ← Bool.and_eq_true]
  unfold ceilings
  simp only [List.mem_append, mem_if, or_assoc]

theorem smokeWindRule_iff : smokeWindRule w c = true ↔ c.profile.windDependent = true ∧ (w.wind = .windy ∨ w.wind = .storm)
    ∧ ∃ b, w.settled = some b ∧ c.profile.windward.getLsbD b = true := by
  unfold smokeWindRule
  rw [Bool.and_eq_true, Bool.and_eq_true, isWindyOrStorm_iff, isWindward_iff, and_assoc]

theorem targetOf_eq (c : Channel) (raw : Option Nat) : targetOf c raw = (raw.map (asTarget c)).getD .none := by
  cases raw <;> rfl

/-- The raw target of a demand (R37). -/
theorem rawTarget_eq (c : Channel) (d : Demand) : rawTarget c d = match d with
    | .level d => some (asNumber c d)
    | .stay q => if c.motion.referenced then q else none := by
  cases d with
  | level d => rfl
  | stay q => cases q <;> simp [rawTarget]

/-- The selector's result for the class of the winner. -/
theorem evaluate_of_disabled (h : winner c.slots = some (cls, claim)) (hstate : c.motion.state = .disabled) :
    evaluate w c = { winRank := some (classRank cls) } := by
  unfold evaluate
  simp [h, hstate]

theorem evaluate_of_smoke (h : winner c.slots = some (.smoke, claim)) (hstate : c.motion.state ≠ .disabled) :
    evaluate w c = { winRank := some 1, queueRank := some 1, target := targetOf c (if smokeWindRule w c then
      some (asNumber c c.profile.smokeWindward) else rawTarget c claim.demand) } := by
  unfold evaluate
  simp only [h, if_neg hstate]
  rfl

theorem evaluate_of_service (h : winner c.slots = some (.service, claim)) (hstate : c.motion.state ≠ .disabled) :
    evaluate w c = { winRank := some 2, queueRank := some 2, target := targetOf c (rawTarget c claim.demand) } := by
  unfold evaluate
  simp only [h, if_neg hstate]
  rfl

theorem evaluate_of_no_raw (h : winner c.slots = some (cls, claim)) (hstate : c.motion.state ≠ .disabled)
    (hcls : 3 ≤ classRank cls) (hraw : rawTarget c claim.demand = none) :
    evaluate w c = { winRank := some (classRank cls) } := by
  unfold evaluate
  simp only [h, if_neg hstate, hraw]
  cases cls with
  | smoke | service => exact absurd hcls (by decide)
  | fallback | manual | comfort | airing => rfl

theorem evaluate_of_raw {n : Nat} (h : winner c.slots = some (cls, claim)) (hstate : c.motion.state ≠ .disabled)
    (hcls : 3 ≤ classRank cls) (hraw : rawTarget c claim.demand = some n) :
    evaluate w c = { winRank := some (classRank cls), target := asTarget c (underCeilings w c (classRank cls) n).1,
                     queueRank := some (underCeilings w c (classRank cls) n).2 } := by
  unfold evaluate
  simp only [h, if_neg hstate, hraw]
  cases cls with
  | smoke | service => exact absurd hcls (by decide)
  | fallback | manual | comfort | airing => rfl

end selector

/-- Settles O25: the winner, then the selector's result class by class. -/
theorem selectorResult : Obligations.SelectorResult := by
  unfold Obligations.SelectorResult
  refine ⟨fun w c h => ?_, fun w c cls claim hget hlow => ?_⟩
  · unfold evaluate
    rw [winner_of_empty h]
  · have hwin := winner_of_lowest hget hlow
    intro windy windward conv form raw
    have hraw : rawTarget c claim.demand = raw := by
      simp only [raw]
      rw [rawTarget_eq]
      cases claim.demand <;> rfl
    clear_value raw
    subst hraw
    refine ⟨?_, fun hstate => ?_, fun hstate hcls => ?_, fun hstate hcls => ?_, fun hstate hcls hraw => ?_,
      fun hstate hcls P hraw => ?_⟩
    · rw [evaluate_winRank, hwin]; rfl
    · rw [evaluate_of_disabled hwin hstate]
      exact ⟨rfl, rfl⟩
    · subst hcls
      rw [evaluate_of_service hwin hstate]
      exact ⟨rfl, targetOf_eq ..⟩
    · subst hcls
      rw [evaluate_of_smoke hwin hstate]
      refine ⟨rfl, fun hdep hwindy hward => ?_, fun hnot => ?_⟩
      · dsimp only
        rw [if_pos (smokeWindRule_iff.2 ⟨hdep, hwindy, hward⟩)]
        rfl
      · dsimp only
        rw [if_neg (fun h => ?_), targetOf_eq]
        · rfl
        · obtain ⟨hdep, hwindy, hward⟩ := smokeWindRule_iff.1 h
          rcases hnot with h | h | h
          · rw [hdep] at h; cases h
          · exact h hwindy
          · exact h hward
    · rw [evaluate_of_no_raw hwin hstate hcls hraw]
      exact ⟨rfl, rfl⟩
    · rw [evaluate_of_raw hwin hstate hcls hraw]
      obtain ⟨hle, hall, hone⟩ := foldl_min_spec (ceilings w c) P
      refine ⟨(ceilings w c).foldl min P, _, rfl, rfl, hle, fun h => hall _ (mem_ceilings.2 (.inl ⟨h, rfl⟩)),
        fun h => hall _ (mem_ceilings.2 (.inr (.inl ⟨h, rfl⟩))),
        fun h1 h2 => hall _ (mem_ceilings.2 (.inr (.inr (.inl ⟨⟨h1, h2⟩, rfl⟩)))),
        fun h => hall _ (mem_ceilings.2 (.inr (.inr (.inr ⟨h, rfl⟩)))), ?_, fun h => if_pos h, fun h => if_neg (by omega)⟩
      rcases hone with h | h
      · exact .inl h
      · rcases mem_ceilings.1 h with h | h | ⟨⟨h1, h2⟩, h⟩ | h
        · exact .inr (.inl h)
        · exact .inr (.inr (.inl h))
        · exact .inr (.inr (.inr (.inl ⟨h1, h2, h⟩)))
        · exact .inr (.inr (.inr (.inr h)))

end Sys2Proof.Machine
end

section
/-! SUPPORT. The local inputs: a debounced change and the act of its function (R13, R14, R133, R135 to R139). -/

namespace Sys2Proof.Machine

variable {s u v : State} {n : InputNo} {e : InputEntry} {ch : Chan}

/-! ### The entries of the input table -/

theorem PerInput.set_set {α : Type} (p : PerInput α) (n : InputNo) (x y : α) : (p.set n x).set n y = p.set n y := by
  cases n <;> rfl

theorem PerInput.set_get {α : Type} (p : PerInput α) (n : InputNo) : p.set n (p.get n) = p := by
  cases n <;> rfl

/-- A field of an entry that the new entry `n` keeps is the same for every entry. -/
theorem State.input_setInput_field {α : Type} (g : InputEntry → α) (h : g e = g (s.input n)) (m : InputNo) :
    g ((s.setInput n e).input m) = g (s.input m) := by
  by_cases hm : m = n
  · subst hm
    rw [State.input_setInput_self, h]
  · exact congrArg g (PerInput.get_set_ne _ _ hm)

theorem localRain_congr (h : ∀ m, ((s.input m).function = .rainContact ∧ (s.input m).active = true)
    ↔ ((u.input m).function = .rainContact ∧ (u.input m).active = true)) : localRain s = localRain u := by
  rw [Bool.eq_iff_iff, localRain_iff, localRain_iff]
  exact exists_congr h

/-- An event of the weather unit that leaves the record and the wet condition is its own change and nothing more. -/
theorem State.weatherEvent_of_same {change : State → State} (hweather : (change s).weather = s.weather)
    (hwet : wetCondition (change s) = wetCondition s) : s.weatherEvent change = change s := by
  unfold State.weatherEvent
  dsimp only
  rw [hwet, Weather.onWet_self, hweather, if_neg]
  · rw [← hweather]
  · rw [weatherDiffers_iff]
    simp

/-! ### Placements of an input (R13) -/

theorem State.placeLocal_withheld {cls : ClaimClass} {asked : Asked} {expiry : Option Nat}
    (h : ∀ g, lookupGroup s.groups (s.input n).group = some g → g.admitted.admits cls = false) :
    s.placeLocal n cls asked expiry = (s, none) := by
  unfold State.placeLocal
  cases hg : lookupGroup s.groups (s.input n).group with
  | none => rfl
  | some g =>
    dsimp only
    rw [if_neg (by rw [h g hg]; nofun)]

/-- The claim of input `n` on channel `c` (R13). -/
def localClaim (s : State) (n : InputNo) (asked : Asked) (expiry : Option Nat) (c : Channel) : Claim :=
  { origin := .input n, group := some (s.input n).group, demand := asked.demandFor c, expiry, tag := 0 }

/-- The channels that store a placement on the members `m` (R9, R13). -/
def storing (s : State) (m : PerChan Bool) : List Chan :=
  (memberList m).filter (fun c => (s.chan c).motion.state != .disabled)

theorem mem_storing {m : PerChan Bool} :
    ch ∈ storing s m ↔ m.get ch = true ∧ (s.chan ch).motion.state ≠ .disabled := by
  simp [storing, mem_memberList]

theorem nodup_storing {m : PerChan Bool} : (storing s m).Nodup := (nodup_allChans.filter _).filter _

theorem length_storing (m : PerChan Bool) : (storing s m).length
    = (allChans.filter (fun c => m.get c && (s.chan c).motion.state != .disabled)).length := by
  rw [storing, memberList, List.filter_filter]
  refine congrArg List.length (List.filter_congr fun c _ => Bool.and_comm _ _)

theorem State.placeLocal_of_admitted {cls : ClaimClass} {asked : Asked} {expiry : Option Nat} {g : GroupEntry}
    (hg : lookupGroup s.groups (s.input n).group = some g) (ha : g.admitted.admits cls = true) :
    s.placeLocal n cls asked expiry =
      (((storing s g.members).foldl (fun t c => t.modChan c (fun c => c.putClaim cls (localClaim s n asked expiry c))) s).retargetAll
        (storing s g.members), some (storing s g.members).length) := by
  obtain ⟨-, hnumber, -⟩ := lookupGroup_some hg
  unfold State.placeLocal
  simp only [hg, ha, if_true, hnumber]
  rfl

/-- All that a placement of an input does on the channels that store it. -/
theorem State.placeLocal_spec {cls : ClaimClass} {asked : Asked} {expiry : Option Nat} {g : GroupEntry}
    (hg : lookupGroup s.groups (s.input n).group = some g) (ha : g.admitted.admits cls = true) :
    let u := (s.placeLocal n cls asked expiry).1
    OnlyClaims s u ∧ u.reports = s.reports ∧ u.line = s.line ∧ u.weather = s.weather
      ∧ TakeTargets s u (fun ch => g.members.get ch = true ∧ (s.chan ch).motion.state ≠ .disabled)
      ∧ (∀ ch, g.members.get ch = true → (s.chan ch).motion.state ≠ .disabled → Evaluated u.weather (u.chan ch)
          ∧ (u.chan ch).slots = (s.chan ch).slots.set cls (some (localClaim s n asked expiry (s.chan ch)))
          ∧ (u.chan ch).airing = (s.chan ch).airing)
      ∧ ∀ ch, g.members.get ch = false ∨ (s.chan ch).motion.state = .disabled → u.chan ch = s.chan ch := by
  rw [State.placeLocal_of_admitted hg ha]
  obtain ⟨honly, hreports, hline, ⟨chs, hnodup, hmem, htaken⟩, hstored, hothers⟩ :=
    State.claims_spec (fun c => c.putClaim cls (localClaim s n asked expiry c)) (fun _ => rfl) (storing s g.members)
      nodup_storing s
  refine ⟨honly, hreports, hline, by rw [honly.1], ⟨chs, hnodup, fun ch => (hmem ch).trans mem_storing, htaken⟩,
    fun ch hm hs => hstored ch (mem_storing.2 ⟨hm, hs⟩), fun ch h => hothers ch fun hin => ?_⟩
  obtain ⟨hm, hs⟩ := mem_storing.1 hin
  rcases h with h | h
  · rw [h] at hm; cases hm
  · exact hs h

/-! ### The act of a function (R135 to R138) -/

theorem bothKeys_iff : bothKeys s n = true ↔ ∃ m, m ≠ n ∧ (s.input m).group = (s.input n).group ∧ (s.input m).active = true
    ∧ (((s.input n).function = .manualOpen ∧ (s.input m).function = .manualClose)
      ∨ ((s.input n).function = .manualClose ∧ (s.input m).function = .manualOpen)) := by
  have other (f k : InputFunction) : (some f == otherManual k) = true ↔
      (k = .manualOpen ∧ f = .manualClose) ∨ (k = .manualClose ∧ f = .manualOpen) := by
    cases f <;> cases k <;> decide
  unfold bothKeys
  simp only [List.any_eq_true, Bool.and_eq_true, bne_iff_ne, beq_iff_eq, mem_allInputs, true_and]
  refine exists_congr fun m => ?_
  rw [← other, beq_iff_eq]
  tauto

/-- The class, the demand and the expiry of the placement that an activation asks for, function by function (R135 to R137). -/
theorem State.activate_eq {cls : ClaimClass} (hcls : ((s.input n).function = .fireContact ∧ cls = .smoke)
      ∨ ((s.input n).function = .serviceSwitch ∧ cls = .service)
      ∨ (((s.input n).function = .manualOpen ∨ (s.input n).function = .manualClose) ∧ cls = .manual)) :
    ∃ asked, s.activate n = outcomeOf (s.placeLocal n cls asked (if cls = .manual then some (1000 * (s.input n).hold) else none))
      ∧ (cls = .smoke ∨ ((s.input n).function = .manualOpen ∧ ¬ bothKeys s n = true) → asked = .level (s.input n).level)
      ∧ ((s.input n).function = .manualClose ∧ ¬ bothKeys s n = true → asked = .level 0)
      ∧ (cls = .service ∨ (cls = .manual ∧ bothKeys s n = true) → asked = .stay) := by
  unfold State.activate
  dsimp only
  rcases hcls with ⟨hf, rfl⟩ | ⟨hf, rfl⟩ | ⟨hf | hf, rfl⟩ <;> rw [hf]
  · exact ⟨_, rfl, fun _ => rfl, by simp, by simp⟩
  · exact ⟨_, rfl, by simp, by simp, fun _ => rfl⟩
  · refine ⟨_, rfl, fun h => if_neg ?_, by simp, fun h => if_pos ?_⟩
    · simpa using h
    · simpa using h
  · refine ⟨_, rfl, by simp, fun h => if_neg h.2, fun h => if_pos ?_⟩
    simpa using h

theorem State.activate_of_none (h : (s.input n).function = .rainContact ∨ (s.input n).function = .unused) :
    s.activate n = (s, .none) := by
  unfold State.activate
  dsimp only
  rcases h with h | h <;> rw [h]

/-- Any activation changes claims alone. -/
theorem State.activate_onlyClaims (s : State) (n : InputNo) :
    OnlyClaims s (s.activate n).1 ∧ (s.activate n).1.line = s.line ∧ (s.activate n).1.weather = s.weather
      ∧ (s.activate n).1.reports = s.reports := by
  have same : OnlyClaims s s := ⟨rfl, rfl, rfl, fun _ => ⟨rfl, rfl, rfl, rfl⟩, fun _ => ⟨rfl, rfl, rfl, rfl, rfl⟩⟩
  have placed (cls : ClaimClass) (asked : Asked) (expiry : Option Nat) :
      OnlyClaims s (outcomeOf (s.placeLocal n cls asked expiry)).1
        ∧ (outcomeOf (s.placeLocal n cls asked expiry)).1.line = s.line
        ∧ (outcomeOf (s.placeLocal n cls asked expiry)).1.weather = s.weather
        ∧ (outcomeOf (s.placeLocal n cls asked expiry)).1.reports = s.reports := by
    have houtcome : (outcomeOf (s.placeLocal n cls asked expiry)).1 = (s.placeLocal n cls asked expiry).1 := by
      unfold outcomeOf
      split <;> rfl
    rw [houtcome]
    by_cases h : ∀ g, lookupGroup s.groups (s.input n).group = some g → g.admitted.admits cls = false
    · rw [State.placeLocal_withheld h]
      exact ⟨same, rfl, rfl, rfl⟩
    · obtain ⟨g, hg⟩ := not_forall.1 h
      obtain ⟨hlookup, ha⟩ := Classical.not_imp.1 hg
      obtain ⟨honly, hreports, hline, hweather, -⟩ :=
        s.placeLocal_spec (n := n) (asked := asked) (expiry := expiry) hlookup ((Bool.not_eq_false _).mp ha)
      exact ⟨honly, hline, hweather, hreports⟩
  unfold State.activate
  dsimp only
  split
  · exact placed ..
  · exact placed ..
  · exact placed ..
  · exact placed ..
  · exact ⟨same, rfl, rfl, rfl⟩
  · exact ⟨same, rfl, rfl, rfl⟩

theorem OnlyClaims.refl (s : State) : OnlyClaims s s :=
  ⟨rfl, rfl, rfl, fun _ => ⟨rfl, rfl, rfl, rfl⟩, fun _ => ⟨rfl, rfl, rfl, rfl, rfl⟩⟩

/-! ### A debounced change (R133, R139) -/

/-- The INPUT report of a change of input `n` to `a`, with the table `inputs` after it (R139). -/
theorem State.postInput_eq {inputs : PerInput InputEntry} {a : Bool} (hin : s.inputs = inputs) (ha : (inputs.get n).active = a)
    (o : InputOutcome) : s.postInput n o = s.post { kind := .input, detail := {
      b5 := byteOf (inputIndex n), b6 := if a then 1 else 0, b7 := outcomeByte o, b8 := activeByte inputs } } := by
  subst hin ha
  unfold State.postInput State.input
  cases (s.inputs.get n).active <;> rfl

theorem State.debounce_of_due {a : Bool} (hdue : (s.input n).timer = some 0)
    (ha : a = ((s.input n).pinHigh == (s.input n).activeHigh)) :
    s.debounce n =
      let t := s.setInput n { s.input n with timer := none }
      if a = (s.input n).active then t
      else if a then ((t.setActive n a).activate n).1.postInput n ((t.setActive n a).activate n).2
      else ((t.setActive n a).deactivate n).postInput n .none := by
  subst ha
  exact if_pos (timerDue_iff.2 hdue)

/-- The two writes of the entry, of its timer and of its debounced state, are one. -/
theorem State.setInput_twice (s : State) (n : InputNo) (a : Bool) :
    let t := s.setInput n { s.input n with timer := none }
    t.setInput n { t.input n with active := a } =
      { s with inputs := s.inputs.set n { s.input n with timer := none, active := a } } := by
  dsimp only
  rw [State.input_setInput_self]
  exact congrArg (fun i => { s with inputs := i }) (PerInput.set_set ..)

/-- A change of an entry that is no rain contact is not an event of the weather unit. -/
theorem State.setActive_of_not_rain {t : State} (h : (t.input n).function ≠ .rainContact) (a : Bool) :
    t.setActive n a = t.setInput n { t.input n with active := a } := by
  refine State.weatherEvent_of_same rfl ?_
  have hrain : localRain (t.setInput n { t.input n with active := a }) = localRain t := by
    refine localRain_congr fun m => ?_
    by_cases hm : m = n
    · subst hm
      rw [State.input_setInput_self]
      exact iff_of_false (fun hx => h hx.1) (fun hx => h hx.1)
    · rw [State.input, State.setInput, PerInput.get_set_ne _ _ hm]
      rfl
  show (_ || localRain _) = _
  rw [hrain]
  rfl

theorem TakeTargets.of_inputs {P : Chan → Prop} {i : PerInput InputEntry} (h : TakeTargets { s with inputs := i } u P) :
    TakeTargets s u P := h

theorem HandsOn.of_inputs {i : PerInput InputEntry} (h : HandsOn { s with inputs := i } u) : HandsOn s u := by
  unfold HandsOn at h ⊢
  split
  · next hdiffers =>
    obtain ⟨hevaluated, htargets, hreports⟩ := (if_pos hdiffers).mp h
    exact ⟨hevaluated, htargets.of_inputs, hreports.trans (State.post_reports_congr _ rfl rfl)⟩
  · next hsame => exact (if_neg hsame).mp h

/-- A change of a rain contact is one event of the weather unit (R138). -/
theorem State.setActive_spec (s : State) (n : InputNo) (a : Bool) :
    let inputs := s.inputs.set n { s.input n with timer := none, active := a }
    let u := (s.setInput n { s.input n with timer := none }).setActive n a
    OnlyClaims { s with inputs, weather := u.weather } u ∧ u.line = s.line ∧ HandsOn s u ∧ FollowsWet s u ∧ KeepsClaims s u
      ∧ u.weather = { s.weather with rainWet := u.weather.rainWet, rainTimer := u.weather.rainTimer } := by
  dsimp only
  let t := s.setInput n { s.input n with timer := none }
  obtain ⟨honly, hclaims, hline, hhands, hweather, -, hfollows⟩ :=
    t.weatherEvent_spec (fun s => s.setInput n { s.input n with active := a }) rfl
  have hinputs : (t.setInput n { t.input n with active := a }).inputs
      = s.inputs.set n { s.input n with timer := none, active := a } := congrArg State.inputs (s.setInput_twice n a)
  rw [hinputs] at honly
  refine ⟨honly, hline, hhands.of_inputs, ?_, hclaims, hweather⟩
  have hwet : (∃ m, (t.input m).function = .rainContact ∧ (t.input m).active = true)
      ↔ ∃ m, (s.input m).function = .rainContact ∧ (s.input m).active = true := by
    refine exists_congr fun m => ?_
    have hfunction : (t.input m).function = (s.input m).function := State.input_setInput_field (e := { s.input n with timer := none }) (·.function) rfl m
    have hactive : (t.input m).active = (s.input m).active := State.input_setInput_field (e := { s.input n with timer := none }) (·.active) rfl m
    rw [hfunction, hactive]
  have := hfollows rfl rfl
  unfold FollowsWet at this ⊢
  dsimp only at this ⊢
  rw [hwet] at this
  exact this

/-- The INPUT report that ends a change of claims. -/
theorem State.postInput_spec {r : State} {inputs : PerInput InputEntry} {a : Bool} (o : InputOutcome)
    (hr : OnlyClaims { s with inputs } r) (hweather : r.weather = s.weather) (hreports : r.reports = s.reports)
    (ha : (inputs.get n).active = a) :
    let report : Report := { kind := .input, detail := {
      b5 := byteOf (inputIndex n), b6 := if a then 1 else 0, b7 := outcomeByte o, b8 := activeByte inputs } }
    r.postInput n o = r.aside r.line (s.post report).reports
      ∧ OnlyClaims { s with inputs, weather := (r.postInput n o).weather } (r.postInput n o) := by
  dsimp only
  have hin : r.inputs = inputs := by rw [hr.1]
  have hsettings : r.settings = s.settings := by rw [hr.1]
  have hpost := State.postInput_eq hin ha o
  rw [State.post_eq, State.post_reports_congr _ hreports hsettings] at hpost
  refine ⟨hpost, ?_⟩
  rw [hpost]
  have hsame : ({ s with inputs, weather := r.weather } : State) = { s with inputs } := by rw [hweather]
  show OnlyClaims { s with inputs, weather := r.weather } _
  rw [hsame]
  exact hr.aside _ _

/-- Settles O46: the change is first an event of the weather unit, which only a rain contact makes, then the act of the function. -/
theorem debouncedInputActs : Obligations.DebouncedInputActs := by
  unfold Obligations.DebouncedInputActs
  intro s n e a he hdue ha
  subst he
  intro inputs report both
  have hdebounce := State.debounce_of_due hdue ha
  dsimp only at hdebounce
  refine ⟨fun hsame => ?_, fun hdiffers => ⟨s.debounce n, rfl, ?_⟩⟩
  · rw [if_pos hsame] at hdebounce
    exact congrArg Host.Outcome.next ((State.finish_eq_self (by rw [hdebounce]; rfl)).trans hdebounce)
  rw [if_neg hdiffers] at hdebounce
  have hactive : (inputs.get n).active = a := by rw [PerInput.get_set_self]
  by_cases hrain : (s.input n).function = .rainContact
  · obtain ⟨honly, hline, hhands, hfollows, hclaims, hweather⟩ := s.setActive_spec n a
    generalize hv : (s.setInput n { s.input n with timer := none }).setActive n a = v at *
    have hin : v.inputs = inputs := by rw [honly.1]
    have hfunction : (v.input n).function = .rainContact := by
      rw [State.input, hin, PerInput.get_set_self]
      exact hrain
    have hu : s.debounce n = v.post (report 0) := by
      have hdeactivate : v.deactivate n = v := if_neg (by rw [hfunction]; nofun)
      rw [hdebounce, State.activate_of_none (.inl hfunction), hdeactivate]
      split <;> exact State.postInput_eq hin hactive .none
    have hkept : s.debounce n = v.aside v.line (v.post (report 0)).reports := by rw [hu]; exact State.post_eq ..
    refine ⟨?_, ?_, fun _ => ⟨v, hhands, hfollows, hclaims, hu, hweather⟩, fun h => absurd hrain h, fun _ h => ?_,
      fun _ h => ?_, fun cls _ h => ?_⟩
    · rw [hkept]
      exact honly.aside _ _
    · rw [hkept]
      exact hline
    · rw [hrain] at h
      rcases h with h | h | h <;> cases h
    · rw [hrain] at h
      cases h
    · rw [hrain] at h
      rcases h with ⟨h, -⟩ | ⟨h, -⟩ | ⟨h | h, -⟩ <;> cases h
  · let t : State := { s with inputs }
    have ht : (s.setInput n { s.input n with timer := none }).setActive n a = t := by
      rw [State.setActive_of_not_rain (by rw [State.input_setInput_self]; exact hrain)]
      exact s.setInput_twice n a
    rw [ht] at hdebounce
    have hothers (m : InputNo) (hm : m ≠ n) : t.input m = s.input m := PerInput.get_set_ne _ _ hm
    have hself : t.input n = { s.input n with timer := none, active := a } := PerInput.get_set_self ..
    have hfunction : (t.input n).function = (s.input n).function := by rw [hself]
    cases a with
    | false =>
      rw [if_neg nofun] at hdebounce
      by_cases hservice : (s.input n).function = .serviceSwitch
      · let hit (c : Claim) : Bool := c.origin == .input n
        obtain ⟨honly, hreports, hline, htargets, hdropped, hrest, -⟩ := t.removeWhere_spec .service hit
        have hits (ch : Chan) : (∃ c, (s.chan ch).slots.get .service = some c ∧ hit c = true) ↔
            ∃ c, (s.chan ch).slots.service = some c ∧ c.origin = .input n :=
          exists_congr fun c => and_congr_right fun _ => beq_iff_eq
        rw [State.deactivate, if_pos (hfunction.trans hservice), State.removeLocal] at hdebounce
        obtain ⟨hpost, hclaims⟩ := State.postInput_spec .none honly (by rw [honly.1]) hreports hactive
        rw [← hdebounce] at hpost hclaims
        refine ⟨hclaims, by rw [hpost]; exact hline, fun h => absurd h hrain, fun _ => by rw [hpost, honly.1]; rfl,
          fun _ h => ?_, fun _ _ => ?_, nofun⟩
        · rw [hservice] at h
          rcases h with h | h | h <;> cases h
        · rw [hpost]
          obtain ⟨chs, hnodup, hmem, htaken⟩ := (htargets.of_inputs (s := s)).aside _ (s.post (report 0)).reports
          refine ⟨rfl, ⟨chs, hnodup, fun ch => (hmem ch).trans (hits ch), htaken⟩, fun ch h => ?_, fun ch h => ?_⟩
          · obtain ⟨hevaluated, hslots, hairing⟩ := hdropped ch ((hits ch).2 h)
            exact ⟨hslots, hevaluated, hairing⟩
          · refine hrest ch fun hin => ?_
            obtain ⟨c, hc, horigin⟩ := (hits ch).1 hin
            exact h c hc horigin
      · rw [State.deactivate, if_neg (fun h => hservice (hfunction.symm.trans h))] at hdebounce
        obtain ⟨hpost, hclaims⟩ := State.postInput_spec (s := s) (r := t) .none (OnlyClaims.refl t) rfl rfl hactive
        rw [← hdebounce] at hpost hclaims
        exact ⟨hclaims, by rw [hpost]; rfl, fun h => absurd h hrain, fun _ => by rw [hpost]; rfl,
          fun _ _ => by rw [hpost]; exact ⟨rfl, rfl, rfl⟩, fun _ h => absurd h hservice, nofun⟩
    | true =>
      rw [if_pos rfl] at hdebounce
      obtain ⟨honly, hline, hweather, hreports⟩ := t.activate_onlyClaims n
      obtain ⟨hpost, hclaims⟩ := State.postInput_spec (s := s) (t.activate n).2 honly hweather hreports hactive
      rw [← hdebounce] at hpost hclaims
      refine ⟨hclaims, by rw [hpost]; exact hline, fun h => absurd h hrain, fun _ => by rw [hpost]; exact hweather, nofun, nofun,
        fun cls _ hcls => ?_⟩
      rw [← hfunction] at hcls
      have hgroup : (t.input n).group = (s.input n).group := by rw [hself]
      obtain ⟨asked, hact, hlevel, hclose, hstay⟩ := t.activate_eq hcls
      have hboth : bothKeys t n = true ↔ both := by
        rw [bothKeys_iff]
        refine exists_congr fun m => and_congr_right fun hm => ?_
        rw [hothers m hm, hfunction, hgroup]
      rw [hboth, hfunction] at hlevel
      rw [hboth, hfunction] at hclose
      rw [hboth] at hstay
      refine ⟨fun h => ?_, fun g hg ha => ?_⟩
      · rw [State.placeLocal_withheld (s := t) (by rw [hgroup]; exact h)] at hact
        rw [hact] at hpost
        rw [hpost]
        exact ⟨rfl, rfl, rfl⟩
      · rw [← hgroup] at hg
        have hplaced := t.placeLocal_of_admitted (n := n) (asked := asked)
          (expiry := if cls = .manual then some (1000 * (t.input n).hold) else none) hg ha
        obtain ⟨-, -, -, -, htargets, hstored, hrest⟩ := t.placeLocal_spec (n := n) (asked := asked)
          (expiry := if cls = .manual then some (1000 * (t.input n).hold) else none) hg ha
        have hcount : (t.activate n).2 = .placed (storing t g.members).length := by rw [hact, hplaced]; rfl
        have hstate : (t.activate n).1 = (t.placeLocal n cls asked (if cls = .manual then
            some (1000 * (t.input n).hold) else none)).1 := by rw [hact, hplaced]; rfl
        rw [← hstate] at htargets hstored hrest
        rw [hcount] at hpost
        rw [hpost]
        refine ⟨?_, (htargets.of_inputs (s := s)).aside _ _, fun ch hm hs => ?_, hrest⟩
        · show (s.post (report (byteOf (16 + (storing t g.members).length)))).reports = _
          rw [length_storing]
          rfl
        · obtain ⟨hevaluated, hslots, hairing⟩ := hstored ch hm hs
          refine ⟨hevaluated, hairing, asked.demandFor (s.chan ch), hslots.trans ?_, fun h => by rw [hlevel h, hself]; rfl,
            fun h => by rw [hclose h]; rfl, fun h => ?_⟩
          · rw [localClaim, hself]
            rfl
          · rw [hstay h, ← clampPosition_eq]
            rfl

end Sys2Proof.Machine
end

section
/-! SUPPORT. The end of drive and of BRAKING: resistance, faults, and the arrival, stop and obstruction that a settled brake gives (R60 to R66, R70, R100, R107, R108). -/

namespace Sys2Proof.Machine

variable {s t u : State} {ch : Chan} {c : Channel}

/-! ### Entry into BRAKING and FAULTED, from a state that differs from the event's by the channel alone -/

theorem State.haltsMove (s : State) (reason : BrakingReason) (afterBackoff : Bool) (f : Channel → Channel) :
    HaltsMove ch (f (s.chan ch)) s ((s.modChan ch f).brake ch reason none afterBackoff) reason afterBackoff := by
  have h := (s.modChan ch f).haltsMove_brake ch reason afterBackoff
  rw [State.chan_modChan_self] at h
  exact h

theorem LegStage.isDriving_legsOnOff (l : LegStage) : (legsOnOff l).isDriving = false := by
  cases l <;> rfl

theorem State.faultChannel_eq (h : (s.chan ch).motion.state ≠ .faulted) (code : FaultCode) :
    s.faultChannel ch code = ((((s.modChan ch (fun c => c.enterFaulted code)).releaseShare ch).leaveQueue ch).postChan ch .fault
      (s.chan ch).reported (faultByte code)) := by
  unfold State.faultChannel
  rw [if_neg h]
  dsimp only
  rw [State.chan_leaveQueue, State.chan_releaseShare, State.chan_modChan_self]
  rfl

theorem State.faultsWith (s : State) (code : FaultCode) (f : Channel → Channel)
    (hstate : (f (s.chan ch)).motion.state ≠ .faulted) :
    FaultsWith ch (f (s.chan ch)) s ((s.modChan ch f).faultChannel ch code) code := by
  have hchan : (s.modChan ch f).chan ch = f (s.chan ch) := State.chan_modChan_self ..
  rw [State.faultChannel_eq (by rw [hchan]; exact hstate), hchan]
  unfold FaultsWith
  rw [State.chan_postChan, State.chan_leaveQueue, State.chan_releaseShare, State.chan_modChan_self, hchan,
    State.postChan_admission]
  refine ⟨?_, ⟨rfl, rfl, rfl, rfl, rfl, rfl, rfl, rfl, rfl, rfl, rfl⟩, LegStage.isDriving_legsOnOff _, rfl, rfl, rfl, ?_⟩
  · rw [Nat.mul_comm 10]
    rfl
  rw [State.postChan, State.chan_leaveQueue, State.chan_releaseShare, State.chan_modChan_self, hchan]
  cases code <;> exact State.post_reports_congr _ rfl rfl

/-! ### Resistance to the drive (R65, R100, R107) -/

section resistance
variable {elsewhere : State → State}

theorem inEndZone_iff {dir : Dir} : inEndZone c dir = true ↔ match dir with
    | .closing => c.travel.position ≤ (c.profile.endZone : Int)
    | .opening => (c.profile.travel : Int) - c.profile.endZone ≤ c.travel.position := by
  unfold inEndZone
  cases dir <;> exact decide_eq_true_iff

theorem State.resistance_of_reference (hstate : (s.chan ch).motion.state = .moving)
    (hkind : (s.chan ch).motion.moveKind = some .reference) :
    s.resistance ch elsewhere = s.brake ch .endReached none false := by
  unfold State.resistance
  simp [hstate, hkind]

theorem State.resistance_of_timed (hstate : (s.chan ch).motion.state = .moving)
    (hkind : (s.chan ch).motion.moveKind = some .timed) : s.resistance ch elsewhere = s.brake ch .arrive none false := by
  unfold State.resistance
  simp [hstate, hkind]

theorem State.resistance_of_positioned {dir : Dir} (hstate : (s.chan ch).motion.state = .moving)
    (hkind : (s.chan ch).motion.moveKind = some .positioned) (hdir : (s.chan ch).motion.dir = some dir) :
    s.resistance ch elsewhere
      = if inEndZone (s.chan ch) dir then s.brake ch .endReached none false else elsewhere s := by
  unfold State.resistance
  simp [hstate, hkind, hdir]

theorem State.resistance_of_backoff (hstate : (s.chan ch).motion.state = .backoff) :
    s.resistance ch elsewhere = s.brake ch .stop none true := by
  unfold State.resistance
  simp [hstate]

end resistance

/-- Settles O32: each expiry stops its timer, and is then the resistance of the move that it meets, or a fault. -/
theorem stallAndExceedance : Obligations.StallAndExceedance := by
  unfold Obligations.StallAndExceedance
  rintro s ch c rfl
  refine ⟨fun hdue => ⟨s.stallExpires ch, rfl, .stallExpires ch s, ?_⟩, fun hdue => ⟨s.filterExpires ch, rfl, .filterExpires ch s, ?_⟩,
    fun hdue hdriven => ⟨s.shortExpires ch, rfl, .shortExpires ch s, ?_⟩⟩
  · let stopped (c : Channel) : Channel := { c with travel := { c.travel with stall := none } }
    have hstall : s.stallExpires ch
        = (s.modChan ch stopped).resistance ch (fun s => s.faultChannel ch .stalled) := if_pos (timerDue_iff.2 hdue)
    have hchan : (s.modChan ch stopped).chan ch = stopped (s.chan ch) := State.chan_modChan_self ..
    rw [hstall]
    refine ⟨fun hstate hkind => ?_, fun hstate hkind dir hdir => ⟨fun hzone => ?_, fun hzone => ?_⟩, fun hstate hkind => ?_,
      fun hstate => ?_⟩
    · rw [State.resistance_of_reference (by rw [hchan]; exact hstate) (by rw [hchan]; exact hkind)]
      exact s.haltsMove .endReached false stopped
    · rw [State.resistance_of_positioned (by rw [hchan]; exact hstate) (by rw [hchan]; exact hkind) (by rw [hchan]; exact hdir),
        if_pos (by rw [hchan]; exact inEndZone_iff.2 hzone)]
      exact s.haltsMove .endReached false stopped
    · rw [State.resistance_of_positioned (by rw [hchan]; exact hstate) (by rw [hchan]; exact hkind) (by rw [hchan]; exact hdir),
        if_neg (by rw [hchan]; exact fun h => hzone (inEndZone_iff.1 h))]
      exact s.faultsWith .stalled stopped (by show (s.chan ch).motion.state ≠ _; rw [hstate]; nofun)
    · rw [State.resistance_of_timed (by rw [hchan]; exact hstate) (by rw [hchan]; exact hkind)]
      exact s.haltsMove .arrive false stopped
    · rw [State.resistance_of_backoff (by rw [hchan]; exact hstate)]
      exact s.haltsMove .stop true stopped
  · let stopped (c : Channel) : Channel :=
      { c with
        current := { c.current with filter := none },
        motion := { c.motion with timedLimit :=
          c.motion.timedLimit || (c.motion.state == .moving && c.motion.moveKind == some .timed) } }
    have hfilter : s.filterExpires ch
        = (s.modChan ch stopped).resistance ch (fun s => s.brake ch .obstruct none false) := if_pos (timerDue_iff.2 hdue)
    have hchan : (s.modChan ch stopped).chan ch = stopped (s.chan ch) := State.chan_modChan_self ..
    have halts (limit : Bool) (reason : BrakingReason) (afterBackoff : Bool) (h : ((s.chan ch).motion.timedLimit
          || ((s.chan ch).motion.state == .moving && (s.chan ch).motion.moveKind == some .timed)) = limit) :
        HaltsMove ch { s.chan ch with motion := { (s.chan ch).motion with timedLimit := limit } } s
          ((s.modChan ch stopped).brake ch reason none afterBackoff) reason afterBackoff := by
      subst h
      exact s.haltsMove (ch := ch) reason afterBackoff stopped
    rw [hfilter]
    refine ⟨fun hstate hkind => ?_, fun hstate hkind dir hdir => ⟨fun hzone => ?_, fun hzone => ?_⟩, fun hstate hkind => ?_,
      fun hstate => ?_⟩
    · rw [State.resistance_of_reference (by rw [hchan]; exact hstate) (by rw [hchan]; exact hkind)]
      exact halts (s.chan ch).motion.timedLimit .endReached false (by simp [hkind])
    · rw [State.resistance_of_positioned (by rw [hchan]; exact hstate) (by rw [hchan]; exact hkind) (by rw [hchan]; exact hdir),
        if_pos (by rw [hchan]; exact inEndZone_iff.2 hzone)]
      exact halts (s.chan ch).motion.timedLimit .endReached false (by simp [hkind])
    · rw [State.resistance_of_positioned (by rw [hchan]; exact hstate) (by rw [hchan]; exact hkind) (by rw [hchan]; exact hdir),
        if_neg (by rw [hchan]; exact fun h => hzone (inEndZone_iff.1 h))]
      exact halts (s.chan ch).motion.timedLimit .obstruct false (by simp [hkind])
    · rw [State.resistance_of_timed (by rw [hchan]; exact hstate) (by rw [hchan]; exact hkind)]
      exact halts true .arrive false (by simp [hstate, hkind])
    · rw [State.resistance_of_backoff (by rw [hchan]; exact hstate)]
      exact halts (s.chan ch).motion.timedLimit .stop true (by simp [hstate])
  · let stopped (c : Channel) : Channel := { c with current := { c.current with short := none } }
    have hchan : (s.modChan ch stopped).chan ch = stopped (s.chan ch) := State.chan_modChan_self ..
    have hshort : s.shortExpires ch = (s.modChan ch stopped).faultChannel ch .short :=
      (if_pos (timerDue_iff.2 hdue)).trans (if_pos (by rw [hchan]; exact hdriven))
    rw [hshort]
    refine s.faultsWith .short stopped (fun h => ?_)
    have hfaulted : (s.chan ch).motion.state = .faulted := h
    rw [hfaulted] at hdriven
    cases hdriven

/-- A report about a channel, as the report of a state with the same report queue. -/
theorem State.postChan_reports {sel : Selection} (k : ReportKind) (p : Option Nat) (b : Byte) (hr : t.reports = s.reports)
    (hs : t.settings = s.settings) (hand : (t.chan ch).motion.hand = sel) : (t.postChan ch k p b).reports
      = (s.post { kind := k, chan := some ch, position := p, rank := sel.winRank, detail := { b5 := b } }).reports := by
  subst hand
  exact State.post_reports_congr _ hr hs

/-! ### The end of BRAKING, by its reason (R60) -/

/-- BRAKE_SETTLE_EXPIRY on a braking channel ends BRAKING, its timer stopped first. -/
theorem State.settleExpired_of_due (hstate : (s.chan ch).motion.state = .braking)
    (htimer : (s.chan ch).motion.settleTimer = some 0) : s.settleExpired ch
      = (s.modChan ch (fun c => { c with motion := { c.motion with settleTimer := none } })).endBraking ch := by
  unfold State.settleExpired
  rw [if_pos (timerDue_iff.2 htimer)]
  exact if_pos (by rw [State.chan_modChan_self]; exact hstate)

theorem State.endBraking_of_arrive (h : (s.chan ch).motion.reason = some .arrive) : s.endBraking ch = s.endArrive ch := by
  unfold State.endBraking
  rw [h]

theorem State.endBraking_of_stop (h : (s.chan ch).motion.reason = some .stop) : s.endBraking ch = s.endStop ch := by
  unfold State.endBraking
  rw [h]

theorem State.endBraking_of_obstruct (h : (s.chan ch).motion.reason = some .obstruct) :
    s.endBraking ch = s.endObstruct ch := by
  unfold State.endBraking
  rw [h]

/-! ### The arrival (R59, R61, R62) -/

theorem learnt_eq (e coast : Nat) : learnt e coast
    = (max 0 (min 255 ((e : Int) + Int.tdiv (min (coast : Int) 255 - e) 4))).toNat := by
  unfold learnt
  push_cast
  rfl

theorem Channel.timeMove_eq (c : Channel) : c.timeMove = { c with motion := { c.motion with
    timedEst := if c.motion.moveKind = some .timed then
      min 1000 (c.motion.timedEst + c.motion.driveTime / c.profile.fullTravelTime) else c.motion.timedEst } } := by
  unfold Channel.timeMove
  split <;> rfl

theorem Channel.learn_eq (c : Channel) : c.learn = { c with motion := { c.motion with
    eOpen := if c.motion.moveKind = some .positioned ∧ c.motion.dir = some .opening then
      learnt c.motion.eOpen c.motion.coast else c.motion.eOpen
    eClose := if c.motion.moveKind = some .positioned ∧ c.motion.dir = some .closing then
      learnt c.motion.eClose c.motion.coast else c.motion.eClose } } := by
  unfold Channel.learn
  split
  · next hkind hdir => simp [hkind, hdir]
  · next hkind hdir => simp [hkind, hdir]
  · next hopening hclosing =>
    rw [if_neg (fun h => hopening h.1 h.2), if_neg (fun h => hclosing h.1 h.2)]

/-- The channel record once BRAKING(ARRIVE) has ended, before the target in hand is tested. -/
def Channel.arrived (c : Channel) : Channel :=
  let d := (c.learn.timeMove).leaveBraking .idle
  { d with motion := { d.motion with retry := 0 } }

theorem Channel.arrived_eq (c : Channel) : c.arrived = { c with
    motion := { c.motion with
      state := .idle, settleTimer := none, stop := none, moveKind := none, retry := 0
      eOpen := if c.motion.moveKind = some .positioned ∧ c.motion.dir = some .opening then
        learnt c.motion.eOpen c.motion.coast else c.motion.eOpen
      eClose := if c.motion.moveKind = some .positioned ∧ c.motion.dir = some .closing then
        learnt c.motion.eClose c.motion.coast else c.motion.eClose
      timedEst := if c.motion.moveKind = some .timed then
        min 1000 (c.motion.timedEst + c.motion.driveTime / c.profile.fullTravelTime) else c.motion.timedEst }
    drive := { c.drive with legs := legsOnOff c.drive.legs } } := by
  unfold Channel.arrived
  rw [Channel.timeMove_eq, Channel.learn_eq]
  rfl

theorem State.endArrive_eq (s : State) (ch : Chan) : s.endArrive ch =
    ((s.modChan ch Channel.arrived).postChan ch .arrived ((s.modChan ch Channel.arrived).chan ch).reported
      (if (s.chan ch).motion.timedLimit then 1 else 0)).settleAtRest ch := rfl

/-- A record that stops the brake-settle timer itself is the same once the expiry has stopped it. -/
theorem State.modChan_of_stopsTimer {f : Channel → Channel}
    (hf : ∀ c, f { c with motion := { c.motion with settleTimer := none } } = f c) (s : State) (ch : Chan) :
    (s.modChan ch (fun c => { c with motion := { c.motion with settleTimer := none } })).modChan ch f = s.modChan ch f := by
  rw [State.modChan_modChan]
  exact congrArg (s.modChan ch) (funext hf)

theorem State.settleExpired_of_arrive (hreason : (s.chan ch).motion.reason = some .arrive)
    (hstate : (s.chan ch).motion.state = .braking) (htimer : (s.chan ch).motion.settleTimer = some 0) :
    s.settleExpired ch = ((s.modChan ch Channel.arrived).postChan ch .arrived (s.chan ch).reported
      (if (s.chan ch).motion.timedLimit then 1 else 0)).settleAtRest ch := by
  have hreported : (s.chan ch).arrived.reported = (s.chan ch).reported := by rw [Channel.arrived_eq]; rfl
  rw [State.settleExpired_of_due hstate htimer, State.endBraking_of_arrive (by rw [State.chan_modChan_self]; exact hreason),
    State.endArrive_eq, State.modChan_of_stopsTimer (fun c => by rw [Channel.arrived_eq, Channel.arrived_eq]),
    State.chan_modChan_self, State.chan_modChan_self, hreported]

/-- Settles O33: the channel record at rest, its report, and the test of the target in hand. -/
theorem brakingArrives : Obligations.BrakingArrives := by
  unfold Obligations.BrakingArrives
  rintro s ch c rfl hstate htimer hreason
  have hend := State.settleExpired_of_arrive hreason hstate htimer
  let v := (s.modChan ch Channel.arrived).postChan ch .arrived (s.chan ch).reported
    (if (s.chan ch).motion.timedLimit then 1 else 0)
  have hchan : v.chan ch = (s.chan ch).arrived := by rw [State.chan_postChan, State.chan_modChan_self]
  have hadm : v.admission = s.admission := State.postChan_admission ..
  obtain ⟨hkept, hadmission, hreports⟩ := v.settleAtRest_keeps ch
  have htests := v.settleAtRest_tests ch
  rw [hchan, Channel.arrived_eq] at hkept
  rw [hadm] at hadmission htests
  have hu : s.settleExpired ch = v.settleAtRest ch := hend
  rw [← hu] at hkept hadmission hreports htests
  refine ⟨s.settleExpired ch, rfl, .settleExpired ch s, ⟨htests.not_braking, ?_⟩, htests, ?_, ?_, ?_, ?_, ?_, ?_, ?_, hadmission, ?_⟩
  · rw [hkept]
    exact ⟨rfl, rfl, rfl, rfl, rfl, rfl, rfl, rfl⟩
  · rw [hkept]; rfl
  · conv_lhs => rw [hkept]
    rw [hkept]
    rfl
  · rw [hkept]; rfl
  · rw [hkept]; rfl
  · rw [hkept]
    dsimp only [Channel.inState]
    rw [← learnt_eq]
  · rw [hkept]
    dsimp only [Channel.inState]
    rw [← learnt_eq]
  · rw [hkept]; rfl
  · rw [hreports]
    exact State.postChan_reports _ _ _ rfl rfl (by rw [State.chan_modChan_self, Channel.arrived_eq])

/-! ### The stop (R64, R67, R68) -/

/-- The channel record once BRAKING(STOP) has ended, before the target in hand is tested. -/
def Channel.stopped (c : Channel) : Channel :=
  let d := c.timeMove.leaveBraking .idle
  { d with motion := { d.motion with haltCause := none, afterBackoff := false } }

theorem Channel.stopped_eq (c : Channel) : c.stopped = { c with
    motion := { c.motion with
      state := .idle, settleTimer := none, stop := none, moveKind := none, haltCause := none, afterBackoff := false
      timedEst := if c.motion.moveKind = some .timed then
        min 1000 (c.motion.timedEst + c.motion.driveTime / c.profile.fullTravelTime) else c.motion.timedEst }
    drive := { c.drive with legs := legsOnOff c.drive.legs } } := by
  unfold Channel.stopped
  rw [Channel.timeMove_eq]
  rfl

theorem State.endStop_eq (s : State) (ch : Chan) : s.endStop ch =
    let v := (s.modChan ch Channel.stopped).postStopped ch (s.chan ch).motion.haltCause (s.chan ch).motion.byReset
    if (s.chan ch).motion.afterBackoff then v.enterDwell ch else
      match moveNeeded (v.chan ch) with
      | none => v
      | some (_, dir) => if (s.chan ch).motion.dir = some dir then v.settleAtRest ch else v.enterDwell ch := rfl

section stop
variable (hreason : (s.chan ch).motion.reason = some .stop) (hstate : (s.chan ch).motion.state = .braking)
  (htimer : (s.chan ch).motion.settleTimer = some 0)
include hreason hstate htimer

theorem State.settleExpired_of_stop : s.settleExpired ch =
    let v := (s.modChan ch Channel.stopped).postStopped ch (s.chan ch).motion.haltCause (s.chan ch).motion.byReset
    if (s.chan ch).motion.afterBackoff then v.enterDwell ch else
      match moveNeeded (s.chan ch).stopped with
      | none => v
      | some (_, dir) => if (s.chan ch).motion.dir = some dir then v.settleAtRest ch else v.enterDwell ch := by
  rw [State.settleExpired_of_due hstate htimer, State.endBraking_of_stop (by rw [State.chan_modChan_self]; exact hreason),
    State.endStop_eq, State.modChan_of_stopsTimer (fun c => by rw [Channel.stopped_eq, Channel.stopped_eq]),
    State.chan_modChan_self]
  dsimp only
  rw [State.postStopped_chan, State.chan_modChan_self]

end stop

theorem State.postStopped_admission (s : State) (ch : Chan) (cause : Option HaltCause) (byReset : Bool) :
    (s.postStopped ch cause byReset).admission = s.admission := by
  unfold State.postStopped
  cases cause <;> cases byReset <;> simp

/-- The reports of a stop, as those of the state before it (R64, R175). -/
theorem State.postStopped_reports {cause : Option HaltCause} {byReset : Bool} (hr : t.reports = s.reports)
    (hs : t.settings = s.settings) (hreported : (t.chan ch).reported = c.reported)
    (hhand : (t.chan ch).motion.hand = c.motion.hand) :
    let halted := match cause with
      | none => s
      | some cause => s.post {
          kind := .halted, chan := some ch, position := c.reported, rank := c.motion.hand.winRank,
          detail := { b5 := match cause with | .shed => 1 | .preempt => 2 | .supply => 3 | .thermal => 4 } }
    (byReset = false → (t.postStopped ch cause byReset).reports = halted.reports)
      ∧ (byReset = true → (t.postStopped ch cause byReset).reports = (halted.post {
          kind := .arrived, chan := some ch, position := c.reported, rank := c.motion.hand.winRank,
          detail := { b5 := 0 } }).reports) := by
  have halts (k : HaltCause) : (t.postChan ch .halted c.reported (haltByte k)).reports = (s.post {
      kind := .halted, chan := some ch, position := c.reported, rank := c.motion.hand.winRank,
      detail := { b5 := match k with | .shed => 1 | .preempt => 2 | .supply => 3 | .thermal => 4 } }).reports := by
    cases k <;> exact State.postChan_reports _ _ _ hr hs hhand
  unfold State.postStopped
  rw [hreported]
  cases cause with
  | none =>
    refine ⟨fun h => ?_, fun h => ?_⟩ <;> subst h
    · exact hr
    · dsimp only
      rw [if_pos rfl]
      exact State.postChan_reports _ _ _ hr hs hhand
  | some k =>
    refine ⟨fun h => ?_, fun h => ?_⟩ <;> subst h
    · exact halts k
    · dsimp only
      rw [if_pos rfl]
      exact State.postChan_reports _ _ _ (halts k) (by rw [State.postChan_settings, State.post_settings, hs])
        (by rw [State.chan_postChan, hhand])

/-- What a stop makes of the channel: DWELL, or the test of the target in hand (R64, R67, R68). -/
theorem State.settleExpired_stop_spec (hreason : (s.chan ch).motion.reason = some .stop)
    (hstate : (s.chan ch).motion.state = .braking) (htimer : (s.chan ch).motion.settleTimer = some 0) :
    let v := (s.modChan ch Channel.stopped).postStopped ch (s.chan ch).motion.haltCause (s.chan ch).motion.byReset
    let u := s.settleExpired ch
    let dwells := (s.chan ch).motion.afterBackoff = true
      ∨ ∃ k d, moveNeeded (s.chan ch).stopped = some (k, d) ∧ (s.chan ch).motion.dir ≠ some d
    u.reports = v.reports ∧ u.admission = { s.admission with queue := u.admission.queue }
      ∧ ∃ m timer, u.chan ch = { (s.chan ch).stopped with
            motion := { (s.chan ch).stopped.motion with state := m, dwellTimer := timer } } ∧ m ≠ .braking
          ∧ (dwells → m = .dwell ∧ timer = some (20 * (s.chan ch).profile.reverseUnits) ∧ u.admission = s.admission)
          ∧ (¬ dwells → timer = (s.chan ch).motion.dwellTimer ∧ TestsTarget ch s.admission.queue u) := by
  intro v u dwells
  have hend : u = _ := State.settleExpired_of_stop hreason hstate htimer
  have hchan : v.chan ch = (s.chan ch).stopped := by rw [State.postStopped_chan, State.chan_modChan_self]
  have hadm : v.admission = s.admission := State.postStopped_admission ..
  have hrecord := (s.chan ch).stopped_eq
  by_cases hdwell : dwells
  · have hu : u = v.enterDwell ch := by
      rw [hend]
      rcases hdwell with h | ⟨k, d, hneed, hdir⟩
      · exact if_pos h
      · rw [hneed]
        dsimp only
        rw [if_neg hdir, ite_self]
    have hat : u.chan ch = { (s.chan ch).stopped with motion := { (s.chan ch).stopped.motion with
        state := .dwell, dwellTimer := some (20 * (s.chan ch).profile.reverseUnits) } } := by
      rw [hu, State.enterDwell, State.chan_modChan_self, hchan, Nat.mul_comm 20, hrecord]
      rfl
    have hadmission : u.admission = s.admission := by rw [hu]; exact hadm
    exact ⟨by rw [hu]; rfl, by rw [hadmission], _, _, hat, nofun, fun _ => ⟨rfl, rfl, hadmission⟩, fun h => absurd hdwell h⟩
  · obtain ⟨hmark, hneeds⟩ := not_or.1 hdwell
    have hat {m : MotionState} (h : u.chan ch = (s.chan ch).stopped.inState m) :
        u.chan ch = { (s.chan ch).stopped with motion := { (s.chan ch).stopped.motion with
          state := m, dwellTimer := (s.chan ch).motion.dwellTimer } } := by rw [h, hrecord]; rfl
    cases hneed : moveNeeded (s.chan ch).stopped with
    | none =>
      have hu : u = v := by
        rw [hend, hneed]
        exact if_neg hmark
      have hidle : u.chan ch = (s.chan ch).stopped.inState .idle := by rw [hu, hchan, hrecord]; rfl
      have hadmission : u.admission = s.admission := by rw [hu, hadm]
      refine ⟨by rw [hu], by rw [hadmission], _, _, hat hidle, nofun, fun h => absurd h hdwell, fun _ => ⟨rfl, ?_⟩⟩
      unfold TestsTarget
      rw [hidle, moveNeeded_inState, hneed, hadmission]
      exact ⟨rfl, rfl⟩
    | some move =>
      obtain ⟨k, d⟩ := move
      have hdir : (s.chan ch).motion.dir = some d := not_not.1 fun h => hneeds ⟨k, d, hneed, h⟩
      have hu : u = v.settleAtRest ch := by
        rw [hend, hneed]
        dsimp only
        rw [if_neg hmark, if_pos hdir]
      obtain ⟨hkept, hadmission, hreports⟩ := v.settleAtRest_keeps ch
      have htests := v.settleAtRest_tests ch
      rw [← hu] at hkept hadmission hreports htests
      rw [hchan] at hkept
      rw [hadm] at hadmission htests
      exact ⟨hreports, hadmission, _, _, hat hkept, htests.not_braking, fun h => absurd h hdwell, fun _ => ⟨rfl, htests⟩⟩

/-- Settles O35: the channel record and the reports of the stop, then DWELL or the test of the target in hand. -/
theorem brakingStops : Obligations.BrakingStops := by
  unfold Obligations.BrakingStops
  rintro s ch c rfl hstate htimer hreason
  obtain ⟨hreports, hadmission, m, timer, hat, hm, hdwells, htests⟩ := State.settleExpired_stop_spec hreason hstate htimer
  have hposted := State.postStopped_reports (s := s) (t := s.modChan ch Channel.stopped) (ch := ch) (c := s.chan ch)
    (cause := (s.chan ch).motion.haltCause) (byReset := (s.chan ch).motion.byReset) rfl rfl
    (by rw [State.chan_modChan_self, Channel.stopped_eq]; rfl) (by rw [State.chan_modChan_self, Channel.stopped_eq])
  have hneeds : moveNeeded ((s.settleExpired ch).chan ch) = moveNeeded (s.chan ch).stopped := by rw [hat]; rfl
  rw [← hreports] at hposted
  rw [Channel.stopped_eq] at hat
  refine ⟨s.settleExpired ch, rfl, .settleExpired ch s, ⟨by rw [hat]; exact hm, ?_⟩, by rw [hat], by rw [hat], ?_, hadmission,
    by rw [hat], by rw [hat], by rw [hat], by rw [hat], hposted, fun h => ?_, fun hmark hdir => ?_⟩
  · rw [hat]
    exact ⟨rfl, rfl, rfl, rfl, rfl, rfl, rfl, rfl⟩
  · conv_lhs => rw [hat]
    rw [hat]
  · rw [hneeds] at h
    obtain ⟨rfl, rfl, hsame⟩ := hdwells h
    exact ⟨by rw [hat], by rw [hat], hsame⟩
  · rw [hneeds] at hdir
    obtain ⟨rfl, htested⟩ := htests (by
      rintro (h | ⟨k, d, hneed, hne⟩)
      · rw [hmark] at h; cases h
      · exact hne (hdir k d hneed))
    exact ⟨htested, by rw [hat]⟩

/-! ### The obstruction (R66, R67, R68) -/

/-- The channel record once BRAKING(OBSTRUCT) has ended below the retry limit, before it backs off or dwells. -/
def Channel.retries (c : Channel) : Channel :=
  let d := c.leaveBraking .idle
  { d with motion := { d.motion with retry := d.motion.retry + 1 } }

theorem State.endObstruct_eq (s : State) (ch : Chan) : s.endObstruct ch =
    if (s.chan ch).profile.retryLimit ≤ (s.chan ch).motion.retry then s.faultChannel ch .obstructed
    else if ((s.chan ch).profile.backoffDist = 0) then ((s.modChan ch Channel.retries).releaseShare ch).enterDwell ch
    else (s.modChan ch Channel.retries).modChan ch (fun c => c.enterBackoff s.clock.count) := rfl

section obstruct
variable (hreason : (s.chan ch).motion.reason = some .obstruct) (hstate : (s.chan ch).motion.state = .braking)
  (htimer : (s.chan ch).motion.settleTimer = some 0)
include hreason hstate htimer

theorem State.settleExpired_of_obstruct : s.settleExpired ch =
    if (s.chan ch).profile.retryLimit ≤ (s.chan ch).motion.retry then
      (s.modChan ch (fun c => { c with motion := { c.motion with settleTimer := none } })).faultChannel ch .obstructed
    else if (s.chan ch).profile.backoffDist = 0 then ((s.modChan ch Channel.retries).releaseShare ch).enterDwell ch
    else (s.modChan ch Channel.retries).modChan ch (fun c => c.enterBackoff s.clock.count) := by
  rw [State.settleExpired_of_due hstate htimer, State.endBraking_of_obstruct (by rw [State.chan_modChan_self]; exact hreason),
    State.endObstruct_eq, State.modChan_of_stopsTimer (fun _ => rfl), State.chan_modChan_self, State.modChan_clock]

end obstruct

theorem legsOnStart_eq (count : Nat) : legsOnStart count = if count = 199 then .startWait 2 else .startWait 1 := rfl

/-- The backoff is driven against the direction of the move it ends (R67). -/
theorem Channel.enterBackoff_of_opening {count : Nat} (h : c.motion.dir = some .opening) :
    (c.enterBackoff count).motion.dir = some .closing := by
  simp [Channel.enterBackoff, h]

theorem Channel.enterBackoff_of_closing {count : Nat} (h : c.motion.dir = some .closing) :
    (c.enterBackoff count).motion.dir = some .opening := by
  simp [Channel.enterBackoff, h]

/-- Settles O36: the fault at the retry limit, and below it the record that backs off or dwells. -/
theorem brakingObstructs : Obligations.BrakingObstructs := by
  unfold Obligations.BrakingObstructs
  rintro s ch c rfl hstate htimer hreason
  have hend := State.settleExpired_of_obstruct hreason hstate htimer
  refine ⟨s.settleExpired ch, rfl, .settleExpired ch s, fun hlimit => ?_, fun hlimit => ?_⟩
  · rw [hend, if_pos hlimit]
    refine s.faultsWith .obstructed _ (fun h => ?_)
    have hfaulted : (s.chan ch).motion.state = .faulted := h
    rw [hstate] at hfaulted
    cases hfaulted
  · rw [if_neg (by omega)] at hend
    by_cases hdist : (s.chan ch).profile.backoffDist = 0
    · rw [if_pos hdist] at hend
      have hat : (s.settleExpired ch).chan ch = { s.chan ch with
          motion := { (s.chan ch).motion with
            state := .dwell, dwellTimer := some (20 * (s.chan ch).profile.reverseUnits), retry := (s.chan ch).motion.retry + 1
            settleTimer := none, stop := none, moveKind := none }
          drive := { (s.chan ch).drive with legs := legsOnOff (s.chan ch).drive.legs } } := by
        rw [hend, State.enterDwell, State.chan_modChan_self, State.chan_releaseShare, State.chan_modChan_self, Nat.mul_comm 20]
        rfl
      refine ⟨⟨by rw [hat]; nofun, by rw [hat]; exact ⟨rfl, rfl, rfl, rfl, rfl, rfl, rfl, rfl⟩⟩, by rw [hend]; rfl, by rw [hat],
        by rw [hend]; rfl, fun _ => ⟨?_, by rw [hend]; rfl⟩, fun h => absurd hdist h⟩
      conv_lhs => rw [hat]
      rw [hat]
    · rw [if_neg hdist] at hend
      have hat : (s.settleExpired ch).chan ch = (s.chan ch).retries.enterBackoff s.clock.count := by
        rw [hend, State.chan_modChan_self, State.chan_modChan_self]
      refine ⟨⟨by rw [hat]; nofun, by rw [hat]; exact ⟨rfl, rfl, rfl, rfl, rfl, rfl, rfl, rfl⟩⟩, by rw [hend]; rfl, by rw [hat]; rfl,
        by rw [hend]; rfl, fun h => absurd h hdist, fun _ => ⟨fun h => ?_, fun h => ?_, ?_, by rw [hend]; rfl⟩⟩
      · rw [hat]
        exact Channel.enterBackoff_of_opening (c := (s.chan ch).retries) h
      · rw [hat]
        exact Channel.enterBackoff_of_closing (c := (s.chan ch).retries) h
      · conv_lhs => rw [hat]
        rw [hat, ← legsOnStart_eq, Nat.mul_comm 10]
        rfl

end Sys2Proof.Machine
end

section
/-! SUPPORT. Current samples (R102 to R108) and pulses (R54 to R56, R73, R95 to R99): what is counted and what a pulse decides. -/

namespace Sys2Proof.Machine

variable {s t u v : State} {ch : Chan} {c d : Channel}

/-! ### Current samples -/

theorem isDriven_cases {m : MotionState} (h : isDriven m = true) : m = .moving ∨ m = .backoff := by
  simpa [isDriven] using h

theorem filterStep_eq (timer : Option Nat) (ms limit v : Nat) :
    filterStep timer ms limit v = if limit < v then some (timer.getD ms) else none := by
  unfold filterStep
  cases timer <;> rfl

/-- The active limit of Table 5.4, row by row. -/
theorem activeLimit_of_row {limit : Nat} (h : (c.motion.state = .backoff ∧ limit = c.profile.startLimit)
      ∨ (c.motion.state = .moving ∧ c.motion.moveKind = some .reference ∧ limit = c.profile.endLimit)
      ∨ (c.motion.state = .moving ∧ c.motion.moveKind = some .timed
          ∧ limit = if c.current.startPhase then c.profile.startLimit else c.profile.runLimit)
      ∨ (c.motion.state = .moving ∧ c.motion.moveKind = some .positioned ∧ ∃ dir, c.motion.dir = some dir
          ∧ limit = if inEndZone c dir then c.profile.endLimit
              else if c.current.startPhase then c.profile.startLimit else c.profile.runLimit)) :
    activeLimit c = some limit := by
  unfold activeLimit
  rcases h with ⟨hs, rfl⟩ | ⟨hs, hk, rfl⟩ | ⟨hs, hk, rfl⟩ | ⟨hs, hk, dir, hd, rfl⟩
  · rw [hs]
  · simp [hs, hk]
  · simp [hs, hk]
  · simp [hs, hk, hd]

/-- A driven channel has an active limit. -/
theorem activeLimit_of_driven (h : isDriven c.motion.state = true) : ∃ limit, activeLimit c = some limit := by
  unfold activeLimit
  rcases isDriven_cases h with hs | hs <;> rw [hs]
  · dsimp only
    split <;> exact ⟨_, rfl⟩
  · exact ⟨_, rfl⟩

theorem Channel.sampleCurrent_of_limit {limit : Nat} (h : activeLimit c = some limit) (v : Nat) :
    c.sampleCurrent v = { c with current := { c.current with
      sample := v
      filter := if c.current.blanking.isSome then none
        else if limit < v then some (c.current.filter.getD c.profile.filter) else none
      short := if c.profile.shortLimit < v then some (c.current.short.getD 1) else none } } := by
  unfold Channel.sampleCurrent
  rw [h, ← filterStep_eq, ← filterStep_eq]

theorem Channel.sampleCurrent_of_none (h : activeLimit c = none) (v : Nat) :
    c.sampleCurrent v = { c with current := { c.current with sample := v } } := by
  unfold Channel.sampleCurrent
  rw [h]

theorem Channel.sampleCurrent_eq (c : Channel) (v : Nat) : c.sampleCurrent v = { c with current := (c.sampleCurrent v).current }
    ∧ (c.sampleCurrent v).current.sample = v ∧ (c.sampleCurrent v).current.startPhase = c.current.startPhase
    ∧ (c.sampleCurrent v).current.blanking = c.current.blanking := by
  unfold Channel.sampleCurrent
  split <;> exact ⟨rfl, rfl, rfl, rfl⟩

/-- Settles O38: the sample and, on a driven channel, its two comparisons. -/
theorem currentIsSupervised : Obligations.CurrentIsSupervised := by
  unfold Obligations.CurrentIsSupervised
  rintro s ch v c rfl hv
  obtain ⟨hrecord, hsample, hphase, hblanking⟩ := (s.chan ch).sampleCurrent_eq v
  let u := s.modChan ch (fun c => c.sampleCurrent (min v 255))
  have hu : u = { s with chans := s.chans.set ch { s.chan ch with current := ((s.chan ch).sampleCurrent v).current } } := by
    rw [← hrecord, ← Nat.min_eq_left hv]
    rfl
  have hat : (u.chan ch).current.sample = v := by
    rw [State.chan_modChan_self, Nat.min_eq_left hv, hsample]
  refine ⟨u, ((s.chan ch).sampleCurrent v).current, rfl, hu, ?_, hsample, hphase, hblanking, fun h => ?_, fun h => ?_,
    fun limit h => ?_⟩
  · rw [State.lastSampled, hat]
    rfl
  · rw [Channel.sampleCurrent_of_none (activeLimit_of_not_driven h)]
  · obtain ⟨limit, hlimit⟩ := activeLimit_of_driven h
    rw [Channel.sampleCurrent_of_limit hlimit]
  · have hrow : activeLimit (s.chan ch) = some limit := by
      refine activeLimit_of_row ?_
      rcases h with h | h | h | ⟨hs, hk, dir, hd, hlimit⟩
      · exact .inl h
      · exact .inr (.inl h)
      · exact .inr (.inr (.inl h))
      · exact .inr (.inr (.inr ⟨hs, hk, dir, hd, by cases dir <;> exact hlimit⟩))
    rw [Channel.sampleCurrent_of_limit hrow]
    exact ⟨fun hb => if_pos hb, fun hb => if_neg (by rw [hb]; nofun)⟩

/-! ### The three ways of a pulse (R73, R96) -/

theorem isTravelEvent_iff (now : Nat) : isTravelEvent c = true ↔
    (c.motion.state ≠ .disabled ∧ c.motion.state ≠ .faulted
      ∧ ((c.motion.referenced = true ∧ c.motion.dir.isSome = true
            ∧ ((c.countPulse now).travel.position = -512 ∨ (c.countPulse now).travel.position = (c.profile.travel : Int) + 512))
        ∨ (c.motion.state = .moving ∧ c.motion.moveKind = some .reference ∧ c.profile.travel + 512 < c.travel.runCount + 1))) := by
  unfold isTravelEvent
  simp only [Bool.and_eq_true, Bool.or_eq_true, bne_iff_ne, beq_iff_eq, decide_eq_true_iff, and_assoc]
  rfl

theorem atRest_iff {m : MotionState} : atRest m = true ↔ m = .idle ∨ m = .waiting ∨ m = .dwell := by
  simp [atRest, or_assoc]

theorem losesReference_iff : losesReference c = true ↔ c.motion.referenced = true
    ∧ (c.motion.state = .idle ∨ c.motion.state = .waiting ∨ c.motion.state = .dwell)
    ∧ c.profile.driftLimit < c.travel.drift + 1 := by
  unfold losesReference isDrift atRest
  simp only [Bool.and_eq_true, Bool.or_eq_true, beq_iff_eq, decide_eq_true_iff, and_assoc, or_assoc]

/-- The station once a pulse on channel `ch` is counted. -/
def State.counted (s : State) (ch : Chan) : State := s.modChan ch (fun c => c.countPulse s.clock.tenths)

theorem State.counted_chan (s : State) (ch : Chan) : (s.counted ch).chan ch = (s.chan ch).countPulse s.clock.tenths :=
  State.chan_modChan_self ..

section ways
variable (s : State) (ch : Chan)

theorem State.takePulse_of_travel (h : isTravelEvent (s.chan ch) = true) :
    s.takePulse ch = (s.counted ch).faultChannel ch .travel := if_pos h

theorem State.takePulse_of_loss (ht : ¬ isTravelEvent (s.chan ch) = true) (hl : losesReference (s.chan ch) = true) :
    s.takePulse ch = (s.counted ch).dropReference ch := (if_neg ht).trans (if_pos hl)

theorem State.takePulse_of_pulse (ht : ¬ isTravelEvent (s.chan ch) = true) (hl : ¬ losesReference (s.chan ch) = true) :
    s.takePulse ch = (s.counted ch).actOnPulse ch := (if_neg ht).trans (if_neg hl)

theorem State.pulse_of_loss (ht : ¬ isTravelEvent (s.chan ch) = true) (hl : losesReference (s.chan ch) = true) :
    s.pulse ch = (s.finish (s.takePulse ch)).finish ((s.finish (s.takePulse ch)).retarget ch) :=
  if_pos (by simp [ht, hl])

theorem State.pulse_of_not_loss (h : ¬ (¬ isTravelEvent (s.chan ch) = true ∧ losesReference (s.chan ch) = true)) :
    s.pulse ch = s.finish (s.takePulse ch) := if_neg (by simpa [and_comm] using h)

end ways

/-! ### What an ordinary pulse does, state by state (R54 to R56, R67, R73) -/

section act
variable {dir : Dir} {stop : StopPoint}

theorem State.actOnPulse_of_positioned (hs : (s.chan ch).motion.state = .moving)
    (hk : (s.chan ch).motion.moveKind = some .positioned) (hd : (s.chan ch).motion.dir = some dir)
    (hp : (s.chan ch).motion.stop = some stop) : s.actOnPulse ch =
      if (s.chan ch).motion.minimum || !stopAhead (s.chan ch) dir stop then s.brake ch .arrive none false
      else if inApproach (s.chan ch) dir stop then s.modChan ch (fun c => c.setPhase .approach) else s := by
  unfold State.actOnPulse
  simp only [hs, hk, hd, hp]

theorem State.actOnPulse_of_unpositioned (hs : (s.chan ch).motion.state = .moving)
    (h : (s.chan ch).motion.moveKind ≠ some .positioned ∨ (s.chan ch).motion.dir = none ∨ (s.chan ch).motion.stop = none) :
    s.actOnPulse ch = s := by
  unfold State.actOnPulse
  dsimp only
  rw [hs]
  dsimp only
  split
  · next hk hd hp =>
    rcases h with h | h | h
    · exact absurd hk h
    · rw [hd] at h; cases h
    · rw [hp] at h; cases h
  · rfl

theorem State.actOnPulse_of_backoff (hs : (s.chan ch).motion.state = .backoff) : s.actOnPulse ch =
    if (s.chan ch).profile.backoffDist ≤ (s.chan ch).motion.backoffCount then s.brake ch .stop none true else s := by
  unfold State.actOnPulse
  simp only [hs]

theorem State.actOnPulse_of_rest (hs : atRest (s.chan ch).motion.state = true) :
    s.actOnPulse ch = if (s.chan ch).motion.referenced then s.driftPulse ch else s := by
  unfold State.actOnPulse
  dsimp only
  cases hm : (s.chan ch).motion.state <;> rw [hm] at hs <;> first | rfl | cases hs

theorem State.actOnPulse_of_stored (hs : (s.chan ch).motion.state = .braking ∨ (s.chan ch).motion.state = .faulted
    ∨ (s.chan ch).motion.state = .disabled) : s.actOnPulse ch = s := by
  unfold State.actOnPulse
  dsimp only
  rcases hs with hs | hs | hs <;> rw [hs]

theorem State.driftPulse_of_idle (hs : (s.chan ch).motion.state = .idle) : s.driftPulse ch = s.settleAtRest ch := by
  unfold State.driftPulse
  dsimp only
  rw [hs]
  cases hm : moveNeeded (s.chan ch) with
  | none =>
    rw [State.settleAtRest_of_not_needed hm]
    exact (State.modChan_of_fixed (f := (·.inState .idle)) (Channel.inState_self hs)).symm
  | some move => rfl

theorem State.driftPulse_of_waiting_done (hs : (s.chan ch).motion.state = .waiting) (hm : moveNeeded (s.chan ch) = none) :
    s.driftPulse ch = (s.modChan ch (·.inState .idle)).leaveQueue ch := by
  unfold State.driftPulse
  dsimp only
  rw [hs, hm]
  rfl

theorem State.driftPulse_of_stored (h : (s.chan ch).motion.state = .dwell
    ∨ ((s.chan ch).motion.state = .waiting ∧ moveNeeded (s.chan ch) ≠ none)) : s.driftPulse ch = s := by
  unfold State.driftPulse
  dsimp only
  rcases h with hs | ⟨hs, hm⟩
  · rw [hs]
  · rw [hs]
    obtain ⟨move, hmove⟩ := Option.ne_none_iff_exists'.1 hm
    rw [hmove]

end act

/-- Settles O31: the three ways of a pulse, and the ordinary pulse state by state. -/
theorem pulseDecides : Obligations.PulseDecides := by
  unfold Obligations.PulseDecides
  intro s ch high hhigh c p T bound lost
  have hbound : bound ↔ isTravelEvent (s.chan ch) = true := (isTravelEvent_iff (c := s.chan ch) s.clock.tenths).symm
  have hlost : lost ↔ ¬ isTravelEvent (s.chan ch) = true ∧ losesReference (s.chan ch) = true := by
    rw [← hbound, losesReference_iff]
    rfl
  have hexec : exec (.pulse ch high) s = .next (s.pulse ch) := congrArg Host.Outcome.next (if_neg (by omega))
  let v := s.counted ch
  have hv : v.chan ch = c := s.counted_chan ch
  have ordinary (hb : ¬ bound) (hl : ¬ lost) : s.takePulse ch = v.actOnPulse ch :=
    s.takePulse_of_pulse ch (fun h => hb (hbound.2 h)) (fun h => hl (hlost.2 ⟨fun ht => hb (hbound.2 ht), h⟩))
  have moves (h : atRest c.motion.state = false) : ¬ lost := by
    rintro ⟨-, -, hrest, -⟩
    rw [atRest_iff.2 hrest] at h
    cases h
  refine ⟨s.takePulse ch, .takePulse ch s, fun h => ?_, fun h => ?_, fun h => ?_, fun hb hs hk dir stop hd hp => ?_, fun hb hs => ?_,
    fun hb h => ?_, fun h => ?_, fun hb hl href hs => ?_⟩
  · rw [hexec, State.pulse_of_not_loss _ _ (fun hx => h (hlost.2 hx))]
  · obtain ⟨ht, hl⟩ := hlost.1 h
    rw [hexec, State.pulse_of_loss _ _ ht hl]
  · rw [State.takePulse_of_travel _ _ (hbound.1 h)]
    exact s.faultsWith .travel (fun c => c.countPulse s.clock.tenths) h.2.1
  · have hact : s.takePulse ch = v.actOnPulse ch := ordinary hb (moves (by rw [hs]; rfl))
    have hactEq := State.actOnPulse_of_positioned (s := v) (by rw [hv]; exact hs) (by rw [hv]; exact hk) (by rw [hv]; exact hd)
      (by rw [hv]; exact hp)
    rw [← hact, hv] at hactEq
    refine ⟨fun h => ?_, fun hmin hahead hin => ?_, fun hmin hahead hin => ?_⟩
    · rw [hactEq, if_pos (by simpa using h)]
      exact s.haltsMove .arrive false (fun c => c.countPulse s.clock.tenths)
    · rw [hactEq, if_neg (by simp [hmin, hahead]), if_pos hin]
      refine ⟨rfl, rfl, ?_⟩
      rw [State.chan_modChan_self, hv, Channel.setPhase]
      simp
    · rw [hactEq, if_neg (by simp [hmin, hahead]), if_neg (by simp [hin])]
      exact ⟨hv, rfl, rfl⟩
  · have hact : s.takePulse ch = v.actOnPulse ch := ordinary hb (moves (by rw [hs]; rfl))
    rw [State.actOnPulse_of_backoff (by rw [hv]; exact hs), hv] at hact
    refine ⟨fun h => ?_, fun h => ?_⟩
    · rw [hact, if_pos h]
      exact s.haltsMove .stop true (fun c => c.countPulse s.clock.tenths)
    · rw [hact, if_neg (by omega)]
      exact ⟨hv, rfl, rfl⟩
  · have hsame : s.takePulse ch = v := by
      rcases h with hs | hs | hs | ⟨hs, hk⟩ | ⟨href, hs⟩
      · exact (ordinary hb (moves (by rw [hs]; rfl))).trans (State.actOnPulse_of_stored (by rw [hv]; exact .inl hs))
      · exact (ordinary hb (moves (by rw [hs]; rfl))).trans (State.actOnPulse_of_stored (by rw [hv]; exact .inr (.inl hs)))
      · exact (ordinary hb (moves (by rw [hs]; rfl))).trans (State.actOnPulse_of_stored (by rw [hv]; exact .inr (.inr hs)))
      · exact (ordinary hb (moves (by rw [hs]; rfl))).trans
          (State.actOnPulse_of_unpositioned (by rw [hv]; exact hs) (by rw [hv]; exact hk))
      · refine (ordinary hb fun hl => ?_).trans ((State.actOnPulse_of_rest (by rw [hv]; exact atRest_iff.2 hs)).trans
          (if_neg (by rw [hv, href]; nofun)))
        obtain ⟨-, hr, -⟩ := hl
        rw [href] at hr
        cases hr
    rw [hsame]
    exact ⟨hv, rfl, rfl⟩
  · obtain ⟨ht, hl⟩ := hlost.1 h
    obtain ⟨-, -, hrest, -⟩ := h
    rw [State.takePulse_of_loss _ _ ht hl]
    by_cases hw : c.motion.state = .waiting
    · rw [State.dropReference_of_waiting (s := v) (by rw [hv]; exact hw), State.chan_leaveQueue, State.chan_postChan,
        State.chan_modChan_self, hv, if_pos hw, if_pos hw]
      refine ⟨rfl, ?_, State.postChan_reports _ _ _ rfl rfl (by rw [State.chan_modChan_self, hv]; rfl)⟩
      rw [State.leaveQueue, State.setQueue, State.postChan_admission]
      rfl
    · rw [State.dropReference_of_not_waiting (s := v) (by rw [hv]; exact hw), State.chan_postChan, State.chan_modChan_self, hv,
        if_neg hw, if_neg hw]
      exact ⟨rfl, State.postChan_admission .., State.postChan_reports _ _ _ rfl rfl (by rw [State.chan_modChan_self, hv]; rfl)⟩
  · have hdrift : c.travel.drift = min ((s.chan ch).travel.drift + 1) 255 :=
      if_pos (by unfold isDrift; rw [show (s.chan ch).motion.referenced = true from href,
        show atRest (s.chan ch).motion.state = true from atRest_iff.2 hs]; rfl)
    have hact : s.takePulse ch = v.driftPulse ch := (ordinary hb hl).trans
      ((State.actOnPulse_of_rest (by rw [hv]; exact atRest_iff.2 hs)).trans (if_pos (by rw [hv]; exact href)))
    by_cases hidle : c.motion.state = .idle
    · obtain ⟨hkept, hadmission, hreports⟩ := v.settleAtRest_keeps ch
      have htests := v.settleAtRest_tests ch
      rw [← State.driftPulse_of_idle (by rw [hv]; exact hidle), ← hact] at hkept hadmission hreports htests
      rw [hv] at hkept
      refine ⟨hreports, by rw [hkept]; exact href, hadmission, hkept, by rw [hkept]; exact hdrift, fun _ => htests, fun h => ?_,
        fun h => ?_⟩
      · rw [hidle] at h; cases h
      · rw [hidle] at h
        rcases h with h | ⟨h, -⟩ <;> cases h
    · by_cases hdone : c.motion.state = .waiting ∧ moveNeeded c = none
      · obtain ⟨hw, hm⟩ := hdone
        rw [State.driftPulse_of_waiting_done (by rw [hv]; exact hw) (by rw [hv]; exact hm)] at hact
        have hkept : (s.takePulse ch).chan ch = c.inState .idle := by
          rw [hact, State.chan_leaveQueue, State.chan_modChan_self, hv]
        refine ⟨by rw [hact]; rfl, by rw [hkept]; exact href, by rw [hact]; rfl, by rw [hkept]; rfl, by rw [hkept]; exact hdrift,
          fun h => absurd h hidle, fun _ _ => ⟨by rw [hkept]; rfl, by rw [hact]; rfl⟩, fun h => ?_⟩
        rcases h with h | ⟨-, h⟩
        · rw [hw] at h; cases h
        · exact absurd hm h
      · have hstored : c.motion.state = .dwell ∨ (c.motion.state = .waiting ∧ moveNeeded c ≠ none) := by
          rcases hs with h | h | h
          · exact absurd h hidle
          · exact .inr ⟨h, fun hm => hdone ⟨h, hm⟩⟩
          · exact .inl h
        rw [State.driftPulse_of_stored (by rw [hv]; exact hstored)] at hact
        rw [hact, hv]
        exact ⟨rfl, href, rfl, rfl, hdrift, fun h => absurd h hidle, fun h hm => absurd ⟨h, hm⟩ hdone, fun _ => ⟨rfl, rfl⟩⟩

/-! ### What is counted stays counted, whatever the pulse decides (R95, R98, R99) -/

/-- The record `d` keeps what the pulse counted in `c`: the travel counts, the backoff count, and the timer of the state it is in. -/
structure Counted (c d : Channel) : Prop where
  position : d.travel.position = c.travel.position
  lastPulse : d.travel.lastPulse = c.travel.lastPulse
  period : d.travel.period = c.travel.period
  runCount : d.travel.runCount = c.travel.runCount
  backoffCount : d.motion.backoffCount = c.motion.backoffCount
  stall : isDriven d.motion.state = true → d.travel.stall = c.travel.stall
  braking : c.motion.state = .braking → d.motion.state = .braking →
    d.motion.coast = c.motion.coast ∧ d.motion.settleTimer = c.motion.settleTimer
  faulted : c.motion.state = .faulted → d.motion.restTimer = c.motion.restTimer

namespace Counted

theorem refl (c : Channel) : Counted c c := ⟨rfl, rfl, rfl, rfl, rfl, fun _ => rfl, fun _ _ => ⟨rfl, rfl⟩, fun _ => rfl⟩

theorem inState (c : Channel) (m : MotionState) : Counted c (c.inState m) :=
  ⟨rfl, rfl, rfl, rfl, rfl, fun _ => rfl, fun _ _ => ⟨rfl, rfl⟩, fun _ => rfl⟩

theorem loseReference (c : Channel) (m : MotionState) : Counted c (c.loseReference m) :=
  ⟨rfl, rfl, rfl, rfl, rfl, fun _ => rfl, fun _ _ => ⟨rfl, rfl⟩, fun _ => rfl⟩

theorem setPhase (c : Channel) (phase : PhaseLevel) : Counted c (c.setPhase phase) :=
  ⟨rfl, rfl, rfl, rfl, rfl, fun _ => rfl, fun _ _ => ⟨rfl, rfl⟩, fun _ => rfl⟩

theorem brake {reason : BrakingReason} {b : Bool} (hc : isDriven (s.chan ch).motion.state = true) :
    Counted (s.chan ch) ((s.brake ch reason none b).chan ch) := by
  obtain ⟨hmotion, -, -, htravel, -⟩ := s.haltsMove_brake ch reason b
  have hdriven := isDriven_cases hc
  refine ⟨by rw [htravel], by rw [htravel], by rw [htravel], by rw [htravel], by rw [hmotion], fun h => ?_, fun h => ?_,
    fun h => ?_⟩
  · rw [hmotion] at h; cases h
  · rw [h] at hdriven; rcases hdriven with h | h <;> cases h
  · rw [h] at hdriven; rcases hdriven with h | h <;> cases h

theorem fault {code : FaultCode} (hc : (s.chan ch).motion.state ≠ .faulted) :
    Counted (s.chan ch) ((s.faultChannel ch code).chan ch) := by
  have hfaults := s.faultsWith (ch := ch) code (fun c => c) hc
  rw [State.modChan_id] at hfaults
  obtain ⟨hmotion, -, -, htravel, -⟩ := hfaults
  refine ⟨by rw [htravel], by rw [htravel], by rw [htravel], by rw [htravel], by rw [hmotion], fun h => ?_, fun _ h => ?_,
    fun h => absurd h hc⟩
  · rw [hmotion] at h; cases h
  · rw [hmotion] at h; cases h

theorem dropReference : Counted (s.chan ch) ((s.dropReference ch).chan ch) := by
  by_cases hw : (s.chan ch).motion.state = .waiting
  · rw [State.dropReference_of_waiting hw, State.chan_leaveQueue, State.chan_postChan, State.chan_modChan_self]
    exact .loseReference ..
  · rw [State.dropReference_of_not_waiting hw, State.chan_postChan, State.chan_modChan_self]
    exact .loseReference ..

theorem driftPulse : Counted (s.chan ch) ((s.driftPulse ch).chan ch) := by
  unfold State.driftPulse
  dsimp only
  split
  · rw [(s.settleAtRest_keeps ch).1]
    exact .inState ..
  · rw [State.chan_leaveQueue, State.chan_modChan_self]
    exact .inState ..
  · exact .refl _

theorem actOnPulse : Counted (s.chan ch) ((s.actOnPulse ch).chan ch) := by
  unfold State.actOnPulse
  dsimp only
  split
  · next hs =>
    split
    · split
      · exact .brake (by rw [hs]; rfl)
      · split
        · rw [State.chan_modChan_self]
          exact .setPhase ..
        · exact .refl _
    · exact .refl _
  · next hs =>
    split
    · exact .brake (by rw [hs]; rfl)
    · exact .refl _
  · split
    · exact driftPulse
    · exact .refl _
  · split
    · exact driftPulse
    · exact .refl _
  · split
    · exact driftPulse
    · exact .refl _
  · exact .refl _

theorem takePulse (s : State) (ch : Chan) : Counted ((s.chan ch).countPulse s.clock.tenths) ((s.takePulse ch).chan ch) := by
  rw [← State.counted_chan]
  by_cases ht : isTravelEvent (s.chan ch) = true
  · rw [State.takePulse_of_travel _ _ ht]
    exact .fault (by rw [State.counted_chan]; exact (isTravelEvent_state ht).2)
  · by_cases hl : losesReference (s.chan ch) = true
    · rw [State.takePulse_of_loss _ _ ht hl]
      exact dropReference
    · rw [State.takePulse_of_pulse _ _ ht hl]
      exact actOnPulse

end Counted

theorem counterAfter_of_unmoved (h : c.motion.state = .disabled ∨ c.motion.dir = none) : counterAfter c = c.travel.position := by
  unfold counterAfter
  rcases h with h | h
  · rw [if_pos h]
  · rw [h, ite_self]

/-- Settles O30: the counting itself, which nothing that the pulse decides takes back. -/
theorem pulseIsCounted : Obligations.PulseIsCounted := by
  unfold Obligations.PulseIsCounted
  intro s ch high
  refine ⟨fun h => congrArg Host.Outcome.next (if_pos h), fun h => ?_⟩
  have hexec : exec (.pulse ch high) s = .next (s.pulse ch) := congrArg Host.Outcome.next (if_neg (by omega))
  have hcounted := Counted.takePulse s ch
  refine ⟨s.takePulse ch, .takePulse ch s, ?_, fun hs hd => ?_, fun hs hd => ?_, fun hu => ?_, hcounted.lastPulse, fun hp => ?_,
    fun p hp => ?_, hcounted.runCount, hcounted.backoffCount, fun hc hd => ?_, fun hc hd => ?_, fun hc => ?_⟩
  · by_cases hl : ¬ isTravelEvent (s.chan ch) = true ∧ losesReference (s.chan ch) = true
    · exact .inr (by rw [hexec, State.pulse_of_loss _ _ hl.1 hl.2])
    · exact .inl (by rw [hexec, State.pulse_of_not_loss _ _ hl])
  · rw [hcounted.position]
    show counterAfter (s.chan ch) = _
    rw [counterAfter, if_neg hs, hd]
  · rw [hcounted.position]
    show counterAfter (s.chan ch) = _
    rw [counterAfter, if_neg hs, hd]
  · exact hcounted.position.trans (counterAfter_of_unmoved hu)
  · rw [hcounted.period]
    show (match (s.chan ch).travel.lastPulse with | none => _ | some p => _) = _
    rw [hp]
  · rw [hcounted.period]
    show (match (s.chan ch).travel.lastPulse with | none => _ | some p => _) = _
    rw [hp]
    rfl
  · rw [hcounted.stall hd, Nat.mul_comm 10]
    exact if_pos hc
  · obtain ⟨hcoast, hsettle⟩ := hcounted.braking hc hd
    rw [hcoast, hsettle, Nat.mul_comm 10]
    exact ⟨if_pos hc, if_pos hc⟩
  · rw [hcounted.faulted hc, Nat.mul_comm 10]
    exact if_pos hc

end Sys2Proof.Machine
end

section
/-! SUPPORT. Re-targets (R49 to R52, R57 to R59), in MOVING and outside it, and the admitted head of the start queue (R53 to R55, R80). -/

namespace Sys2Proof.Machine

variable {s t u v w : State} {ch : Chan} {c d : Channel}

/-! ### The place of an entry in the start queue (R75) -/

/-- An entry stands before the first entry that it precedes. -/
theorem insertEntry_split (e : QueueEntry) (q : List QueueEntry) : ∃ a b, q = a ++ b ∧ insertEntry e q = a ++ e :: b
    ∧ (∀ x ∈ a, queueBefore e x = false) ∧ ∀ x rest, b = x :: rest → queueBefore e x = true := by
  induction q with
  | nil => exact ⟨[], [], rfl, rfl, nofun, nofun⟩
  | cons x xs ih =>
    cases h : queueBefore e x with
    | true =>
      refine ⟨[], x :: xs, rfl, by simp [insertEntry, h], nofun, fun y rest hy => ?_⟩
      cases hy
      exact h
    | false =>
      obtain ⟨a, b, rfl, hinsert, hbefore, hafter⟩ := ih
      refine ⟨x :: a, b, rfl, by simp [insertEntry, h, hinsert], fun y hy => ?_, hafter⟩
      rcases List.mem_cons.1 hy with rfl | hy
      · exact h
      · exact hbefore y hy

/-! ### What a re-target takes in hand, and the rank that it passes on (R49) -/

theorem Channel.takeInHand_eq (x : Weather) (c : Channel) : c.takeInHand x = { c with
    selected := evaluate x c
    motion := { c.motion with
      hand := evaluate x c
      retry := if c.motion.hand.target = (evaluate x c).target then c.motion.retry else 0 } } := by
  unfold Channel.takeInHand
  by_cases h : c.motion.hand.target = (evaluate x c).target <;> simp [h]

/-- A re-target of a channel that is not DISABLED: it takes the evaluation in hand, acts on it, and passes its rank on. -/
theorem State.retarget_eq (h : (s.chan ch).motion.state ≠ .disabled) : s.retarget ch =
    ((s.modChan ch (·.takeInHand s.weather)).actOnTarget ch
      ((s.chan ch).motion.hand.target != (evaluate s.weather (s.chan ch)).target)).passRank ch
        (evaluate s.weather (s.chan ch)).queueRank := by
  unfold State.retarget State.takeTarget
  simp only [State.chan_modChan_self, h, if_false, State.modChan_modChan]
  rfl

theorem State.retarget_of_disabled (h : (s.chan ch).motion.state = .disabled) : s.retarget ch = s.modChan ch (fun c =>
    { c with selected := evaluate s.weather (s.chan ch), motion := { c.motion with hand := {} } }) := by
  unfold State.retarget State.takeTarget
  simp only [State.chan_modChan_self, h, if_true, State.modChan_modChan]

theorem State.passRank_queue (s : State) (ch : Chan) (r : Option Nat) : (s.passRank ch r).admission.queue = s.admission.queue := by
  rw [State.passRank_admission]

theorem State.passRank_holders (s : State) (ch : Chan) (r : Nat) : (s.passRank ch (some r)).admission.holders
    = s.admission.holders.map (fun e => if e.chan = ch then { e with rank := r } else e) := by
  unfold State.passRank
  split
  · rfl
  · next h =>
    refine (List.map_id' _).symm.trans (List.map_congr_left fun e he => (if_neg fun hch => h ?_).symm)
    exact List.any_eq_true.2 ⟨e, he, beq_iff_eq.2 hch⟩

/-! ### The act on a target, outside MOVING (R51, R52) -/

theorem State.actOnTarget_of_waiting_needed {move : MoveKind × Dir} (h : (w.chan ch).motion.state = .waiting)
    (hm : moveNeeded (w.chan ch) = some move) (changed : Bool) :
    w.actOnTarget ch changed = w.resortQueue ch ((w.chan ch).motion.hand.queueRank.getD 6) := by
  unfold State.actOnTarget
  rw [h]
  dsimp only
  rw [hm]

theorem State.actOnTarget_of_waiting_done (h : (w.chan ch).motion.state = .waiting) (hm : moveNeeded (w.chan ch) = none)
    (changed : Bool) : w.actOnTarget ch changed = (w.modChan ch (·.inState .idle)).leaveQueue ch := by
  unfold State.actOnTarget
  rw [h]
  dsimp only
  rw [hm]
  rfl

theorem State.actOnTarget_of_stored (h : (w.chan ch).motion.state = .braking ∨ (w.chan ch).motion.state = .dwell
    ∨ (w.chan ch).motion.state = .backoff ∨ (w.chan ch).motion.state = .faulted) (changed : Bool) :
    w.actOnTarget ch changed = w := by
  unfold State.actOnTarget
  rcases h with h | h | h | h <;> rw [h]

theorem State.resortQueue_of_entry {e : QueueEntry} (h : findChan ch w.admission.queue = some e) (r : Nat) :
    (w.resortQueue ch r).admission.queue = insertEntry { e with rank := r } (dropChan ch w.admission.queue) := by
  unfold State.resortQueue
  rw [h]
  rfl

theorem State.resortQueue_holders (w : State) (ch : Chan) (r : Nat) :
    (w.resortQueue ch r).admission.holders = w.admission.holders := by
  unfold State.resortQueue
  split <;> rfl

/-- Outside MOVING the act on a target leaves the share holders. -/
theorem State.actOnTarget_holders (h : (w.chan ch).motion.state ≠ .moving) (changed : Bool) :
    (w.actOnTarget ch changed).admission.holders = w.admission.holders := by
  unfold State.actOnTarget
  split
  · split <;> rfl
  · split
    · exact State.resortQueue_holders ..
    · rfl
  · next hm => exact absurd hm h
  · rfl

/-- Settles O27: the order of the queue, then the re-target state by state. -/
theorem retargetOutsideMoving : Obligations.RetargetOutsideMoving := by
  unfold Obligations.RetargetOutsideMoving
  refine ⟨queueBefore_iff, insertEntry_split, fun s ch hmoving => ?_⟩
  intro sel old u c
  have hretargets := State.Retargets.retarget ch s
  have hc : (s.chan ch).takeInHand s.weather = c := Channel.takeInHand_eq ..
  let w := s.modChan ch (·.takeInHand s.weather)
  have hw : w.chan ch = c := (State.chan_modChan_self ..).trans hc
  have hu (h : old.state ≠ .disabled) :
      u = (w.actOnTarget ch (old.hand.target != sel.target)).passRank ch sel.queueRank := State.retarget_eq h
  refine ⟨hretargets.rest, hretargets.others, hretargets.reports, hretargets.gate.1, hretargets.gate.2, fun h => ?_, fun h => ?_,
    fun h hm => ?_, fun h hm => ?_, fun h => ?_, fun h r hr => ?_⟩
  · have hdisabled : u = _ := State.retarget_of_disabled h
    rw [hdisabled, State.chan_modChan_self]
    exact ⟨rfl, rfl⟩
  · obtain ⟨hkept, -, -⟩ := w.settleAtRest_keeps ch
    have htests := (w.settleAtRest_tests ch).passRank sel.queueRank
    rw [← State.actOnTarget_of_idle (by rw [hw]; exact h), ← hu (by rw [h]; nofun)] at htests
    rw [← State.actOnTarget_of_idle (by rw [hw]; exact h) (old.hand.target != sel.target), ← State.passRank_chan _ ch ch sel.queueRank,
      ← hu (by rw [h]; nofun), hw] at hkept
    exact ⟨hkept, htests⟩
  · obtain ⟨move, hmove⟩ := Option.isSome_iff_exists.1 hm
    rw [hu (by rw [h]; nofun), State.actOnTarget_of_waiting_needed (by rw [hw]; exact h) (by rw [hw]; exact hmove),
      State.passRank_chan, State.passRank_queue, State.chan_resortQueue, hw]
    exact ⟨rfl, fun e he => State.resortQueue_of_entry (w := w) he _⟩
  · rw [hu (by rw [h]; nofun), State.actOnTarget_of_waiting_done (by rw [hw]; exact h) (by rw [hw]; exact hm),
      State.passRank_chan, State.passRank_queue, State.chan_leaveQueue, State.chan_modChan_self, hw]
    exact ⟨rfl, rfl⟩
  · have henabled : old.state ≠ .disabled := by rcases h with h | h | h | h <;> rw [h] <;> nofun
    rw [hu henabled, State.actOnTarget_of_stored (by rw [hw]; exact h), State.passRank_chan, State.passRank_queue, hw]
    exact ⟨rfl, rfl⟩
  · rw [hu h, hr, State.passRank_holders, State.actOnTarget_holders (by rw [hw]; exact hmoving)]
    rfl

/-! ### A re-target in MOVING (R57 to R59) -/

section moving
variable {changed : Bool} {dir : Dir}

/-- A move that stops holds no share to pass a rank on for. -/
theorem State.passRank_brake {reason : BrakingReason} (h : reason ≠ .obstruct) (cause : Option HaltCause) (b : Bool) (w : State)
    (r : Option Nat) : (w.brake ch reason cause b).passRank ch r = w.brake ch reason cause b := by
  refine State.passRank_of_not_holder (fun e he => ?_) r
  have hholders : (w.brake ch reason cause b).admission.holders = dropChan ch w.admission.holders := by
    unfold State.brake
    rw [if_neg h]
    rfl
  rw [hholders] at he
  exact (mem_dropChan.1 he).2

theorem State.retargetMoving_of_unchanged (hk : (w.chan ch).motion.moveKind = some .positioned)
    (hd : (w.chan ch).motion.dir = some dir) : w.retargetMoving ch false = w := by
  unfold State.retargetMoving
  simp [hk, hd]

theorem State.retargetMoving_of_pulses {n : Nat} (hch : changed = true) (hk : (w.chan ch).motion.moveKind = some .positioned)
    (hd : (w.chan ch).motion.dir = some dir) (ht : (w.chan ch).motion.hand.target = .pulses n) :
    w.retargetMoving ch changed = if canFollow (w.chan ch) dir n then w.modChan ch (fun c => c.follow dir n)
      else w.brake ch .stop none false := by
  subst hch
  unfold State.retargetMoving
  simp [hk, hd, ht]

theorem State.retargetMoving_of_other (hch : changed = true) (hk : (w.chan ch).motion.moveKind = some .positioned)
    (hd : (w.chan ch).motion.dir = some dir) (ht : ∀ n, (w.chan ch).motion.hand.target ≠ .pulses n) :
    w.retargetMoving ch changed = w.brake ch .stop none false := by
  subst hch
  unfold State.retargetMoving
  dsimp only
  rw [hk, hd]
  dsimp only
  rw [if_pos rfl]
  cases h : (w.chan ch).motion.hand.target with
  | pulses n => exact absurd h (ht n)
  | none | level => rfl

theorem State.retargetMoving_reference_none (hk : (w.chan ch).motion.moveKind = some .reference)
    (ht : (w.chan ch).motion.hand.target = .none) : w.retargetMoving ch changed = w.brake ch .stop none false := by
  unfold State.retargetMoving
  simp [hk, ht]

theorem State.retargetMoving_reference_level {n : Nat} (hk : (w.chan ch).motion.moveKind = some .reference)
    (ht : (w.chan ch).motion.hand.target = .level n) : w.retargetMoving ch changed =
      if (w.chan ch).motion.hand.winRank = some 1 ∧ 0 < n then w.brake ch .stop none false else w := by
  unfold State.retargetMoving
  simp [hk, ht]

theorem State.retargetMoving_timed_other (hk : (w.chan ch).motion.moveKind = some .timed)
    (ht : ∀ n, (w.chan ch).motion.hand.target ≠ .level n) : w.retargetMoving ch changed = w.brake ch .stop none false := by
  unfold State.retargetMoving
  dsimp only
  rw [hk]
  cases h : (w.chan ch).motion.hand.target with
  | level n => exact absurd h (ht n)
  | none | pulses => rfl

theorem State.retargetMoving_timed_level {n : Nat} (hk : (w.chan ch).motion.moveKind = some .timed)
    (ht : (w.chan ch).motion.hand.target = .level n) : w.retargetMoving ch changed =
      let duration := (n - (w.chan ch).motion.timedEst) * (w.chan ch).profile.fullTravelTime
      let lasting := w.modChan ch (fun c => { c with motion := { c.motion with duration } })
      if (w.chan ch).motion.hand.winRank = some 1 ∧ (w.chan ch).motion.timedEst < n then
        if duration ≤ (w.chan ch).motion.moveTimer.getD 0 then lasting.brake ch .arrive none false else lasting
      else w.brake ch .stop none false := by
  unfold State.retargetMoving
  simp [hk, ht]

/-- A re-target in MOVING ends the move, or leaves the admission unit. -/
theorem State.retargetMoving_cases (w : State) (ch : Chan) (changed : Bool) :
    (∃ (v : State) (reason : BrakingReason), reason ≠ .obstruct ∧ w.retargetMoving ch changed = v.brake ch reason none false)
      ∨ (w.retargetMoving ch changed).admission = w.admission := by
  have stops : ∃ (v : State) (reason : BrakingReason), reason ≠ .obstruct ∧ w.brake ch .stop none false = v.brake ch reason none false :=
    ⟨w, .stop, nofun, rfl⟩
  unfold State.retargetMoving
  dsimp only
  split
  · split
    · split
      · split
        · exact .inr rfl
        · exact .inl stops
      · exact .inl stops
    · exact .inr rfl
  · split
    · split
      · split
        · exact .inl ⟨_, .arrive, nofun, rfl⟩
        · exact .inr rfl
      · exact .inl stops
    · exact .inl stops
  · split
    · exact .inl stops
    · split
      · exact .inl stops
      · exact .inr rfl
    · exact .inr rfl

/-- When a positioned move follows a re-target (R57). -/
theorem canFollow_iff {n : Nat} : canFollow c dir n = true ↔ match dir with
    | .opening => (c.profile.deadband : Int) < (n : Int) - c.travel.position ∧ c.travel.position < (n : Int) - c.motion.eOpen
    | .closing => (c.profile.deadband : Int) < c.travel.position - (n : Int)
        ∧ (n = 0 ∨ (n : Int) + c.motion.eClose < c.travel.position) := by
  unfold canFollow dirToward beyondDeadband
  cases dir with
  | opening =>
    simp only [stopFor, stopAhead, Bool.and_eq_true, decide_eq_true_iff, beq_iff_eq]
    split <;> simp <;> omega
  | closing =>
    simp only [stopFor, Bool.and_eq_true, decide_eq_true_iff, beq_iff_eq]
    by_cases hn : n = 0
    · subst hn
      simp only [if_true, stopAhead]
      split <;> simp <;> omega
    · simp only [if_neg hn, stopAhead, decide_eq_true_iff]
      split <;> simp <;> omega

theorem Channel.follow_eq (c : Channel) (dir : Dir) (n : Nat) : c.follow dir n = { c with
    motion := { c.motion with stop := some (stopFor c dir n), minimum := false }
    current := if inApproach c dir (stopFor c dir n) then { c.current with startPhase := false } else c.current
    drive := { c.drive with phase := some (if inApproach c dir (stopFor c dir n) then .approach else .run) } } := by
  unfold Channel.follow Channel.setPhase
  dsimp only
  split <;> simp

end moving

/-- Settles O28: the act on the target, move kind by move kind; a move that goes on keeps its share and passes its rank on. -/
theorem retargetWhileMoving : Obligations.RetargetWhileMoving := by
  unfold Obligations.RetargetWhileMoving
  intro s ch hmoving sel old u c halts
  have hretargets := State.Retargets.retarget ch s
  have hc : (s.chan ch).takeInHand s.weather = c := Channel.takeInHand_eq ..
  let w := s.modChan ch (·.takeInHand s.weather)
  let changed := old.hand.target != sel.target
  have hw : w.chan ch = c := (State.chan_modChan_self ..).trans hc
  have hwmoving : (w.chan ch).motion.state = .moving := by rw [hw]; exact hmoving
  have hact : w.actOnTarget ch changed = w.retargetMoving ch changed := by
    unfold State.actOnTarget
    rw [hwmoving]
  have hu : u = (w.retargetMoving ch changed).passRank ch sel.queueRank := by
    rw [← hact]
    exact State.retarget_eq (by rw [hmoving]; nofun)
  have stops (h : w.retargetMoving ch changed = w.brake ch .stop none false) : halts := by
    have hbraked := s.haltsMove .stop false (·.takeInHand s.weather) (ch := ch)
    rw [hc] at hbraked
    show HaltsMove ch c s u .stop
    rw [hu, h, State.passRank_brake (by nofun)]
    exact hbraked
  have stays (h : w.retargetMoving ch changed = w) : u.chan ch = c := by rw [hu, h, State.passRank_chan, hw]
  refine ⟨.retarget ch s, hretargets.reports, hretargets.gate.1, hretargets.gate.2, fun h => ?_, fun hk dir hd => ⟨fun hsame => ?_,
    fun hne n hn => ?_, fun hne hn => ?_⟩, fun hk => ⟨fun hn => ?_, fun n hn h1 h2 => ?_, fun n hn h => ?_⟩,
    fun hk => ⟨fun hn => ?_, fun n hn => ⟨fun h => ?_, fun h1 h2 e he => ⟨fun hless => ?_, fun hover => ?_⟩⟩⟩⟩
  · rw [hu, State.passRank_chan] at h
    rcases w.retargetMoving_cases ch changed with ⟨v, reason, hreason, hv⟩ | hadmission
    · obtain ⟨hmotion, -⟩ := v.haltsMove_brake ch reason false
      rw [hv, hmotion] at h
      cases h
    · refine ⟨by rw [hu, State.passRank_queue, hadmission]; rfl, fun r hr => ?_⟩
      rw [hu, hr, State.passRank_holders, hadmission]
      rfl
  · refine stays ?_
    have hunchanged : changed = false := by simp [changed, hsame]
    rw [hunchanged]
    exact State.retargetMoving_of_unchanged (by rw [hw]; exact hk) (by rw [hw]; exact hd)
  · have hchanged : changed = true := bne_iff_ne.2 (Ne.symm hne)
    have hmove := State.retargetMoving_of_pulses (w := w) hchanged (by rw [hw]; exact hk) (by rw [hw]; exact hd)
      (by rw [hw]; exact hn)
    rw [hw] at hmove
    intro stop follows
    have hfollows : canFollow c dir n = true ↔ follows :=
      canFollow_iff.trans (by cases dir <;> rfl)
    have hstop : stopFor c dir n = stop := by cases dir <;> rfl
    refine ⟨fun h => ?_, fun h => stops (hmove.trans (if_neg fun hf => h (hfollows.1 hf)))⟩
    rw [if_pos (hfollows.2 h)] at hmove
    have hat : u.chan ch = c.follow dir n := by rw [hu, hmove, State.passRank_chan, State.chan_modChan_self, hw]
    rw [hat, Channel.follow_eq, hstop]
    exact ⟨rfl, rfl, rfl, rfl⟩
  · have hchanged : changed = true := bne_iff_ne.2 (Ne.symm hne)
    exact stops (State.retargetMoving_of_other hchanged (by rw [hw]; exact hk) (by rw [hw]; exact hd) (by rw [hw]; exact hn))
  · exact stops (State.retargetMoving_reference_none (by rw [hw]; exact hk) (by rw [hw]; exact hn))
  · exact stops ((State.retargetMoving_reference_level (by rw [hw]; exact hk) (by rw [hw]; exact hn)).trans
      (if_pos (by rw [hw]; exact ⟨h1, h2⟩)))
  · refine stays ((State.retargetMoving_reference_level (by rw [hw]; exact hk) (by rw [hw]; exact hn)).trans (if_neg ?_))
    rw [hw]
    rintro ⟨h1, h2⟩
    rcases h with h | h
    · exact h h1
    · omega
  · exact stops (State.retargetMoving_timed_other (by rw [hw]; exact hk) (by rw [hw]; exact hn))
  · refine stops ((State.retargetMoving_timed_level (by rw [hw]; exact hk) (by rw [hw]; exact hn)).trans (if_neg ?_))
    rw [hw]
    rintro ⟨h1, h2⟩
    rcases h with h | h
    · exact h h1
    · exact absurd h2 (Nat.not_lt.2 h)
  · have hmove := State.retargetMoving_timed_level (w := w) (ch := ch) (changed := changed) (by rw [hw]; exact hk)
      (by rw [hw]; exact hn)
    dsimp only at hmove
    rw [hw, if_pos ⟨h1, h2⟩, if_neg (by rw [show c.motion.moveTimer = some e from he]; exact Nat.not_le.2 hless)] at hmove
    rw [hu, hmove, State.passRank_chan, State.chan_modChan_self, hw]
  · have hmove := State.retargetMoving_timed_level (w := w) (ch := ch) (changed := changed) (by rw [hw]; exact hk)
      (by rw [hw]; exact hn)
    dsimp only at hmove
    rw [hw, if_pos ⟨h1, h2⟩, if_pos (by rw [show c.motion.moveTimer = some e from he]; exact hover)] at hmove
    rw [hu, hmove, State.passRank_brake (by nofun)]
    have hbraked := w.haltsMove .arrive false (ch := ch)
      (fun d => { d with motion := { d.motion with duration := (n - c.motion.timedEst) * c.profile.fullTravelTime } })
    rw [hw] at hbraked
    exact hbraked

/-! ### The admitted head (R53 to R55, R80, R81) -/

section start
variable {kind : MoveKind} {dir : Dir} {count : Nat}

/-- A positioned move whose stop point is not ahead of the position is a minimum move (R54). -/
def startsMinimum (c : Channel) (kind : MoveKind) (dir : Dir) : Bool :=
  kind == .positioned && !stopAhead c dir (stopFor c dir (handPulses c))

/-- The moves that start under the approach phase (R55, Table 6.6). -/
def startsInApproach (c : Channel) (kind : MoveKind) (dir : Dir) : Bool :=
  startsMinimum c kind dir || kind == .reference || (kind == .positioned && inApproach c dir (stopFor c dir (handPulses c)))

theorem startsMinimum_iff : startsMinimum c kind dir = true ↔
    kind = .positioned ∧ stopAhead c dir (stopFor c dir (handPulses c)) = false := by
  simp [startsMinimum]

theorem startsInApproach_iff : startsInApproach c kind dir = true ↔ startsMinimum c kind dir = true ∨ kind = .reference
    ∨ (kind = .positioned ∧ inApproach c dir (stopFor c dir (handPulses c)) = true) := by
  simp [startsInApproach, or_assoc]

/-- The channel record at the start of a move (R53), with its stop point, its level and its phase. -/
theorem Channel.enterMoving_eq (c : Channel) (count : Nat) (kind : MoveKind) (dir : Dir) :
    let minimum := startsMinimum c kind dir
    let approach := startsInApproach c kind dir
    let level := if minimum then c.profile.approachLevel else c.profile.startLevel
    let reached := !approach && level == c.profile.runLevel
    c.enterMoving count kind dir = { c with
      motion := { c.motion with
        state := .moving, moveKind := some kind, dir := some dir
        stop := if kind = .positioned then some (stopFor c dir (handPulses c)) else none
        minimum
        duration := if kind = .timed then (handLevel c - c.motion.timedEst) * c.profile.fullTravelTime else 0
        moveTimer := some 0, reason := none, haltCause := none, timedLimit := false, byReset := false }
      travel := { c.travel with runCount := 0, drift := 0, stall := some (10 * c.profile.stallUnits) }
      current := { c.current with
        startPhase := !approach && !reached
        blanking := if c.profile.blanking = 0 then none else some c.profile.blanking
        filter := none, short := none }
      drive := { level, phase := some (if approach then .approach else .run), ramp := some 10, runMark := reached,
                 legs := if count = 199 then .startWait 2 else .startWait 1 } } := by
  dsimp only
  rw [Nat.mul_comm 10]
  unfold Channel.enterMoving atRunLevel startsInApproach startsMinimum
  cases kind with
  | reference => rfl
  | timed => rfl
  | positioned =>
    simp only [if_true, beq_self_eq_true, Bool.true_and]
    cases stopAhead c dir (stopFor c dir (handPulses c)) <;> cases inApproach c dir (stopFor c dir (handPulses c)) <;> rfl

end start

theorem stopAhead_iff (c : Channel) (q : Int) :
    (stopAhead c .opening (.atPosition q) = true ↔ c.travel.position < q)
      ∧ (stopAhead c .closing (.atPosition q) = true ↔ q < c.travel.position) :=
  ⟨decide_eq_true_iff, decide_eq_true_iff⟩

theorem inApproach_iff (c : Channel) (q : Int) :
    (inApproach c .opening (.atPosition q) = true ↔ q - c.profile.approachDist ≤ c.travel.position)
      ∧ (inApproach c .closing (.atPosition q) = true ↔ c.travel.position ≤ q + c.profile.approachDist) :=
  ⟨decide_eq_true_iff, decide_eq_true_iff⟩

theorem dropChan_of_absent {q : List QueueEntry} (h : ∀ x ∈ q, x.chan ≠ ch) : dropChan ch q = q :=
  List.filter_eq_self.2 fun x hx => bne_iff_ne.2 (h x hx)

theorem dropChan_head {e : QueueEntry} {rest : List QueueEntry} (h : ∀ x ∈ rest, x.chan ≠ e.chan) :
    dropChan e.chan (e :: rest) = rest := by
  unfold dropChan
  rw [List.filter_cons_of_neg (by simp)]
  exact dropChan_of_absent h

/-- No head is admitted while the stagger timer runs or the budget is 0 (R80). -/
theorem admitLoop_of_closed (h : s.admission.stagger.isSome = true ∨ s.admission.budget = 0) (fuel : Nat) : admitLoop fuel s = s := by
  cases fuel with
  | zero => rfl
  | succ fuel =>
    unfold admitLoop
    split
    · rfl
    · exact if_pos (by simpa using h)

theorem State.evaluateAdmission_of_closed (h : s.admission.stagger.isSome = true ∨ s.admission.budget = 0) :
    s.evaluateAdmission = s := admitLoop_of_closed h _

/-- A head that fits, under a stagger interval, is admitted alone (R80, R81). -/
theorem State.evaluateAdmission_of_fits {e : QueueEntry} {rest : List QueueEntry} (hq : s.admission.queue = e :: rest)
    (hs : s.admission.stagger = none) (hb : s.admission.budget ≠ 0) (hf : fitsBudget s e = true) :
    s.evaluateAdmission = admitLoop rest.length (s.admitHead e) := by
  unfold State.evaluateAdmission
  rw [hq]
  show admitLoop (rest.length + 1) s = _
  rw [admitLoop, hq]
  dsimp only
  rw [if_neg (by simp [hs, hb]), if_pos hf]

theorem State.admitHead_of_needed {e : QueueEntry} {kind : MoveKind} {dir : Dir}
    (h : moveNeeded (s.chan e.chan) = some (kind, dir)) : s.admitHead e =
      State.modChan { s with admission := { s.admission with
        queue := dropChan e.chan s.admission.queue
        holders := s.admission.holders ++ [{ e with time := s.clock.now }]
        stagger := timerOf s.settings.stagger } } e.chan (fun c => c.enterMoving s.clock.count kind dir) := by
  unfold State.admitHead
  dsimp only
  show (match moveNeeded (s.chan e.chan) with | some (kind, dir) => _ | none => _) = _
  rw [h]

/-- The run-level mark and the START phase of a move that starts under the approach phase just when `P` holds. -/
theorem atRun_iff {a : Bool} {P : Prop} (h : a = true ↔ P) (x y : Nat) :
    ((!a && x == y) = true ↔ ¬ P ∧ x = y) ∧ ((!a && !(!a && x == y)) = true ↔ ¬ P ∧ x ≠ y) := by
  rw [← h]
  cases a <;> simp

/-- Settles O29: the one admission of the evaluation, and the record of the move that starts. -/
theorem admissionStartsAMove : Obligations.AdmissionStartsAMove := by
  unfold Obligations.AdmissionStartsAMove
  refine ⟨fun c dir => ⟨rfl, decide_eq_true_iff, fun q => ?_⟩, ?_⟩
  · obtain ⟨h1, h2⟩ := stopAhead_iff c q
    obtain ⟨h3, h4⟩ := inApproach_iff c q
    exact ⟨h1, h2, h3, h4⟩
  intro s e rest kind dir hstagger hinterval hq hrest hbudget hfits hneed
  let s0 : State := { s with admission := { s.admission with stagger := none } }
  let u := s0.admitHead e
  have hu : u = _ := State.admitHead_of_needed (s := s0) hneed
  have htimer : timerOf s.settings.stagger = some s.settings.stagger := if_neg hinterval
  have hadm : u.admission = { s.admission with
      queue := rest, holders := s.admission.holders ++ [{ e with time := s.clock.now }], stagger := some s.settings.stagger } := by
    rw [hu, State.modChan_admission]
    show ({ s.admission with queue := dropChan e.chan s.admission.queue, holders := _, stagger := timerOf s.settings.stagger }
      : Admission) = _
    rw [hq, dropChan_head hrest, htimer]
  have hexec : exec .staggerTimerExpiry s = .next u := by
    refine congrArg Host.Outcome.next ((if_pos (timerDue_iff.2 hstagger)).trans ?_)
    have heval : s0.evaluateAdmission = admitLoop rest.length u :=
      State.evaluateAdmission_of_fits hq rfl (by show s.admission.budget ≠ 0; omega)
        ((fitsBudget_iff (s := s0)).2 hfits)
    exact heval.trans (admitLoop_of_closed (.inl (by rw [hadm]; rfl)) _)
  have hd : u.chan e.chan = (s.chan e.chan).enterMoving s.clock.count kind dir := by rw [hu, State.chan_modChan_self]; rfl
  refine ⟨u, hexec, by rw [hu]; rfl, fun d hd => by rw [hu, State.chan_modChan_ne _ _ hd]; rfl, by rw [hu]; rfl, hadm, ?_⟩
  dsimp only
  rw [hd, Channel.enterMoving_eq]
  have hminimum := startsMinimum_iff (c := s.chan e.chan) (kind := kind) (dir := dir)
  have happroach := startsInApproach_iff (c := s.chan e.chan) (kind := kind) (dir := dir)
  rw [hminimum] at happroach
  refine ⟨rfl, rfl, rfl, rfl, rfl, hminimum, fun h => if_pos h, rfl, rfl, rfl, rfl, rfl, rfl, rfl, rfl, rfl, rfl, rfl, rfl, rfl, rfl, rfl,
    rfl, if_congr hminimum rfl rfl, congrArg some (if_congr happroach rfl rfl), rfl, (atRun_iff happroach _ _).1, (atRun_iff happroach _ _).2,
    rfl⟩

end Sys2Proof.Machine
end

section
/-! SUPPORT. The admission unit: what a head that stays lacks, the shed order, and the loops that shed in it. -/

namespace Sys2Proof.Machine

variable {ch : Chan} {s u : State} {e h : QueueEntry} {cause : HaltCause}

/-! ### The head of the start queue (R80) -/

theorem State.admitHead_queue (s : State) (e : QueueEntry) :
    (s.admitHead e).admission.queue = dropChan e.chan s.admission.queue := by
  unfold State.admitHead
  dsimp only
  split <;> rfl

theorem State.preempt_queue (s : State) (e : QueueEntry) : (s.preempt e).admission.queue = s.admission.queue :=
  preemptLoop_queue ..

/-- The head, if any, fails one of the conditions of R80. -/
def HeadWaits (v : State) : Prop :=
  ∀ e rest, v.admission.queue = e :: rest →
    v.admission.stagger.isSome = true ∨ v.admission.budget = 0 ∨ fitsBudget v e = false

theorem HeadWaits.of_not_fits {x : QueueEntry} {xs : List QueueEntry} (hx : s.admission.queue = x :: xs)
    (hfit : ¬ fitsBudget s x = true) : HeadWaits s := fun e rest hq => by
  obtain ⟨rfl, -⟩ := List.cons.inj (hx.symm.trans hq)
  exact .inr (.inr (Bool.eq_false_iff.2 hfit))

/-- As many admissions as the queue has entries are enough. -/
theorem headWaits_admitLoop (n : Nat) (hn : s.admission.queue.length ≤ n) : HeadWaits (admitLoop n s) := by
  induction n generalizing s with
  | zero =>
    intro e rest hq
    have hnil : s.admission.queue = [] := List.length_eq_zero_iff.1 (Nat.le_zero.1 hn)
    cases hnil.symm.trans hq
  | succ n ih =>
    have shorter {t : State} {x : QueueEntry} (hx : x ∈ s.admission.queue)
        (ht : t.admission.queue = s.admission.queue) : (t.admitHead x).admission.queue.length ≤ n := by
      have := dropChan_length_lt hx
      rw [State.admitHead_queue, ht]
      omega
    unfold admitLoop
    split
    · rename_i hnil
      intro e rest hq
      cases hnil.symm.trans hq
    · rename_i x xs hx
      have hmem : x ∈ s.admission.queue := by rw [hx]; exact List.mem_cons_self
      split
      · rename_i hclosed
        intro e rest _
        rcases (Bool.or_eq_true _ _).mp hclosed with h | h
        · exact .inl h
        · exact .inr (.inl (of_decide_eq_true h))
      · split
        · exact ih (shorter hmem rfl)
        · rename_i hfit
          split
          · dsimp only
            split
            · exact ih (shorter hmem (s.preempt_queue x))
            · rename_i hfit'
              exact .of_not_fits ((s.preempt_queue x).trans hx) hfit'
          · exact .of_not_fits hx hfit

theorem fitsBudget_eq_false : fitsBudget s e = false ↔
    s.admission.holders ≠ [] ∧ s.admission.budget < totalWeight s.admission.holders + e.weight := by
  rw [Bool.eq_false_iff, Ne, fitsBudget_iff, not_or, Nat.not_le]

/-- Settles O42: the evaluation by what it can do, when it does nothing, and the head at its end. -/
theorem evaluationStartsAndSheds : Obligations.EvaluationStartsAndSheds := by
  unfold Obligations.EvaluationStartsAndSheds
  refine ⟨fun s u => ⟨.finish s u, State.finish_eq_self⟩, fun s => State.evaluateAdmission_of_closed,
    fun s e rest hq => ?_, fun s hs => congrArg Host.Outcome.next (if_pos (timerDue_iff.2 hs))⟩
  have hhead := headWaits_admitLoop s.admission.queue.length le_rfl e rest hq
  rwa [fitsBudget_eq_false] at hhead

/-! ### Shed order (R78) -/

theorem shedBefore_iff {a b : QueueEntry} : shedBefore a b = true ↔ b.rank < a.rank ∨ (a.rank = b.rank
    ∧ (b.time < a.time ∨ (a.time = b.time ∧ chanIndex b.chan < chanIndex a.chan))) := by
  simp [shedBefore]

theorem chanIndex_ne {a b : Chan} (h : a ≠ b) : chanIndex a ≠ chanIndex b := fun hab => h (by
  revert hab
  cases a <;> cases b <;> decide)

theorem shedBefore_trans {a b c : QueueEntry} (hab : shedBefore a b = true) (hbc : shedBefore b c = true) : shedBefore a c = true := by
  rw [shedBefore_iff] at *
  omega

theorem shedBefore_asymm {a b : QueueEntry} (hab : shedBefore a b = true) : ¬ shedBefore b a = true := by
  rw [shedBefore_iff] at *
  omega

theorem shedBefore_total {a b : QueueEntry} (hab : a.chan ≠ b.chan) : shedBefore a b = true ∨ shedBefore b a = true := by
  have := chanIndex_ne hab
  rw [shedBefore_iff, shedBefore_iff]
  omega

/-- The first in shed order comes before every other entry. -/
theorem firstShed_first {l : List QueueEntry} (hl : l.Pairwise (fun a b => a.chan ≠ b.chan)) (h : firstShed l = some e) :
    ∀ f ∈ l, f = e ∨ shedBefore e f = true := by
  induction l generalizing e with
  | nil => nofun
  | cons x xs ih =>
    obtain ⟨hx, hxs⟩ := List.pairwise_cons.1 hl
    intro f hf
    unfold firstShed at h
    split at h
    · rename_i hnone
      cases h
      have hnil : xs = [] := by
        by_contra hne
        obtain ⟨y, hy⟩ := firstShed_isSome hne
        rw [hy] at hnone
        cases hnone
      subst hnil
      exact .inl (List.mem_singleton.1 hf)
    · rename_i y hy
      split at h
      · rename_i hyx
        cases h
        rcases List.mem_cons.1 hf with rfl | hf
        · exact .inr hyx
        · exact ih hxs hy f hf
      · rename_i hyx
        cases h
        have hxy := (shedBefore_total (hx y (firstShed_mem hy))).resolve_right hyx
        rcases List.mem_cons.1 hf with rfl | hf
        · exact .inl rfl
        · rcases ih hxs hy f hf with rfl | hyf
          · exact .inr hxy
          · exact .inr (shedBefore_trans hxy hyf)

/-! ### One shed (R69) -/

/-- `u` is `s` with other channels and other share holders. -/
def OnlyHolders (s u : State) : Prop :=
  u = { s with chans := u.chans, admission := { s.admission with holders := u.admission.holders } }

theorem OnlyHolders.trans {v : State} (h : OnlyHolders s u) (k : OnlyHolders u v) : OnlyHolders s v := by
  unfold OnlyHolders at *
  rw [k, h]

theorem State.onlyHolders_shed (s : State) (e : QueueEntry) (cause : HaltCause) : OnlyHolders s (s.shed e cause) := by
  unfold State.shed State.shedChannel
  split
  · rfl
  · rfl
  · split <;> rfl
  · rfl

/-- A brake to a stop gives the share up. -/
theorem State.brake_stop (s : State) (ch : Chan) (cause : Option HaltCause) :
    s.brake ch .stop cause false = (s.modChan ch (·.enterBraking .stop cause false)).releaseShare ch := rfl

theorem State.chan_shed_of_ne (hd : ch ≠ e.chan) : (s.shed e cause).chan ch = s.chan ch := by
  unfold State.shed State.shedChannel
  split
  · rw [State.brake_stop, State.chan_releaseShare, State.chan_modChan_ne _ _ hd, State.chan_releaseShare]
  · rw [State.brake_stop, State.chan_releaseShare, State.chan_modChan_ne _ _ hd, State.chan_releaseShare]
  · split
    · rw [State.chan_releaseShare, State.chan_modChan_ne _ _ hd, State.chan_releaseShare]
    · rw [State.chan_releaseShare]
  · rw [State.chan_releaseShare]

theorem State.isShed_shed (s : State) (e : QueueEntry) (cause : HaltCause) :
    IsShed cause (s.chan e.chan) ((s.shed e cause).chan e.chan) := by
  have hchan := State.chan_releaseShare s e.chan e.chan
  unfold State.shed State.shedChannel
  refine ⟨fun hs => ?_, fun hs hr => ?_⟩
  · have braked : ((s.releaseShare e.chan).brake e.chan .stop (some cause) false).chan e.chan =
        (s.chan e.chan).enterBraking .stop (some cause) false := by
      rw [State.brake_stop, State.chan_releaseShare, State.chan_modChan_self, hchan]
    have record : (s.chan e.chan).enterBraking .stop (some cause) false = { s.chan e.chan with
        motion := { (s.chan e.chan).motion with
          state := .braking, reason := some .stop, haltCause := some cause, afterBackoff := false,
          settleTimer := some (10 * (s.chan e.chan).profile.settleUnits), coast := 0, moveTimer := none, minimum := false,
          driveTime := (s.chan e.chan).motion.moveTimer.getD (s.chan e.chan).motion.driveTime }
        travel := { (s.chan e.chan).travel with stall := none }
        current := { (s.chan e.chan).current with startPhase := false, blanking := none, filter := none, short := none }
        drive := { level := 0, phase := none, ramp := none, runMark := false,
                   legs := .cutting (s.chan e.chan).drive.legs.onCount (s.chan e.chan).profile.brakeMode } } := by
      rw [Nat.mul_comm 10]
      rfl
    rw [hchan]
    rcases hs with hs | hs
    all_goals
      rw [hs]
      dsimp only
      rw [braked, record]
      exact ⟨rfl, ⟨rfl, rfl, rfl, rfl, rfl, rfl, rfl, rfl, rfl, rfl, rfl⟩, rfl, rfl⟩
  · rw [hchan, hs]
    dsimp only
    rw [if_pos hr, State.chan_releaseShare, State.chan_modChan_self, hchan]

/-! ### Sheds one after the other (R78, R83) -/

/-- Holders that `cand` names are shed, the first in shed order each time, while the holders do not fit. -/
inductive Sheds (fits : List QueueEntry → Prop) (cand : QueueEntry → Bool) (cause : HaltCause) : State → State → Prop
  | none (s : State) : Sheds fits cand cause s s
  | one {s u : State} {h : QueueEntry} (hfit : ¬ fits s.admission.holders)
      (hfirst : firstShed (s.admission.holders.filter cand) = some h) (rest : Sheds fits cand cause (s.shed h cause) u) :
      Sheds fits cand cause s u

/-- No two holders are of one channel. -/
def HoldersDistinct (s : State) : Prop := s.admission.holders.Pairwise (fun a b => a.chan ≠ b.chan)

theorem HoldersDistinct.eq_of_chan {f : QueueEntry} (hd : HoldersDistinct s) (he : e ∈ s.admission.holders)
    (hf : f ∈ s.admission.holders) (hchan : e.chan = f.chan) : e = f := by
  by_contra hne
  have symmetric : Std.Symm (fun a b : QueueEntry => a.chan ≠ b.chan) := ⟨fun _ _ h => h.symm⟩
  exact hd.forall he hf hne hchan

namespace Sheds

variable {fits : List QueueEntry → Prop} {cand : QueueEntry → Bool}

theorem onlyHolders (hs : Sheds fits cand cause s u) : OnlyHolders s u := by
  induction hs with
  | none s => exact rfl
  | one _ _ _ ih => exact (State.onlyHolders_shed ..).trans ih

theorem sublist (hs : Sheds fits cand cause s u) : u.admission.holders.Sublist s.admission.holders := by
  induction hs with
  | none s => exact .refl _
  | one _ _ _ ih =>
    rw [State.shed_holders] at ih
    exact ih.trans List.filter_sublist

theorem chan_eq (hs : Sheds fits cand cause s u) (h : ∀ e ∈ s.admission.holders, e.chan = ch → e ∈ u.admission.holders) :
    u.chan ch = s.chan ch := by
  induction hs with
  | none s => rfl
  | @one s u x _ hfirst rest ih =>
    have hx := (List.mem_filter.1 (firstShed_mem hfirst)).1
    have holders := State.shed_holders s x cause
    have hne : ch ≠ x.chan := fun heq => by
      have hgone := rest.sublist.subset (h x hx heq.symm)
      rw [holders, mem_dropChan] at hgone
      exact hgone.2 rfl
    rw [ih fun e he => h e (mem_dropChan.1 (holders ▸ he)).1]
    exact State.chan_shed_of_ne hne

/-- A channel with no entry left has been shed, once. -/
theorem isShed (hs : Sheds fits cand cause s u) (he : e ∈ s.admission.holders)
    (hgone : ∀ f ∈ u.admission.holders, f.chan ≠ e.chan) : IsShed cause (s.chan e.chan) (u.chan e.chan) := by
  induction hs with
  | none s => exact absurd rfl (hgone e he)
  | @one s u x _ hfirst rest ih =>
    by_cases heq : e.chan = x.chan
    · have hlast : u.chan e.chan = (s.shed x cause).chan e.chan := rest.chan_eq fun f hf hfe => by
        rw [State.shed_holders, mem_dropChan] at hf
        exact absurd (hfe.trans heq) hf.2
      rw [hlast, heq]
      exact s.isShed_shed x cause
    · have hthen := ih (by rw [State.shed_holders]; exact mem_dropChan.2 ⟨he, heq⟩) hgone
      rwa [State.chan_shed_of_ne heq] at hthen

/-- A holder that went was named by `cand`, came before every one named that stays, and those after it did not fit with it. -/
theorem needed (hs : Sheds fits cand cause s u) (hdistinct : HoldersDistinct s) (he : e ∈ s.admission.holders)
    (hgone : e ∉ u.admission.holders) : cand e = true ∧ (∀ f ∈ u.admission.holders, cand f = true → shedBefore e f = true)
      ∧ ¬ fits (s.admission.holders.filter (fun f => cand f = false ∨ f = e ∨ shedBefore e f = true)) := by
  induction hs with
  | none s => exact absurd he hgone
  | @one s u x hfit hfirst rest ih =>
    obtain ⟨hx, hcand⟩ := List.mem_filter.1 (firstShed_mem hfirst)
    have before (f : QueueEntry) (hf : f ∈ s.admission.holders) (hcf : cand f = true) : f = x ∨ shedBefore x f = true :=
      firstShed_first (hdistinct.filter _) hfirst f (List.mem_filter.2 ⟨hf, hcf⟩)
    have holders := State.shed_holders s x cause
    by_cases heq : e = x
    · subst heq
      refine ⟨hcand, fun f hf hcf => ?_, ?_⟩
      · have hf' := rest.sublist.subset hf
        rw [holders, mem_dropChan] at hf'
        exact (before f hf'.1 hcf).resolve_left fun h => hf'.2 (h ▸ rfl)
      · rwa [List.filter_eq_self.2 fun f hf => ?_]
        by_cases hcf : cand f = true
        · exact decide_eq_true (.inr (before f hf hcf))
        · exact decide_eq_true (.inl (Bool.eq_false_iff.2 hcf))
    · have hchan : e.chan ≠ x.chan := fun h => heq (hdistinct.eq_of_chan he hx h)
      obtain ⟨hce, hafter, hneed⟩ := ih (by unfold HoldersDistinct; rw [holders]; exact hdistinct.filter _)
        (by rw [holders]; exact mem_dropChan.2 ⟨he, hchan⟩) hgone
      refine ⟨hce, hafter, ?_⟩
      rw [holders] at hneed
      have same : (dropChan x.chan s.admission.holders).filter (fun f => cand f = false ∨ f = e ∨ shedBefore e f = true)
          = s.admission.holders.filter (fun f => cand f = false ∨ f = e ∨ shedBefore e f = true) := by
        unfold dropChan
        rw [List.filter_filter]
        refine List.filter_congr fun f hf => ?_
        by_cases hfx : f.chan = x.chan
        · have hf' : f = x := hdistinct.eq_of_chan hf hx hfx
          have hxe := (before e he hce).resolve_left heq
          simp [hf', hcand, Ne.symm heq, shedBefore_asymm hxe]
        · simp [hfx]
      rwa [same] at hneed

/-- When a holder alone fits, one is left. -/
theorem ne_nil (hs : Sheds fits cand cause s u) (hdistinct : HoldersDistinct s) (halone : ∀ e, fits [e])
    (hne : s.admission.holders ≠ []) : u.admission.holders ≠ [] := by
  induction hs with
  | none s => exact hne
  | @one s u x hfit hfirst rest ih =>
    have holders := State.shed_holders s x cause
    refine ih (by unfold HoldersDistinct; rw [holders]; exact hdistinct.filter _) fun hnil => ?_
    rw [holders] at hnil
    have only : ∀ f ∈ s.admission.holders, f.chan = x.chan := fun f hf => by
      by_contra hf'
      have hmem := mem_dropChan.2 ⟨hf, hf'⟩
      rw [hnil] at hmem
      cases hmem
    unfold HoldersDistinct at hdistinct
    cases hl : s.admission.holders with
    | nil => exact hne hl
    | cons y ys =>
      rw [hl] at hdistinct only
      cases ys with
      | nil => exact hfit (hl ▸ halone y)
      | cons z zs =>
        have hyz := (List.pairwise_cons.1 hdistinct).1 z List.mem_cons_self
        exact hyz ((only y List.mem_cons_self).trans (only z (by simp)).symm)

end Sheds

/-! ### The two loops shed so -/

/-- The law of R76 for the holders `l` under the budget `b`. -/
def HoldersFit (b : Nat) (l : List QueueEntry) : Prop :=
  l = [] ∨ (0 < b ∧ (l.length ≤ 1 ∨ totalWeight l ≤ b))

theorem holdersFit_iff_fit {a : Admission} : holdersFit a = true ↔ HoldersFit a.budget a.holders := by
  simp [holdersFit, HoldersFit]

theorem shed_budget : (s.shed e cause).admission.budget = s.admission.budget := by
  rw [s.onlyHolders_shed e cause]

theorem sheds_shedLoop {b : Nat} (n : Nat) (hb : s.admission.budget = b) :
    Sheds (HoldersFit b) (fun _ => true) cause s (shedLoop cause n s) := by
  induction n generalizing s with
  | zero => exact .none s
  | succ n ih =>
    unfold shedLoop
    split
    · exact .none s
    · rename_i hfit
      split
      · exact .none s
      · rename_i x hx
        refine .one (fun h => hfit (holdersFit_iff_fit.2 (hb ▸ h))) ?_ (ih (shed_budget.trans hb))
        rw [List.filter_true]
        exact hx

/-- The entry `e` fits beside the holders `l` under the budget `b` (R80). -/
def FitsBeside (b : Nat) (e : QueueEntry) (l : List QueueEntry) : Prop := l = [] ∨ totalWeight l + e.weight ≤ b

theorem sheds_preemptLoop {b : Nat} (n : Nat) (hb : s.admission.budget = b) :
    Sheds (FitsBeside b e) (fun h => 4 ≤ h.rank) .preempt s (preemptLoop e n s) := by
  induction n generalizing s with
  | zero => exact .none s
  | succ n ih =>
    unfold preemptLoop
    split
    · exact .none s
    · rename_i hfit
      split
      · exact .none s
      · rename_i x hx
        exact .one (fun h => hfit (fitsBudget_iff.2 (hb ▸ h))) hx (ih (shed_budget.trans hb))

/-- Preemption ends when the head fits or no holder of queue rank 4 to 6 is left. -/
theorem preemptLoop_ends (n : Nat) (hn : s.admission.holders.length ≤ n) :
    fitsBudget (preemptLoop e n s) e = true ∨ ∀ h ∈ (preemptLoop e n s).admission.holders, h.rank < 4 := by
  induction n generalizing s with
  | zero =>
    left
    exact fitsBudget_iff.2 (.inl (List.length_eq_zero_iff.1 (Nat.le_zero.1 hn)))
  | succ n ih =>
    unfold preemptLoop
    split
    · rename_i hfit
      exact .inl hfit
    · split
      · rename_i hnone
        refine .inr fun h hh => Nat.lt_of_not_le fun hrank => ?_
        obtain ⟨x, hx⟩ := firstShed_isSome (l := candidates s) (List.ne_nil_of_mem (List.mem_filter.2 ⟨hh, decide_eq_true hrank⟩))
        rw [hx] at hnone
        cases hnone
      · rename_i x hx
        refine ih ?_
        have := dropChan_length_lt (candidates_mem (firstShed_mem hx)).1
        rw [State.shed_holders]
        omega

/-! ### The budget computed anew (R77) -/

theorem State.rebudget_sheds (s : State) (cause : HaltCause) :
    let b := budgetOf s.settings s.supply.state s.thermal.state
    let t := { s with admission := { s.admission with budget := b } }
    Sheds (HoldersFit b) (fun _ => true) cause t (s.rebudget cause)
      ∧ (s.admission.budget ≤ b → s.rebudget cause = t)
      ∧ (b < s.admission.budget → HoldersFit b (s.rebudget cause).admission.holders) := by
  intro b t
  have hloop : Sheds (HoldersFit b) (fun _ => true) cause t (shedLoop cause s.admission.holders.length t) := sheds_shedLoop _ rfl
  by_cases hb : b < s.admission.budget
  · have hre : s.rebudget cause = shedLoop cause s.admission.holders.length t := if_pos hb
    rw [hre]
    refine ⟨hloop, fun h => absurd hb (Nat.not_lt.2 h), fun _ => ?_⟩
    have hfit := holdersFit_iff_fit.1 (holdersFit_shedLoop cause s.admission.holders.length t le_rfl)
    rwa [hloop.onlyHolders] at hfit
  · have hre : s.rebudget cause = t := if_neg hb
    rw [hre]
    exact ⟨.none t, fun _ => rfl, fun h => absurd h hb⟩

/-- Sheds keep every claim. -/
theorem State.keepsClaims_rebudget (s : State) (cause : HaltCause) : KeepsClaims s (s.rebudget cause) := by
  unfold State.rebudget
  dsimp only
  split
  · exact (StartsAndSheds.shedLoop ..).2.1
  · exact .refl s

/-! ### A head that does not fit (R80, R83) -/

theorem State.evaluateAdmission_of_not_fits {rest : List QueueEntry} (hq : s.admission.queue = e :: rest)
    (hs : s.admission.stagger = none) (hb : s.admission.budget ≠ 0) (hf : fitsBudget s e = false) :
    s.evaluateAdmission = if e.rank = 1 then
        if fitsBudget (s.preempt e) e then admitLoop rest.length ((s.preempt e).admitHead e) else s.preempt e
      else s := by
  unfold State.evaluateAdmission
  rw [hq]
  show admitLoop (rest.length + 1) s = _
  rw [admitLoop, hq]
  dsimp only
  rw [if_neg (by simp [hs, hb]), if_neg (by rw [hf]; nofun)]

/-- Settles O43: the order and the budget by cases, the sheds by `Sheds`, and the head that preempts. -/
theorem shedsInShedOrder : Obligations.ShedsInShedOrder := by
  unfold Obligations.ShedsInShedOrder
  refine ⟨fun a b => shedBefore_iff, fun t p h => by cases h <;> cases p <;> simp only [budgetOf, Nat.zero_div], fun s cause hdistinct => ?_,
    fun s e hdistinct => ?_, fun s e rest hq hrest hstagger hbudget hholders hless => ?_⟩
  · obtain ⟨hs, hrises, hfalls⟩ := s.rebudget_sheds cause
    have honly := hs.onlyHolders
    intro u fits
    have hu : u = { s with chans := u.chans, admission := { s.admission with
      budget := budgetOf s.settings s.supply.state s.thermal.state, holders := u.admission.holders } } := honly
    have hb : u.admission.budget = budgetOf s.settings s.supply.state s.thermal.state := by rw [hu]
    have hfits (l : List QueueEntry) : fits l = HoldersFit (budgetOf s.settings s.supply.state s.thermal.state) l :=
      congrArg (fun b => HoldersFit b l) hb
    refine ⟨by rw [hu], s.keepsClaims_rebudget cause, hb, by rw [hu], by rw [hu], hs.sublist, fun h => ?_, fun h => ?_, fun h => ?_,
      fun e he hgone => ?_, fun ch h => hs.chan_eq h⟩
    · rw [hb] at h
      show (s.rebudget cause).chans = _ ∧ (s.rebudget cause).admission.holders = _
      rw [hrises h]
      exact ⟨rfl, rfl⟩
    · rw [hfits]
      exact hfalls (hb ▸ h)
    · exact hs.ne_nil hdistinct fun e => .inr ⟨hb ▸ h, .inl le_rfl⟩
    · obtain ⟨-, hafter, hneed⟩ := hs.needed hdistinct he hgone
      refine ⟨fun f hf => hafter f hf rfl, ?_, hs.isShed he fun f hf hfe => hgone ?_⟩
      · rw [hfits]
        simpa using hneed
      · exact HoldersDistinct.eq_of_chan hdistinct (hs.sublist.subset hf) he hfe ▸ hf
  · have hs : Sheds (FitsBeside s.admission.budget e) (fun h => 4 ≤ h.rank) .preempt s (s.preempt e) := sheds_preemptLoop _ rfl
    have hu := hs.onlyHolders
    intro u
    refine ⟨hu, hs.sublist, ?_, fun h hh hgone => ?_, fun ch h => hs.chan_eq h⟩
    · have hends := preemptLoop_ends (e := e) s.admission.holders.length le_rfl
      rwa [fitsBudget_iff, or_assoc] at hends
    · obtain ⟨hrank, hafter, hneed⟩ := hs.needed hdistinct hh hgone
      refine ⟨of_decide_eq_true hrank, fun f hf h4 => hafter f hf (decide_eq_true h4), ?_, hs.isShed hh fun f hf hfe => hgone ?_⟩
      · have hmore := (not_or.1 hneed).2
        simp only [decide_eq_false_iff_not, Nat.not_le] at hmore
        omega
      · exact HoldersDistinct.eq_of_chan hdistinct (hs.sublist.subset hf) hh hfe ▸ hf
  · have heval := State.evaluateAdmission_of_not_fits hq hstagger (by omega) (fitsBudget_eq_false.2 ⟨hholders, hless⟩)
    intro v fits
    have hfits : fitsBudget v e = true ↔ fits := fitsBudget_iff
    refine ⟨fun h => heval.trans (if_neg h), fun h hf => ?_, fun h hf => ?_⟩
    · rw [heval, if_pos h]
      exact if_neg fun hfit => hf (hfits.1 hfit)
    · rw [heval, if_pos h, if_pos (hfits.2 hf)]
      unfold State.evaluateAdmission
      rw [State.admitHead_queue, s.preempt_queue, hq, dropChan_head hrest]

end Sys2Proof.Machine
end

section
/-! SUPPORT. The budget that follows a monitor's change, and the changes of the supply and the thermal monitors. -/

namespace Sys2Proof.Machine

variable {ch : Chan} {s u : State} {cause : HaltCause}

/-! ### A budget that follows (R77, R78) -/

theorem State.rebudget_admission (s : State) (cause : HaltCause) :
    (s.rebudget cause).admission.budget = budgetOf s.settings s.supply.state s.thermal.state
      ∧ (s.rebudget cause).admission.queue = s.admission.queue ∧ (s.rebudget cause).admission.stagger = s.admission.stagger := by
  have hu := (s.rebudget_sheds cause).1.onlyHolders
  rw [hu]
  exact ⟨rfl, rfl, rfl⟩

theorem State.keepsSensed_rebudget (s : State) (cause : HaltCause) : KeepsSensed s (s.rebudget cause) := by
  unfold State.rebudget
  dsimp only
  split
  · exact (StartsAndSheds.shedLoop ..).2.2.1
  · exact fun _ => ⟨rfl, rfl, rfl, rfl⟩

/-- The budget computed anew, whatever the report queue meanwhile holds. -/
theorem State.budgetFollows_aside (s : State) (r : Reports) (cause : HaltCause) :
    BudgetFollows s cause ((s.aside s.line r).rebudget cause) := by
  rw [State.rebudget_aside]
  obtain ⟨hs, -, -⟩ := s.rebudget_sheds cause
  obtain ⟨hbudget, hqueue, hstagger⟩ := s.rebudget_admission cause
  have hu : s.rebudget cause = { s with chans := (s.rebudget cause).chans, admission := (s.rebudget cause).admission } := by
    rw [hs.onlyHolders]
  have hline : (s.rebudget cause).line = s.line := by rw [hu]
  refine ⟨?_, ?_, s.keepsClaims_rebudget cause, s.keepsSensed_rebudget cause, hbudget, hqueue, hstagger, fun e he => hs.sublist.subset he,
    fun ch hch => hs.chan_eq fun e he h => absurd h (hch e he)⟩
  · rw [← hline]
    rfl
  · conv_lhs => rw [hu]
    rfl

theorem State.budgetFollows_rebudget (s : State) (cause : HaltCause) : BudgetFollows s cause (s.rebudget cause) :=
  s.budgetFollows_aside s.reports cause

/-- A change that is reported before the budget follows. -/
theorem State.budgetFollows_post (s : State) (r : Report) (cause : HaltCause) :
    BudgetFollows s cause ((s.post r).rebudget cause) ∧ ((s.post r).rebudget cause).reports = (s.post r).reports := by
  have hpost : s.post r = s.aside s.line (s.post r).reports := State.post_eq s r
  refine ⟨?_, ?_⟩
  · rw [hpost]
    exact s.budgetFollows_aside _ cause
  · conv_lhs => rw [hpost, State.rebudget_aside]
    rfl

/-- A budget of 0 sheds every holder. -/
theorem State.allHoldersBrake (hzero : budgetOf s.settings s.supply.state s.thermal.state = 0) :
    AllHoldersBrake s cause (s.rebudget cause) := fun hpos => by
  obtain ⟨hs, -, hfalls⟩ := s.rebudget_sheds cause
  have hnil : (s.rebudget cause).admission.holders = [] := (hfalls (by omega)).resolve_right fun h => by omega
  refine ⟨hnil, fun e he hdriven => ?_⟩
  obtain ⟨hshed, -⟩ := hs.isShed he (by rw [hnil]; nofun)
  obtain ⟨hmotion, hoff, -⟩ := hshed hdriven
  rw [hmotion]
  exact ⟨rfl, rfl, rfl, hoff⟩

theorem AllHoldersBrake.post (r : Report) (h : AllHoldersBrake s cause (s.rebudget cause)) :
    AllHoldersBrake s cause ((s.post r).rebudget cause) := by
  have hpost : s.post r = s.aside s.line (s.post r).reports := State.post_eq s r
  rw [hpost, State.rebudget_aside]
  exact h

/-! ### The supply monitor (R87 to R90) -/

theorem supplyReport_eq (m : Supply) : supplyReport m = { kind := .supply, detail := {
    b5 := match m.state with | .normal => 0 | .low => 1 | .cut => 2 | .overVolt => 3
    b6 := byteOf (m.measured / 256), b7 := byteOf m.measured, b8 := if m.latch then 1 else 0 } } := by
  unfold supplyReport
  cases m.state <;> cases m.latch <;> rfl

theorem budgetOf_off {t : Settings} {p : SupplyState} {h : ThermalState} (hoff : p = .cut ∨ p = .overVolt) : budgetOf t p h = 0 := by
  rcases hoff with rfl | rfl <;> cases h <;> simp only [budgetOf, Nat.zero_div]

/-- A change of the supply state (R88, R95). -/
theorem State.supplyBecomes (s : State) (state : SupplyState) : SupplyBecomes s state (s.changeSupply state) := by
  let latch := if state = .cut then s.settings.latched else s.supply.latch
  let t : State := { s with supply := { s.supply with state, holdOff := none, latch } }
  obtain ⟨hfollows, hreports⟩ := t.budgetFollows_post (supplyReport t.supply) (supplyCause state)
  have hsupply : (s.changeSupply state).supply = t.supply := by
    show ((t.post (supplyReport t.supply)).rebudget (supplyCause state)).supply = t.supply
    rw [hfollows.2.1]
  refine ⟨hsupply, ?_, ?_, fun hoff => ?_⟩
  · rw [hsupply]
    exact hfollows
  · refine hreports.trans ?_
    rw [hsupply, supplyReport_eq]
    cases state <;> exact State.post_reports_congr _ rfl rfl
  · have hbrake : AllHoldersBrake t .supply ((t.post (supplyReport t.supply)).rebudget .supply) :=
      AllHoldersBrake.post _ (State.allHoldersBrake (budgetOf_off hoff))
    have hcause : supplyCause state = .supply := if_pos hoff
    unfold State.changeSupply
    rw [hcause]
    exact hbrake

theorem clampVolt_of_le {v : Nat} (h : v ≤ 400) : clampVolt v = v := Nat.min_eq_left h

theorem State.startHoldOff_of_pos (h : s.settings.holdOff ≠ 0) :
    s.startHoldOff = { s with supply := { s.supply with holdOff := some s.settings.holdOff } } := if_neg h

theorem State.startHoldOff_of_zero (h : s.settings.holdOff = 0) : s.startHoldOff = s.changeSupply (supplyAfterHoldOff s.supply) :=
  if_pos h

theorem supplyOnMeasure_overVolt (t : Settings) (v : Nat) : supplyOnMeasure t .overVolt v =
    if v < t.cutVolt then .cut else if t.overVolt ≤ v + 5 then .overVolt else if v < t.lowVolt then .low else .normal := by
  unfold supplyOnMeasure
  by_cases h : v + 5 < t.overVolt
  · rw [if_pos h, if_neg (Nat.not_le.2 h)]
  · rw [if_neg h, if_pos (Nat.not_lt.1 h)]

section measure
variable {v : Nat} (hformed : s.supply.formed = true) (hv : v ≤ 400)
include hformed hv

/-- The monitor with the sample `v`, its mean and the thresholds in force (R87). -/
def Supply.sampled (m : Supply) (t : Settings) (v : Nat) : Supply :=
  { m with samples := v :: m.samples.take 3, measured := (v :: m.samples.take 3).sum / 4,
           cutInForce := t.cutVolt, lowInForce := t.lowVolt, overInForce := t.overVolt }

theorem State.measureSupply_of_cut (hcut : s.supply.state = .cut) :
    s.measureSupply v = { s with supply := s.supply.sampled s.settings v }.measureInCut := by
  unfold State.measureSupply
  rw [clampVolt_of_le hv]
  exact (if_pos hformed).trans (if_pos hcut)

theorem State.measureSupply_of_same (hcut : s.supply.state ≠ .cut)
    (hsame : supplyOnMeasure s.settings s.supply.state (s.supply.sampled s.settings v).measured = s.supply.state) :
    s.measureSupply v = { s with supply := s.supply.sampled s.settings v } := by
  unfold State.measureSupply
  rw [clampVolt_of_le hv]
  exact (if_pos hformed).trans ((if_neg hcut).trans (if_pos hsame))

theorem State.measureSupply_of_change (hcut : s.supply.state ≠ .cut)
    (hchange : supplyOnMeasure s.settings s.supply.state (s.supply.sampled s.settings v).measured ≠ s.supply.state) :
    s.measureSupply v = { s with supply := s.supply.sampled s.settings v }.changeSupply
      (supplyOnMeasure s.settings s.supply.state (s.supply.sampled s.settings v).measured) := by
  unfold State.measureSupply
  rw [clampVolt_of_le hv]
  exact (if_pos hformed).trans ((if_neg hcut).trans (if_neg hchange))

end measure

theorem State.measureInCut_of_below (h : s.supply.measured < s.supply.cutInForce + 5) :
    s.measureInCut = { s with supply := { s.supply with holdOff := none } } :=
  if_neg fun hrec => absurd (of_decide_eq_true hrec) (by omega)

theorem State.measureInCut_of_waiting (h : s.supply.cutInForce + 5 ≤ s.supply.measured)
    (hwait : s.supply.latch = true ∨ s.supply.holdOff.isSome = true) : s.measureInCut = s := by
  have hrec : s.supply.recovered = true := decide_eq_true h
  refine (if_pos hrec).trans (if_neg fun hstart => ?_)
  rcases hwait with hl | hl
  · rw [hl] at hstart
    simp at hstart
  · rw [Option.isNone_eq_false_iff.2 hl] at hstart
    cases hstart

theorem State.measureInCut_of_ready (h : s.supply.cutInForce + 5 ≤ s.supply.measured) (hlatch : s.supply.latch = false)
    (hhold : s.supply.holdOff = none) : s.measureInCut = s.startHoldOff := by
  have hrec : s.supply.recovered = true := decide_eq_true h
  exact (if_pos hrec).trans (if_pos (by simp [hlatch, hhold]))

/-- A step that ends with a change and no admission event is the change (R80). -/
theorem next_finish_of_same {t : State} (h : u = t) (ht : t.admission = s.admission) :
    (.next (s.finish u) : Host.Outcome State Fault Refusal) = .next t := by
  rw [h, State.finish_eq_self ht.symm]

/-! ### The thermal monitor (R92, R93) -/

theorem clampCelsius_of_mem {t : Int} (h1 : -55 ≤ t) (h2 : t ≤ 200) : clampCelsius t = t := by
  unfold clampCelsius
  omega

/-- The two detail bytes of a THERMAL report read as the temperature. -/
theorem temperatureBytes_toInt {t : Int} (h1 : -55 ≤ t) (h2 : t ≤ 200) :
    (byteAt (temperatureBytes t) 0 ++ byteAt (temperatureBytes t) 1 : BitVec 16).toInt = t := by
  have hword : (byteAt (temperatureBytes t) 0 ++ byteAt (temperatureBytes t) 1 : BitVec 16) = BitVec.ofInt 16 t := by
    have h := (BitVec.ofInt 16 t).isLt
    refine BitVec.eq_of_toNat_eq ?_
    show (byteOf ((BitVec.ofInt 16 t).toNat / 256) ++ byteOf (BitVec.ofInt 16 t).toNat).toNat = _
    rw [BitVec.toNat_append, ← Nat.shiftLeft_add_eq_or_of_lt (BitVec.isLt _), Nat.shiftLeft_eq]
    unfold byteOf
    rw [BitVec.toNat_ofNat, BitVec.toNat_ofNat]
    omega
  have hint := BitVec.toInt_ofInt_eq_self (w := 16) (by decide) (by omega : -2 ^ 15 ≤ t) (by omega)
  rw [hword]
  exact hint

/-- Settles O44: the branches of each measurement, and the budget that follows a change. -/
theorem monitorsFollowMeasurements : Obligations.MonitorsFollowMeasurements := by
  unfold Obligations.MonitorsFollowMeasurements
  refine fun s => ⟨fun a b c d hformed ha hb hc hd => ?_, fun v hformed hv => ?_, fun hcut hhold => ?_, fun t h1 h2 => ?_⟩
  · intro m state
    have hm : meanOf [clampVolt d, clampVolt c, clampVolt b, clampVolt a] = m := by
      rw [clampVolt_of_le ha, clampVolt_of_le hb, clampVolt_of_le hc, clampVolt_of_le hd]
      simp only [meanOf, List.sum_cons, List.sum_nil, m]
      omega
    let p : Supply := { s.supply with
      samples := [d, c, b, a], measured := m, formed := true, state, cutInForce := s.settings.cutVolt
      lowInForce := s.settings.lowVolt, overInForce := s.settings.overVolt }
    let t : State := { s with supply := p }
    have hu : s.firstSupply a b c d = (if state = .normal then t else t.post (supplyReport p)).rebudget (supplyCause state) := by
      unfold State.firstSupply
      dsimp only
      rw [hm, clampVolt_of_le ha, clampVolt_of_le hb, clampVolt_of_le hc, clampVolt_of_le hd]
      exact if_neg (by rw [hformed]; nofun)
    refine ⟨s.firstSupply a b c d, rfl, ?_⟩
    rw [hu]
    by_cases hnormal : state = .normal
    · rw [if_pos hnormal, if_pos hnormal]
      have hfollows := t.budgetFollows_rebudget (supplyCause state)
      have hsupply : (t.rebudget (supplyCause state)).supply = p := by rw [hfollows.2.1]
      have hreports : (t.rebudget (supplyCause state)).reports = s.reports := by
        rw [(t.rebudget_sheds _).1.onlyHolders]
      exact ⟨hsupply, by rw [hsupply]; exact hfollows, hreports⟩
    · rw [if_neg hnormal, if_neg hnormal]
      obtain ⟨hfollows, hreports⟩ := t.budgetFollows_post (supplyReport p) (supplyCause state)
      have hsupply : ((t.post (supplyReport p)).rebudget (supplyCause state)).supply = p := by rw [hfollows.2.1]
      refine ⟨hsupply, by rw [hsupply]; exact hfollows, hreports.trans ?_⟩
      rw [supplyReport_eq]
      exact State.post_reports_congr _ rfl rfl
  · intro samples m t p next
    let w : State := { s with supply := p }
    have hnext : supplyOnMeasure s.settings s.supply.state (s.supply.sampled s.settings v).measured = next := by
      simp only [next]
      cases s.supply.state with
      | normal | low | cut => rfl
      | overVolt => exact supplyOnMeasure_overVolt ..
    refine ⟨fun hcut hsame => ?_, fun hcut hchange => ?_, fun hcut hbelow => ?_, fun hcut habove hwait => ?_,
      fun hcut habove hlatch hhold => ⟨fun hpos => ?_, fun hzero => ?_⟩⟩
    · exact next_finish_of_same (State.measureSupply_of_same hformed hv hcut (hnext.trans hsame)) rfl
    · refine ⟨_, rfl, ?_⟩
      rw [State.measureSupply_of_change hformed hv hcut (hnext ▸ hchange), hnext]
      exact State.supplyBecomes ..
    · exact next_finish_of_same ((State.measureSupply_of_cut hformed hv hcut).trans (State.measureInCut_of_below (s := w) hbelow)) rfl
    · exact next_finish_of_same ((State.measureSupply_of_cut hformed hv hcut).trans
        (State.measureInCut_of_waiting (s := w) habove hwait)) rfl
    · exact next_finish_of_same ((State.measureSupply_of_cut hformed hv hcut).trans
        ((State.measureInCut_of_ready (s := w) habove hlatch hhold).trans (State.startHoldOff_of_pos (s := w) hpos))) rfl
    · have hu : s.measureSupply v = w.changeSupply (supplyAfterHoldOff p) := (State.measureSupply_of_cut hformed hv hcut).trans
        ((State.measureInCut_of_ready (s := w) habove hlatch hhold).trans (State.startHoldOff_of_zero (s := w) hzero))
      refine ⟨s.measureSupply v, rfl, ?_⟩
      rw [hu]
      exact w.supplyBecomes _
  · refine ⟨s.holdOffExpires, rfl, ?_⟩
    have hu : s.holdOffExpires = s.changeSupply (supplyAfterHoldOff s.supply) :=
      (if_pos (timerDue_iff.2 hhold)).trans (if_pos hcut)
    rw [hu]
    exact s.supplyBecomes _
  · intro next thermal
    let w : State := { s with thermal }
    have hu : s.measureThermal t = if next = s.thermal.state then w else
        (w.post (thermalReport thermal)).rebudget (thermalCause next) := by
      have hnext : (if s.thermal.formed then thermalOnMeasure s.thermal.state t else thermalOf t) = next := by
        simp only [next]
        cases s.thermal.formed <;> cases s.thermal.state <;> rfl
      unfold State.measureThermal
      rw [clampCelsius_of_mem h1 h2]
      dsimp only
      rw [hnext]
    refine ⟨fun hsame => next_finish_of_same (hu.trans (if_pos hsame)) rfl, fun hchange => ⟨s.measureThermal t, rfl, ?_⟩⟩
    rw [hu, if_neg hchange]
    obtain ⟨hfollows, hreports⟩ := w.budgetFollows_post (thermalReport thermal) (thermalCause next)
    refine ⟨hfollows, ⟨_, _, temperatureBytes_toInt h1 h2, hreports.trans ?_⟩, fun hshut => ?_⟩
    · exact State.post_reports_congr _ rfl rfl
    · have hbrake : AllHoldersBrake w .thermal ((w.post (thermalReport thermal)).rebudget .thermal) :=
        AllHoldersBrake.post _ (State.allHoldersBrake (by
          show budgetOf s.settings s.supply.state next = 0
          rw [hshut]
          rfl))
      have hcause : thermalCause next = .thermal := if_pos hshut
      rw [hcause]
      exact hbrake

end Sys2Proof.Machine
end

section
/-! SUPPORT. The ports: what the checker asks, the receptions that begin and end, and a port that goes DOWN. -/

namespace Sys2Proof.Machine

variable {s : State}

theorem frameChecks_iff {bytes : List Byte} {err : Bool} : frameChecks bytes err = true ↔
    err = false ∧ 7 ≤ bytes.length ∧ (byteAt bytes 1).toNat ≤ 48 ∧ bytes.length = 7 + (byteAt bytes 1).toNat
      ∧ (crc16 (bytes.take (bytes.length - 2))).toNat = wordAt bytes (bytes.length - 2) := by
  simp [frameChecks, and_assoc]

theorem heldPlaces_eq (r : Option Reception) : heldPlaces r = if r = some .underReady then 1 else 0 := by
  rcases r with _ | _ | _ <;> rfl

theorem readyU_iff : readyU s = true ↔ s.line.uUp = true
    ∧ s.line.downQueue.length + (if s.line.uRx = some .underReady then 1 else 0) < 4
    ∧ (s.line.dUp = false → s.line.upQueue.length < 8) := by
  unfold readyU isEndStation downPlaces upPlaces
  rw [heldPlaces_eq]
  cases s.line.dUp <;> simp [and_assoc]

theorem readyD_iff : readyD s = true ↔ s.line.dUp = true
    ∧ s.line.upQueue.length + (if s.line.dRx = some .underReady then 1 else 0) < 8 := by
  unfold readyD upPlaces
  rw [heldPlaces_eq]
  simp

theorem State.pushEcho_of_room {f : Frame} (h : s.line.upQueue.length < 8) :
    s.pushEcho f = { s with line := { s.line with upQueue := s.line.upQueue ++ [echoOf s.line.station f] } } := if_pos h

theorem State.pushEcho_of_full {f : Frame} (h : ¬ s.line.upQueue.length < 8) :
    s.pushEcho f = { s with line := { s.line with lineError := true } } := if_neg h

/-- The echoes of a port that goes DOWN fill the places left upstream; the rest set the line error indicator (R153). -/
theorem State.foldl_pushEcho (l : List DownFrame) (s : State) (h : s.line.upQueue.length ≤ 8) :
    l.foldl (fun t d => t.pushEcho d.frame) s = { s with line := { s.line with
      upQueue := (s.line.upQueue ++ l.map (fun d => echoOf s.line.station d.frame)).take 8
      lineError := s.line.lineError || decide (8 < s.line.upQueue.length + l.length) } } := by
  induction l generalizing s with
  | nil =>
    have htake : (s.line.upQueue ++ [] : List Frame).take 8 = s.line.upQueue := by rw [List.append_nil, List.take_of_length_le h]
    have hnot : decide (8 < s.line.upQueue.length + 0) = false := decide_eq_false (by omega)
    simp only [List.foldl_nil, List.map_nil, List.length_nil, htake, hnot, Bool.or_false]
  | cons d l ih =>
    rw [List.foldl_cons]
    by_cases hroom : s.line.upQueue.length < 8
    · rw [State.pushEcho_of_room hroom, ih _ (by rw [List.length_append]; exact hroom)]
      simp [Nat.add_assoc, Nat.add_comm 1]
    · have hlen : s.line.upQueue.length = 8 := by omega
      rw [State.pushEcho_of_full hroom, ih { s with line := { s.line with lineError := true } } h]
      simp [hlen]

/-! ### The beginning and the end of a reception -/

theorem receptionOf_eq (ready : Bool) : receptionOf ready = if ready then .underReady else .againstHandshake := rfl

theorem State.firstByte_u (hup : s.line.uUp = true) (hrx : s.line.uRx = none) :
    s.firstByte .uPort = { s with line := { s.line with uRx := some (receptionOf (readyU s)) } } :=
  if_pos (by simp [hup, hrx])

theorem State.firstByte_d (hup : s.line.dUp = true) (hrx : s.line.dRx = none) :
    s.firstByte .dPort = { s with line := { s.line with dRx := some (receptionOf (readyD s)) } } :=
  if_pos (by simp [hup, hrx])

theorem State.firstByte_of_dReceiving {r : Reception} (h : s.line.dRx = some r) : s.firstByte .dPort = s :=
  if_neg (by simp [h])

theorem State.firstByte_of_reception {p : Port} {r : Reception} (h : s.reception p = some r) : s.firstByte p = s := by
  cases p with
  | uPort => exact State.firstByte_of_receiving h
  | dPort => exact State.firstByte_of_dReceiving h

/-- A bad frame, and any frame against the handshake, is discarded at its end (R145, R157). -/
theorem State.endBadFrame_of_bad {p : Port} {bytes : List Byte} {err : Bool} (hup : s.portUp p = true)
    (h : (s.reception p = some .underReady ∧ frameChecks bytes err = false) ∨ s.reception p = some .againstHandshake) :
    s.endBadFrame p bytes err = s.discardFrame p := by
  refine (if_pos hup).trans ?_
  dsimp only
  rcases h with ⟨hr, hbad⟩ | hr
  · rw [State.firstByte_of_reception hr]
    exact if_pos (by rw [hbad]; simp)
  · rw [State.firstByte_of_reception hr]
    exact if_pos (by simp [hr])

theorem State.acceptUpstream_of_good {f : Frame} (hup : s.line.dUp = true) (hr : s.line.dRx = some .underReady)
    (hf : f.payload.length ≤ 48) :
    s.acceptUpstream f = { s with line := { s.line with dRx := none, upQueue := s.line.upQueue ++ [f] } } := by
  refine (if_pos hup).trans ?_
  dsimp only
  rw [State.firstByte_of_dReceiving hr]
  exact if_neg (by simp [hr, payloadFits, hf])

theorem State.acceptUpstream_of_against {f : Frame} (hup : s.line.dUp = true) (hr : s.line.dRx = some .againstHandshake) :
    s.acceptUpstream f = s.discardFrame .dPort := by
  refine (if_pos hup).trans ?_
  dsimp only
  rw [State.firstByte_of_dReceiving hr]
  exact if_pos (by simp [hr])

/-- The one frame command of the D-port. -/
theorem frame_dPort {c : Instr} {f : Frame} (hc : c.frame = some (.dPort, f)) : c = .upstreamFrameAccepted f := by
  cases c <;> cases hc
  rfl

/-- Settles O48: a lemma for each branch of each command of the ports. -/
theorem portsReceiveFrames : Obligations.PortsReceiveFrames := by
  unfold Obligations.PortsReceiveFrames
  intro s
  refine ⟨fun bytes err => ?_, readyU_iff, readyD_iff, fun hup hrx => congrArg _ (State.firstByte_u hup hrx),
    fun hup hrx => congrArg _ (State.firstByte_d hup hrx), fun h => congrArg _ (if_neg (by rw [h]; nofun)),
    fun h => congrArg _ (if_neg (by rw [h]; nofun)), fun bytes err hup h => congrArg _ (State.endBadFrame_of_bad (p := .uPort) hup h),
    fun bytes err hup h => congrArg _ (State.endBadFrame_of_bad (p := .dPort) hup h),
    fun f hup hr hf => congrArg _ (State.acceptUpstream_of_good hup hr hf),
    fun f hup hr => congrArg _ (State.acceptUpstream_of_against hup hr), fun c f hc hup hr => ?_, fun c p f hc hdown => ?_, rfl, rfl,
    fun hup hcut => ?_, fun t hup htx hcut => ?_, fun p hdown => ?_, fun hup hlen => ?_⟩
  · refine frameChecks_iff.trans (and_congr_right fun _ => and_congr_right fun hlen => ?_)
    have hlast : bytes.length - 2 + 1 = bytes.length - 1 := by omega
    rw [wordAt_eq, hlast]
  · obtain ⟨act, hact, -⟩ := exec_frame hc
    rw [hact, State.accept_of_against hup hr]
  · cases p with
    | uPort =>
      obtain ⟨act, hact, -⟩ := exec_frame hc
      rw [hact, State.accept_of_down hdown]
    | dPort =>
      rw [frame_dPort hc]
      exact congrArg _ (if_neg (by rw [show s.line.dUp = false from hdown]; nofun))
  · refine congrArg Host.Outcome.next ((if_pos hup).trans ?_)
    rw [hcut, Option.or_none]
  · refine congrArg Host.Outcome.next ((if_pos hup).trans ?_)
    simp only [hcut, htx, Option.none_or]
  · cases p with
    | uPort => exact congrArg Host.Outcome.next (if_neg (by rw [show s.line.uUp = false from hdown]; nofun))
    | dPort => exact congrArg Host.Outcome.next (if_neg (by rw [show s.line.dUp = false from hdown]; nofun))
  · intro echoes
    let t : State := { s with line := { s.line with
      dUp := false, dRx := none, lineError := s.line.lineError || s.line.dRx.isSome, dSending := false, downQueue := [] } }
    have hechoes : echoes.length = (s.line.downQueue.filter (·.acted)).length := List.length_map ..
    refine congrArg Host.Outcome.next ((if_pos hup).trans ((State.foldl_pushEcho _ t hlen).trans ?_))
    rw [← hechoes]

/-! ### Transmission (R150, R154 to R156) -/

theorem reportBytes_eq (r : Report) : reportBytes r =
    [(match r.kind with
        | .arrived => 1 | .halted => 2 | .fault => 3 | .cleared => 4 | .referenced => 5 | .drift => 6 | .airingDone => 7
        | .input => 8 | .weather => 9 | .supply => 10 | .thermal => 11 | .line => 12 | .freshStart => 13 : Byte),
      (match r.chan with
        | none => 0xFF | some .ch0 => 0 | some .ch1 => 1 | some .ch2 => 2 | some .ch3 => 3 | some .ch4 => 4 | some .ch5 => 5)]
    ++ (match r.position with | none => [0xFF, 0xFF] | some p => [byteOf (p / 256), byteOf p])
    ++ [byteOf (r.rank.getD 0), r.detail.b5, r.detail.b6, r.detail.b7, r.detail.b8] := by
  obtain ⟨kind, chan, position, rank, detail⟩ := r
  have hkind : byteOf (reportCode kind) = (match kind with
      | .arrived => 1 | .halted => 2 | .fault => 3 | .cleared => 4 | .referenced => 5 | .drift => 6 | .airingDone => 7
      | .input => 8 | .weather => 9 | .supply => 10 | .thermal => 11 | .line => 12 | .freshStart => 13 : Byte) := by
    cases kind <;> rfl
  have hchan : (match chan with | none => 0xFF | some c => byteOf (chanIndex c) : Byte) = (match chan with
      | none => 0xFF | some .ch0 => 0 | some .ch1 => 1 | some .ch2 => 2 | some .ch3 => 3 | some .ch4 => 4 | some .ch5 => 5) := by
    rcases chan with _ | c
    · rfl
    · cases c <;> rfl
  unfold reportBytes
  rw [hkind]
  refine congrArg (fun x => ([_, x] ++ _ ++ _ : List Byte)) hchan |>.trans ?_
  cases position <;> rfl

theorem next_transmit {t : State} (hup : s.line.uUp = true) (htx : s.line.uTx = none) (h : s.chooseFrame = t) :
    exec (.uPortTransmitChoice true) s = .next t :=
  congrArg Host.Outcome.next ((if_pos (by simp [hup, htx])).trans h)

section choose
variable (hcut : s.line.uCut = none) (hreply : s.line.reply = none)

theorem State.chooseFrame_of_cut {t : TxFrame} (h : s.line.uCut = some t) :
    s.chooseFrame = { s with line := { s.line with uTx := some t, uCut := none } } := by
  unfold State.chooseFrame
  rw [h]

include hcut

theorem State.chooseFrame_of_reply {r : Frame} (h : s.line.reply = some r) :
    s.chooseFrame = { s with line := { s.line with uTx := some ⟨.reply, r⟩ } } := by
  unfold State.chooseFrame
  rw [h, hcut]

include hreply

theorem State.chooseFrame_of_report (hrecords : s.reports.records ≠ []) (h : 4 ≤ s.line.forwardedRun ∨ s.line.upQueue = []) :
    s.chooseFrame = s.sendReport := by
  unfold State.chooseFrame
  rw [hreply, hcut]
  dsimp only
  by_cases hrun : 4 ≤ s.line.forwardedRun
  · exact if_pos (by simp [hrun, hrecords])
  · rw [if_neg (by simp [hrun]), h.resolve_left hrun]
    exact if_neg (by simpa using hrecords)

theorem State.chooseFrame_of_forward {f : Frame} {rest : List Frame} (hq : s.line.upQueue = f :: rest)
    (h : s.line.forwardedRun < 4 ∨ s.reports.records = []) : s.chooseFrame =
      { s with line := { s.line with uTx := some ⟨.forwarded, f⟩, forwardedRun := min 4 (s.line.forwardedRun + 1) } } := by
  unfold State.chooseFrame
  rw [hreply, hcut, hq]
  refine if_neg fun hsend => ?_
  rcases h with h | h
  · simp at hsend
    omega
  · simp [h] at hsend

theorem State.chooseFrame_of_none (hq : s.line.upQueue = []) (hrecords : s.reports.records = []) : s.chooseFrame = s := by
  unfold State.chooseFrame
  rw [hreply, hcut, hq]
  dsimp only
  rw [if_neg (by simp [hrecords])]
  exact if_pos (by simp [hrecords])

end choose

theorem State.frameSent_of_reply {f : Frame} (h : s.line.uTx = some ⟨.reply, f⟩) :
    s.frameSent = { s with line := { s.line with uTx := none, reply := none } } := by
  unfold State.frameSent
  rw [h]

theorem State.frameSent_of_forwarded {f : Frame} (h : s.line.uTx = some ⟨.forwarded, f⟩) :
    s.frameSent = { s with line := { s.line with uTx := none, upQueue := s.line.upQueue.tail } } := by
  unfold State.frameSent
  rw [h]

theorem State.frameSent_of_report {f : Frame} (h : s.line.uTx = some ⟨.report, f⟩) :
    s.frameSent = { s with line := { s.line with uTx := none } } := by
  unfold State.frameSent
  rw [h]

/-- Settles O49: the record's bytes, and the choices in their order. -/
theorem portsTransmitFrames : Obligations.PortsTransmitFrames := by
  unfold Obligations.PortsTransmitFrames
  refine ⟨fun r => (reportBytes_eq r).trans rfl, fun c => ⟨fun h => if_pos h, fun h => if_neg (by rw [h]; nofun)⟩,
    fun s => ⟨fun hup hsend hq => ?_, ?_, fun h => congrArg Host.Outcome.next (if_pos h), ?_, fun hup htx => ⟨fun t h => ?_,
      fun hcut => ⟨fun r h => ?_, fun hreply => ⟨fun hr h => ?_, fun f rest hq h => ?_, fun hq hr => ?_⟩⟩⟩,
      fun f h => congrArg Host.Outcome.next (State.frameSent_of_reply h), fun f h => congrArg Host.Outcome.next (State.frameSent_of_forwarded h),
      fun f h => congrArg Host.Outcome.next (State.frameSent_of_report h)⟩⟩
  · exact congrArg Host.Outcome.next (if_pos (by simp [hup, hsend, hq]))
  · exact congrArg Host.Outcome.next (if_neg (by simp))
  · exact congrArg Host.Outcome.next (if_neg (by simp))
  · exact next_transmit hup htx (State.chooseFrame_of_cut h)
  · exact next_transmit hup htx (State.chooseFrame_of_reply hcut h)
  · refine next_transmit hup htx ((State.chooseFrame_of_report hcut hreply hr h).trans ?_)
    unfold State.sendReport
    cases s.reports.lost <;> rfl
  · exact next_transmit hup htx (State.chooseFrame_of_forward hcut hreply hq h)
  · exact next_transmit hup htx (State.chooseFrame_of_none hcut hreply hq hr)

end Sys2Proof.Machine
end

section
/-! SUPPORT. The CRC bit by bit, and a frame read back from the wire. -/

namespace Sys2Proof.Machine

/-! ### The CRC (section 9.7) -/

/-- One bit of the message meets the most significant bit of the register. -/
def serialBit (c : Word16) (x : Bool) : Word16 := if c.msb = x then c <<< 1 else (c <<< 1) ^^^ 0x1021

/-- Message bits that wait in the register meet it one by one. -/
theorem crcBit_xor (c x : Word16) : crcBit (c ^^^ x) = serialBit c x.msb ^^^ (x <<< 1) := by
  unfold crcBit serialBit
  rw [BitVec.msb_xor, BitVec.shiftLeft_xor_distrib]
  have hcomm : (c <<< 1 ^^^ x <<< 1) ^^^ 0x1021 = (c <<< 1 ^^^ 0x1021) ^^^ x <<< 1 := by ac_rfl
  cases c.msb <;> cases x.msb
  · rfl
  · exact hcomm
  · exact hcomm
  · rfl

theorem msb_waiting (b : Byte) (k : Nat) (hk : k ≤ 7) : ((b.setWidth 16 : Word16) <<< (8 + k)).msb = b.getLsbD (7 - k) := by
  rw [BitVec.msb_eq_getLsbD_last, BitVec.getLsbD_shiftLeft, BitVec.getLsbD_setWidth]
  have h1 : ¬ 15 < 8 + k := by omega
  have h2 : 15 - (8 + k) = 7 - k := by omega
  have h3 : 7 - k < 16 := by omega
  simp [h1, h2, h3]

theorem none_waiting (b : Byte) : (b.setWidth 16 : Word16) <<< 16 = 0#16 := BitVec.shiftLeft_eq_zero le_rfl

theorem crcByte_eq (c : Word16) (b : Byte) : crcByte c b =
    [7, 6, 5, 4, 3, 2, 1, 0].foldl (fun (c : Word16) (i : Nat) => serialBit c (b.getLsbD i)) c := by
  unfold crcByte
  simp only [crcBit_xor, ← BitVec.shiftLeft_add]
  rw [none_waiting, BitVec.xor_zero]
  have h := msb_waiting b
  rw [h 0 (by omega), h 1 (by omega), h 2 (by omega), h 3 (by omega), h 4 (by omega), h 5 (by omega), h 6 (by omega), h 7 (by omega)]
  rfl

theorem crc16_append (l : List Byte) (b : Byte) : crc16 (l ++ [b]) = crcByte (crc16 l) b := by
  unfold crc16
  rw [List.foldl_append]
  rfl

/-! ### A frame on the wire (Table 9.4) -/

theorem wordAt_be16 (l : List Byte) (x : Word16) (tail : List Byte) : wordAt (l ++ (be16 x.toNat ++ tail)) l.length = x.toNat := by
  have h0 : byteAt (l ++ (be16 x.toNat ++ tail)) l.length = byteOf (x.toNat / 256) := by
    simp [byteAt, be16]
  have h1 : byteAt (l ++ (be16 x.toNat ++ tail)) (l.length + 1) = byteOf x.toNat := by
    simp [byteAt, be16]
  have hx := x.isLt
  rw [wordAt_eq, h0, h1]
  unfold byteOf
  rw [BitVec.toNat_ofNat, BitVec.toNat_ofNat]
  omega

section wire
variable (f : Frame)

theorem length_frameBody : f.body.length = 5 + f.payload.length := by
  simp only [Frame.body, be16, List.length_cons, List.length_append, List.length_nil]
  omega

theorem length_frameWire : f.wire.length = 7 + f.payload.length := by
  unfold Frame.wire
  rw [List.length_append, length_frameBody f]
  simp only [be16, List.length_cons, List.length_nil]
  omega

variable {f} (hf : f.payload.length ≤ 48)
include hf

/-- A frame as it stands on the wire passes the checker (R145). -/
theorem frameChecks_wire : frameChecks f.wire false = true := by
  have hlen : f.wire.length - 2 = f.body.length := by rw [length_frameWire f, length_frameBody f]; omega
  have hcount : (byteAt f.wire 1).toNat = f.payload.length := by
    show (byteOf f.payload.length).toNat = _
    exact byteOf_toNat_of_lt (by omega)
  have htake : f.wire.take f.body.length = f.body := List.take_left
  have hcrc : wordAt f.wire f.body.length = (crc16 f.body).toNat := wordAt_be16 f.body (crc16 f.body) []
  rw [frameChecks_iff, hlen, hcount, htake, hcrc, length_frameWire f]
  exact ⟨rfl, by omega, hf, rfl, rfl⟩

omit hf in
theorem frameOf_wire : frameOf f.wire = f := by
  have hpayload : ((f.wire.drop 5).take (f.wire.length - 7)) = f.payload := by
    have hn : f.wire.length - 7 = f.payload.length := by rw [length_frameWire f]; omega
    rw [hn]
    exact List.take_left
  have htag : BitVec.ofNat 16 (wordAt f.wire 3) = f.tag := by
    have h : wordAt f.wire 3 = f.tag.toNat :=
      wordAt_be16 [f.kind, byteOf f.payload.length, f.station] f.tag (f.payload ++ be16 (crc16 f.body).toNat)
    rw [h, BitVec.ofNat_toNat, BitVec.setWidth_eq]
  unfold frameOf
  rw [hpayload, htag]
  rfl

end wire

/-! ### The command a frame carries (R145, R159) -/

theorem payloadFits_iff {p : List Byte} : payloadFits p = true ↔ p.length ≤ 48 := decide_eq_true_iff

theorem tableWriteCommand_eq {f : Frame} {k : Nat} (h : selectsTable k f.payload = true) : (byteAt f.payload 0).toNat / 64 = k := by
  cases hp : f.payload with
  | nil =>
    rw [hp] at h
    exact (beq_iff_eq.1 h).symm
  | cons sel r =>
    rw [hp] at h
    exact beq_iff_eq.1 h

/-- No kind but those of Table 9.5 has a command of its own. -/
theorem downstreamCommand_unknown {f : Frame} (h : downstreamKinds.contains f.kind = false) : downstreamCommand f = .unknownKindFrame f := by
  have hkind (k : Byte) (hk : downstreamKinds.contains k = true) : f.kind.toNat ≠ k.toNat := fun heq => by
    rw [BitVec.eq_of_toNat_eq heq, hk] at h
    cases h
  unfold downstreamCommand
  split
  · rename_i heq; exact absurd heq (hkind 0x01 rfl)
  · rename_i heq; exact absurd heq (hkind 0x02 rfl)
  · rename_i heq; exact absurd heq (hkind 0x03 rfl)
  · rename_i heq; exact absurd heq (hkind 0x04 rfl)
  · rename_i heq; exact absurd heq (hkind 0x05 rfl)
  · rename_i heq; exact absurd heq (hkind 0x10 rfl)
  · rename_i heq; exact absurd heq (hkind 0x11 rfl)
  · rename_i heq; exact absurd heq (hkind 0x12 rfl)
  · rename_i heq; exact absurd heq (hkind 0x13 rfl)
  · rename_i heq; exact absurd heq (hkind 0x14 rfl)
  · rfl

/-- A well-formed command that a frame carries on the U-port fits a payload and is what its frame is read as. -/
theorem downstreamCommand_frame {c : Instr} {f : Frame} (hc : c.wf = true) (hf : c.frame = some (.uPort, f)) :
    f.payload.length ≤ 48 ∧ downstreamCommand f = c := by
  cases c with
  | demand | release | weather | beacon | enumerate | tableRead | statusRead | stationReset =>
    cases hf
    exact ⟨payloadFits_iff.1 hc, rfl⟩
  | clearSupply =>
    cases hf
    exact ⟨Nat.le_of_ble_eq_true rfl, rfl⟩
  | clearFault st tag p =>
    cases hf
    obtain ⟨hfits, hne⟩ := (Bool.and_eq_true _ _).mp hc
    exact ⟨payloadFits_iff.1 hfits, if_neg (bne_iff_ne.1 hne)⟩
  | unknownKindFrame =>
    cases hf
    obtain ⟨hfits, hkind⟩ := (Bool.and_eq_true _ _).mp hc
    exact ⟨payloadFits_iff.1 hfits, downstreamCommand_unknown (by simpa using hkind)⟩
  | groupWrite | profileWrite | inputWrite | settingsWrite =>
    cases hf
    obtain ⟨hfits, hselect⟩ := (Bool.and_eq_true _ _).mp hc
    refine ⟨payloadFits_iff.1 hfits, ?_⟩
    show tableWriteCommand _ = _
    unfold tableWriteCommand
    rw [tableWriteCommand_eq hselect]
    rfl
  | _ => cases hf

/-- Settles O51: the CRC bit by bit, and the frame read back from its wire form. -/
theorem framesReadAsTheirCommands : Obligations.FramesReadAsTheirCommands := by
  unfold Obligations.FramesReadAsTheirCommands
  refine ⟨⟨rfl, fun l b => ?_⟩, fun f => rfl, fun c p f hc hf => ?_⟩
  · rw [crc16_append, crcByte_eq]
    rfl
  have hlen : f.payload.length ≤ 48 := by
    cases p with
    | uPort => exact (downstreamCommand_frame hc hf).1
    | dPort =>
      obtain rfl := frame_dPort hf
      exact payloadFits_iff.1 hc
  refine ⟨(if_pos (frameChecks_wire hlen)).trans ?_, if_neg (by rw [frameChecks_iff]; nofun)⟩
  rw [frameOf_wire]
  cases p with
  | uPort => exact (downstreamCommand_frame hc hf).2
  | dPort => exact (frame_dPort hf).symm

end Sys2Proof.Machine
end

section
/-! SUPPORT. The bits of a byte, a request that is performed and answered, and the reads. -/

namespace Sys2Proof.Machine

variable {s t : State} {ch : Chan} {station : Byte} {tag : Word16} {p data : List Byte}

/-! ### The bits of a byte -/

/-- The number with the bits `l` from the least significant on, and `n` above them. -/
def bitsOn (n : Nat) : List Bool → Nat
  | [] => n
  | b :: l => bitOf b + 2 * bitsOn n l

theorem bitOf_add_div (b : Bool) (n : Nat) : (bitOf b + 2 * n) / 2 = n := by
  cases b <;> simp only [bitOf, if_true, if_false, Bool.false_eq_true] <;> omega

theorem testBit_bitsOn (n : Nat) (l : List Bool) (i : Nat) :
    (bitsOn n l).testBit i = if i < l.length then l.getD i false else n.testBit (i - l.length) := by
  induction l generalizing i with
  | nil => rfl
  | cons b l ih =>
    cases i with
    | zero => cases b <;> simp [bitsOn, bitOf, Nat.testBit_zero, Nat.add_mod]
    | succ i =>
      rw [Nat.testBit_add_one]
      unfold bitsOn
      rw [bitOf_add_div, ih]
      simp

theorem getLsbD_byteOf (n i : Nat) : (byteOf n).getLsbD i = (decide (i < 8) && n.testBit i) := BitVec.getLsbD_ofNat ..

/-- The bits of a byte of flags are the flags in order. -/
theorem getLsbD_flags {l : List Bool} (hl : l.length ≤ 8) (i : Nat) : (byteOf (bitsOn 0 l)).getLsbD i = l.getD i false := by
  rw [getLsbD_byteOf, testBit_bitsOn]
  by_cases hi : i < l.length
  · rw [if_pos hi, decide_eq_true (by omega), Bool.true_and]
  · rw [if_neg hi, Nat.zero_testBit, Bool.and_false, List.getD_eq_default _ _ (Nat.not_lt.1 hi)]

/-! ### A request that is performed (R158) -/

/-- The station after the request `q`, its reply frame in the reply slot. -/
def Performed.answers (q : Performed) (tag : Word16) : State :=
  { q.state with line := { q.state.line with reply := some (replyFrame q.state.line.station tag q) } }

theorem next_performed (h : Consumes s station p) (k : Byte) (perform : State → Performed) :
    (.next (s.accept p (actAddressed ⟨k, station, tag, p⟩ perform)) : Host.Outcome State Fault Refusal) =
      .next (s.finish ((perform { s with line := heard s }).answers tag)) := by
  obtain ⟨hears, hn, hs, hreply⟩ := h
  have hact : actAddressed ⟨k, station, tag, p⟩ perform { s with line := heard s } =
      ((perform { s with line := heard s }).answers tag, .gone) := actAddressed_of_consumed hn hs hreply
  rw [State.accept_of_gone hears hact]

/-- The line with the reply of the station numbered `station`. -/
def Line.replying (l : Line) (station : Nat) (tag : Word16) (result : ReplyResult) (data : List Byte) : Line :=
  { l with reply := some { kind := 0x21, station := byteOf station, tag, payload := resultByte result :: data } }

/-- A request that leaves the admission unit and the station number as they were: its outcome stands, with the reply. -/
theorem next_answered (h : Consumes s station p) {k : Byte} {perform : State → Performed} {u : State} {result : ReplyResult}
    (hq : perform { s with line := heard s } = { state := u, result, data }) (hstation : u.line.station = s.line.station)
    (hadm : u.admission = s.admission) :
    (.next (s.accept p (actAddressed ⟨k, station, tag, p⟩ perform)) : Host.Outcome State Fault Refusal) =
      .next { u with line := u.line.replying s.line.station tag result data } := by
  rw [next_performed h, hq, ← hstation]
  exact congrArg Host.Outcome.next (State.finish_eq_self hadm.symm)

/-- A request that is refused changes nothing but the reply. -/
theorem next_refused (h : Consumes s station p) {k : Byte} {perform : State → Performed} {result : ReplyResult}
    (hq : perform { s with line := heard s } = refuse { s with line := heard s } result) :
    (.next (s.accept p (actAddressed ⟨k, station, tag, p⟩ perform)) : Host.Outcome State Fault Refusal) =
      .next { s with line := answered s tag (resultByte result) [] } :=
  next_answered (u := { s with line := heard s }) h hq rfl rfl

/-! ### The records and the pages (R160 to R167) -/

theorem chanOfIndex_chanIndex (ch : Chan) : chanOfIndex (chanIndex ch) = some ch := by cases ch <;> rfl

theorem chanOfIndex_of_ge {n : Nat} (h : 6 ≤ n) : chanOfIndex n = none := List.getElem?_eq_none h

theorem inputOfIndex_inputIndex (n : InputNo) : inputOfIndex (inputIndex n) = some n := by cases n <;> rfl

theorem inputOfIndex_of_none {n : Nat} (h : n = 0 ∨ 5 ≤ n) : inputOfIndex n = none := by
  cases n with
  | zero => rfl
  | succ n => exact List.getElem?_eq_none (by show 4 ≤ n; omega)

theorem chanIndex_lt (ch : Chan) : chanIndex ch < 6 := by cases ch <;> decide

theorem inputIndex_lt (n : InputNo) : 0 < inputIndex n ∧ inputIndex n < 5 := by cases n <;> decide

section record
variable {sel : Byte}

theorem recordOf_group (h : sel.toNat < 64) : recordOf s sel = some (groupBytes (s.groups.getD sel.toNat {})) := by
  have h1 : sel.toNat / 64 = 0 := by omega
  have h2 : sel.toNat % 64 = sel.toNat := by omega
  unfold recordOf
  rw [h1, h2]
  rfl

theorem recordOf_profile (h : sel.toNat / 64 = 1) :
    recordOf s sel = (chanOfIndex (sel.toNat % 64)).map fun ch => profileBytes (s.chan ch).profile := by
  unfold recordOf
  rw [h]
  rfl

theorem recordOf_input (h : sel.toNat / 64 = 2) :
    recordOf s sel = (inputOfIndex (sel.toNat % 64)).map fun n => inputBytes (s.input n) := by
  unfold recordOf
  rw [h]
  rfl

theorem recordOf_settings (h : sel.toNat / 64 = 3) :
    recordOf s sel = if sel.toNat % 64 = 0 then some (settingsBytes s.settings) else none := by
  unfold recordOf
  rw [h]
  rfl

theorem recordOf_line (s : State) (l : Line) (sel : Byte) : recordOf { s with line := l } sel = recordOf s sel := rfl

theorem recordOf_of_none (h : (69 < sel.toNat ∧ sel.toNat ≤ 128) ∨ (132 < sel.toNat ∧ sel.toNat ≠ 192)) : recordOf s sel = none := by
  have hsel := sel.isLt
  have htable : sel.toNat / 64 = 1 ∨ sel.toNat / 64 = 2 ∨ sel.toNat / 64 = 3 := by omega
  rcases htable with h1 | h2 | h3
  · rw [recordOf_profile h1, chanOfIndex_of_ge (by omega), Option.map_none]
  · rw [recordOf_input h2, inputOfIndex_of_none (by omega), Option.map_none]
  · rw [recordOf_settings h3, if_neg (by omega)]

end record

theorem performTableRead_of_some {sel : Byte} (h : recordOf t sel = some data) :
    performTableRead [sel] t = { state := t, result := .done, data } := by
  unfold performTableRead
  dsimp only
  rw [h]

theorem performTableRead_of_none {sel : Byte} (h : recordOf t sel = none) : performTableRead [sel] t = refuse t .noSuch := by
  unfold performTableRead
  dsimp only
  rw [h]

theorem performTableRead_of_length (h : p.length ≠ 1) : performTableRead p t = refuse t .format := by
  unfold performTableRead
  split
  · exact absurd rfl h
  · rfl

theorem performStatusRead_of_chan {b : Byte} (h : b.toNat = chanIndex ch + 1) : performStatusRead [b] t =
    { state := { t with line := { t.line with lineError := false } }, result := .done, data := channelPage t ch } := by
  unfold performStatusRead
  dsimp only
  rw [h]
  dsimp only
  rw [chanOfIndex_chanIndex]

theorem performStatusRead_of_none {b : Byte} (h : 6 < b.toNat) : performStatusRead [b] t = refuse t .noSuch := by
  obtain ⟨n, hn⟩ : ∃ n, b.toNat = n + 1 := ⟨b.toNat - 1, by omega⟩
  unfold performStatusRead
  dsimp only
  rw [hn]
  dsimp only
  rw [chanOfIndex_of_ge (by omega)]

theorem performStatusRead_of_length (h : p.length ≠ 1) : performStatusRead p t = refuse t .format := by
  unfold performStatusRead
  split
  · exact absurd rfl h
  · rfl

/-! ### The bytes of the pages (Table 9.13) -/

theorem supplyByte_eq (x : SupplyState) : supplyByte x = match x with | .normal => 0 | .low => 1 | .cut => 2 | .overVolt => 3 := by
  cases x <;> rfl

theorem thermalByte_eq (x : ThermalState) : thermalByte x = match x with | .normal => 0 | .warn => 1 | .shut => 2 := by
  cases x <;> rfl

theorem windByte_eq (x : WindState) : windByte x = match x with | .calm => 0 | .windy => 1 | .storm => 2 | .unknown => 3 := by
  cases x <;> rfl

theorem motionByte_eq (x : MotionState) : motionByte x = match x with
    | .disabled => 0 | .idle => 1 | .waiting => 2 | .moving => 3 | .braking => 4 | .dwell => 5 | .backoff => 6 | .faulted => 7 := by
  cases x <;> rfl

theorem byteOf_bitOf (b : Bool) : byteOf (bitOf b) = if b then 1 else 0 := by cases b <;> rfl

theorem statusFlags_eq (s : State) :
    statusFlags s = byteOf (bitsOn 0 [s.freshStart, s.line.lineError, s.line.lost, s.supply.latch, s.reports.lost]) := by
  refine congrArg byteOf ?_
  simp only [bitsOn]
  omega

theorem rankBit_eq (c : Channel) (k : ClaimClass) : rankBit c k = bitOf (c.slots.get k).isSome * 2 ^ (classRank k - 1) := by
  unfold rankBit
  cases (c.slots.get k).isSome <;> simp [bitOf]

theorem occupiedByte_eq (c : Channel) : occupiedByte c = byteOf (bitsOn 0 [c.slots.smoke.isSome, c.slots.service.isSome,
    c.slots.fallback.isSome, c.slots.manual.isSome, c.slots.comfort.isSome, c.slots.airing.isSome]) := by
  show _ = byteOf (bitsOn 0 [(c.slots.get .smoke).isSome, (c.slots.get .service).isSome, (c.slots.get .fallback).isSome,
    (c.slots.get .manual).isSome, (c.slots.get .comfort).isSome, (c.slots.get .airing).isSome])
  refine congrArg byteOf ?_
  simp only [allClasses, List.map_cons, List.map_nil, List.sum_cons, List.sum_nil, rankBit_eq, classRank, bitsOn]
  omega

theorem tagBytes_eq (c : Channel) (k : ClaimClass) : tagBytes c k =
    [byteOf (((c.slots.get k).map (·.tag)).getD 0 / 256), byteOf (((c.slots.get k).map (·.tag)).getD 0)] := by
  unfold tagBytes
  cases c.slots.get k <;> rfl

/-- The channel page from its parts, in the order of Table 9.13. -/
def channelPageOf (head position target middle period estimates smoke service fallback manual comfort airing : List Byte) : List Byte :=
  head ++ position ++ target ++ middle ++ period ++ estimates ++ smoke ++ service ++ fallback ++ manual ++ comfort ++ airing

theorem channelPage_eq (s : State) (ch : Chan) : channelPage s ch = channelPageOf
    [motionByte (s.chan ch).motion.state, byteOf (bitOf (s.chan ch).motion.referenced),
      match (s.chan ch).motion.fault with | none => 0 | some f => faultByte f]
    (match (s.chan ch).reported with | none => [0xFF, 0xFF] | some p => be16 p) (targetBytes (s.chan ch))
    [byteOf ((s.chan ch).selected.winRank.getD 0), byteOf ((s.chan ch).selected.queueRank.getD 0), byteOf (s.lastSampled ch)]
    (be16 (s.chan ch).travel.period)
    [byteOf (s.chan ch).motion.eOpen, byteOf (s.chan ch).motion.eClose, occupiedByte (s.chan ch)]
    (tagBytes (s.chan ch) .smoke) (tagBytes (s.chan ch) .service) (tagBytes (s.chan ch) .fallback) (tagBytes (s.chan ch) .manual)
    (tagBytes (s.chan ch) .comfort) (tagBytes (s.chan ch) .airing) := by
  have htags : allClasses.flatMap (tagBytes (s.chan ch)) = tagBytes (s.chan ch) .smoke ++ (tagBytes (s.chan ch) .service
      ++ (tagBytes (s.chan ch) .fallback ++ (tagBytes (s.chan ch) .manual ++ (tagBytes (s.chan ch) .comfort
      ++ (tagBytes (s.chan ch) .airing ++ []))))) := rfl
  unfold channelPage
  dsimp only
  rw [htags, List.append_nil]
  simp only [← List.append_assoc]
  rfl

theorem reportedBytes_eq (c : Channel) : (match c.reported with | none => [0xFF, 0xFF] | some p => be16 p) =
    if c.motion.referenced then be16 (toPermille c.travel.position c.profile.travel) else [0xFF, 0xFF] := by
  unfold Channel.reported
  cases c.motion.referenced <;> rfl

theorem headBytes_eq (c : Channel) : ([motionByte c.motion.state, byteOf (bitOf c.motion.referenced),
      match c.motion.fault with | none => 0 | some f => faultByte f] : List Byte) =
    [(match c.motion.state with
        | .disabled => 0 | .idle => 1 | .waiting => 2 | .moving => 3 | .braking => 4 | .dwell => 5 | .backoff => 6
        | .faulted => 7),
      (if c.motion.referenced then 1 else 0),
      (match c.motion.fault with
        | none => 0 | some .short => 1 | some .stalled => 2 | some .obstructed => 3 | some .travel => 4)] := by
  have hfault : (match c.motion.fault with | none => 0 | some f => faultByte f) = (match c.motion.fault with
      | none => 0 | some .short => 1 | some .stalled => 2 | some .obstructed => 3 | some .travel => 4 : Byte) := by
    rcases c.motion.fault with _ | f
    · rfl
    · cases f <;> rfl
  rw [motionByte_eq, byteOf_bitOf]
  exact congrArg (fun x => ([_, _, x] : List Byte)) hfault

/-- Settles O53: the record or the page by its select, and the pages byte by byte. -/
theorem readsAreAnswered : Obligations.ReadsAreAnswered := by
  unfold Obligations.ReadsAreAnswered
  refine ⟨fun s station tag p h => ⟨fun sel r hp hr => ?_, fun sel hp hsel => ?_, fun hlen => ?_, fun hp => ?_, fun ch hp => ?_,
    fun b hp hb => ?_, fun hlen => ?_⟩, fun s h1 h2 => ⟨statusFlags s, _, _, ?_, temperatureBytes_toInt h1 h2, fun i => ?_⟩,
    fun s ch => ?_⟩
  · subst hp
    have hrecord : recordOf s sel = some r := by
      rcases hr with ⟨hsel, hr⟩ | ⟨ch, hsel, hr⟩ | ⟨n, hsel, hr⟩ | ⟨hsel, hr⟩ <;> rw [hr]
      · exact recordOf_group hsel
      · have hi := chanIndex_lt ch
        have hn : sel.toNat % 64 = chanIndex ch := by omega
        rw [recordOf_profile (by omega), hn, chanOfIndex_chanIndex]
        rfl
      · have hi := inputIndex_lt n
        have hn : sel.toNat % 64 = inputIndex n := by omega
        rw [recordOf_input (by omega), hn, inputOfIndex_inputIndex]
        rfl
      · rw [recordOf_settings (by omega), if_pos (by omega)]
    have hperform := performTableRead_of_some ((recordOf_line s (heard s) sel).trans hrecord)
    exact next_answered h hperform rfl rfl
  · subst hp
    exact next_refused h (performTableRead_of_none (recordOf_of_none hsel))
  · exact next_refused h (performTableRead_of_length hlen)
  · subst hp
    exact next_answered (result := .done) h (perform := performStatusRead [0]) rfl rfl rfl
  · subst hp
    have hi := chanIndex_lt ch
    exact next_answered h (performStatusRead_of_chan (byteOf_toNat_of_lt (by omega))) rfl rfl
  · subst hp
    exact next_refused h (performStatusRead_of_none hb)
  · exact next_refused h (performStatusRead_of_length hlen)
  · unfold stationPage
    rw [supplyByte_eq, thermalByte_eq, windByte_eq, byteOf_bitOf] <;> rfl
  · rw [statusFlags_eq, getLsbD_flags (by simp)]
    rcases i with _ | _ | _ | _ | _ | i <;> rfl
  · intro c two
    refine ⟨occupiedByte c, ?_, fun i => ?_⟩
    · rw [channelPage_eq, headBytes_eq, reportedBytes_eq]
      simp only [tagBytes_eq]
      rfl
    · rw [occupiedByte_eq, getLsbD_flags (by simp)]
      rcases i with _ | _ | _ | _ | _ | _ | i <;> rfl

end Sys2Proof.Machine
end

section
/-! SUPPORT. The bytes of the group and the settings records, and the writes of the two tables. -/

namespace Sys2Proof.Machine

variable {s t : State} {ch : Chan} {station : Byte} {tag : Word16} {sel : Byte} {r : List Byte}

/-! ### Words and flags (section 9.7) -/

theorem bitOf_le (b : Bool) : bitOf b ≤ 1 := by cases b <;> decide

theorem ofBe16_be16 {n : Nat} (h : n < 65536) : ofBe16 (byteOf (n / 256)) (byteOf n) = n := by
  unfold ofBe16 byteOf
  rw [BitVec.toNat_ofNat, BitVec.toNat_ofNat]
  omega

/-- The bits of a word of two bytes. -/
theorem testBit_wordAt (r : List Byte) (i j : Nat) : (wordAt r i).testBit j =
    if j < 8 then (byteAt r (i + 1)).getLsbD j else (byteAt r i).getLsbD (j - 8) := by
  have h : wordAt r i = 2 ^ 8 * (byteAt r i).toNat + (byteAt r (i + 1)).toNat := by
    rw [wordAt_eq]
    omega
  rw [h, Nat.testBit_two_pow_mul_add _ (BitVec.isLt _)]
  rfl

theorem bitsOn_lt (l : List Bool) : bitsOn 0 l < 2 ^ l.length := by
  induction l with
  | nil => exact Nat.one_pos
  | cons b l ih =>
    have hb := bitOf_le b
    rw [List.length_cons, Nat.pow_succ]
    show bitOf b + 2 * bitsOn 0 l < _
    omega

theorem toNat_byteOf_flags_lt {l : List Bool} : (byteOf (bitsOn 0 l)).toNat < 2 ^ l.length := by
  unfold byteOf
  rw [BitVec.toNat_ofNat]
  exact Nat.lt_of_le_of_lt (Nat.mod_le ..) (bitsOn_lt l)

/-! ### The group record (Table 9.9) -/

theorem membersByte_eq (m : PerChan Bool) : membersByte m = byteOf (bitsOn 0 [m.ch0, m.ch1, m.ch2, m.ch3, m.ch4, m.ch5]) := by
  refine congrArg byteOf ?_
  simp only [bitsOn]
  omega

theorem classSetByte_eq (c : ClassSet) :
    classSetByte c = byteOf (bitsOn 0 [c.smoke, c.service, c.manual, c.comfort, c.airing]) := by
  refine congrArg byteOf ?_
  simp only [bitsOn]
  omega

theorem membersOf_membersByte (m : PerChan Bool) : membersOf (membersByte m) = m := by
  rw [membersByte_eq]
  unfold membersOf
  simp only [getLsbD_flags (l := [m.ch0, m.ch1, m.ch2, m.ch3, m.ch4, m.ch5]) (by simp)]
  rfl

theorem classSetOf_classSetByte (c : ClassSet) : classSetOf (classSetByte c) = c := by
  rw [classSetByte_eq]
  unfold classSetOf
  simp only [getLsbD_flags (l := [c.smoke, c.service, c.manual, c.comfort, c.airing]) (by simp)]
  rfl

theorem groupOf_groupBytes {e : GroupEntry} (h : e.number ≤ 1023) : groupOf (groupBytes e) = e := by
  have hnumber : wordAt (groupBytes e) 0 = e.number := ofBe16_be16 (by omega)
  have hmembers : membersOf (byteAt (groupBytes e) 2) = e.members := membersOf_membersByte e.members
  have hadmitted : classSetOf (byteAt (groupBytes e) 3) = e.admitted := classSetOf_classSetByte e.admitted
  unfold groupOf
  rw [hnumber, hmembers, hadmitted]

/-! ### The settings record (Table 9.12) -/

theorem settingsFlags_eq (latched faultHigh : Bool) (freq : BaseFreq) :
    let b := byteOf (bitOf latched + 2 * freqCode freq + 8 * bitOf faultHigh)
    freqOfCode (b.toNat / 2 % 4) = some freq ∧ b.getLsbD 0 = latched ∧ b.getLsbD 3 = faultHigh ∧ b.toNat < 16 := by
  cases latched <;> cases faultHigh <;> cases freq <;> decide

theorem faultFlags_eq (a b c d : Bool) :
    byteOf (bitOf a + 2 * bitOf b + 4 * bitOf c + 8 * bitOf d) = byteOf (bitsOn 0 [a, b, c, d]) := by
  refine congrArg byteOf ?_
  simp only [bitsOn]
  omega

theorem freqOfCode_eq_none {n : Nat} : freqOfCode n = none ↔ 3 ≤ n := by
  rcases n with _ | _ | _ | n
  · exact iff_of_false nofun (by omega)
  · exact iff_of_false nofun (by omega)
  · exact iff_of_false nofun (by omega)
  · exact iff_of_true rfl (by omega)

theorem settingsOf_eq_none : settingsOf r = none ↔ (byteAt r 30).toNat / 2 % 4 = 3 := by
  have hiff : settingsOf r = none ↔ freqOfCode ((byteAt r 30).toNat / 2 % 4) = none := by
    unfold settingsOf
    dsimp only
    cases freqOfCode ((byteAt r 30).toNat / 2 % 4) <;> simp
  rw [hiff, freqOfCode_eq_none]
  omega

theorem freqCode_of_freqOfCode {n : Nat} {f : BaseFreq} (h : freqOfCode n = some f) : n = freqCode f := by
  unfold freqOfCode at h
  split at h <;> cases h <;> rfl

/-- The record read at its places, when its frequency has a code. -/
theorem settingsOf_eq_some {t : Settings} (h : settingsOf r = some t) :
    ∃ freq, freqOfCode ((byteAt r 30).toNat / 2 % 4) = some freq ∧ t =
      { defaultHold := wordAt r 0, w1 := wordAt r 2, w2 := wordAt r 4, hysteresis := (byteAt r 6).toNat
        releaseDelay := wordAt r 7, staleTime := wordAt r 9, settleTime := wordAt r 11, rainDelay := wordAt r 13
        normalBudget := (byteAt r 15).toNat, lowBudget := (byteAt r 16).toNat, stagger := wordAt r 17
        cutVolt := wordAt r 19, lowVolt := wordAt r 21, overVolt := wordAt r 23, holdOff := wordAt r 25
        watchdog := (byteAt r 27).toNat, reportMask := BitVec.ofNat 13 (wordAt r 28), latched := (byteAt r 30).getLsbD 0, freq
        faultHigh := (byteAt r 30).getLsbD 3, faultChannel := (byteAt r 31).getLsbD 0, faultSupply := (byteAt r 31).getLsbD 1
        faultThermal := (byteAt r 31).getLsbD 2, faultLine := (byteAt r 31).getLsbD 3 } := by
  unfold settingsOf at h
  dsimp only at h
  cases hf : freqOfCode ((byteAt r 30).toNat / 2 % 4) with
  | none =>
    rw [hf] at h
    cases h
  | some freq =>
    rw [hf] at h
    exact ⟨freq, rfl, (Option.some.inj h).symm⟩

theorem settingsBytes_eq (t : Settings) : settingsBytes t =
    [byteOf (t.defaultHold / 256), byteOf t.defaultHold, byteOf (t.w1 / 256), byteOf t.w1, byteOf (t.w2 / 256), byteOf t.w2,
      byteOf t.hysteresis, byteOf (t.releaseDelay / 256), byteOf t.releaseDelay, byteOf (t.staleTime / 256), byteOf t.staleTime,
      byteOf (t.settleTime / 256), byteOf t.settleTime, byteOf (t.rainDelay / 256), byteOf t.rainDelay, byteOf t.normalBudget,
      byteOf t.lowBudget, byteOf (t.stagger / 256), byteOf t.stagger, byteOf (t.cutVolt / 256), byteOf t.cutVolt,
      byteOf (t.lowVolt / 256), byteOf t.lowVolt, byteOf (t.overVolt / 256), byteOf t.overVolt, byteOf (t.holdOff / 256),
      byteOf t.holdOff, byteOf t.watchdog, byteOf (t.reportMask.toNat / 256), byteOf t.reportMask.toNat,
      byteOf (bitOf t.latched + 2 * freqCode t.freq + 8 * bitOf t.faultHigh),
      byteOf (bitOf t.faultChannel + 2 * bitOf t.faultSupply + 4 * bitOf t.faultThermal + 8 * bitOf t.faultLine)] := by
  simp only [settingsBytes, be16, List.cons_append, List.nil_append]

/-- A settings record written back reads as it was. -/
theorem settingsOf_settingsBytes {t : Settings} (h : settingsInRange t = true) : settingsOf (settingsBytes t) = some t := by
  obtain ⟨hfreq, hlatched, hhigh, -⟩ := settingsFlags_eq t.latched t.faultHigh t.freq
  have hmask := t.reportMask.isLt
  have fault (i : Nat) := getLsbD_flags (l := [t.faultChannel, t.faultSupply, t.faultThermal, t.faultLine]) (by simp) i
  simp only [settingsInRange, Bool.and_eq_true, inRange_iff, decide_eq_true_eq] at h
  rw [settingsBytes_eq, faultFlags_eq]
  simp only [settingsOf, wordAt, byteAt, List.getD_cons_succ, List.getD_cons_zero, Nat.reduceAdd, hfreq, hlatched, hhigh, fault]
  simp (disch := omega) only [ofBe16_be16, byteOf_toNat_of_lt]
  rw [BitVec.ofNat_toNat, BitVec.setWidth_eq]

theorem length_settingsBytes (t : Settings) : (settingsBytes t).length = 32 := by
  rw [settingsBytes_eq]
  rfl

/-- The three places of the settings record with ignored bits. -/
theorem byteAt_settingsBytes (t : Settings) : byteAt (settingsBytes t) 28 = byteOf (t.reportMask.toNat / 256)
    ∧ byteAt (settingsBytes t) 30 = byteOf (bitOf t.latched + 2 * freqCode t.freq + 8 * bitOf t.faultHigh)
    ∧ byteAt (settingsBytes t) 31 =
      byteOf (bitOf t.faultChannel + 2 * bitOf t.faultSupply + 4 * bitOf t.faultThermal + 8 * bitOf t.faultLine) := by
  rw [settingsBytes_eq]
  simp only [byteAt, List.getD_cons_succ, List.getD_cons_zero, and_self]

/-! ### The writes (R161, R164) -/

theorem membersEmpty_iff {m : PerChan Bool} : membersEmpty m = true ↔ ∀ ch, m.get ch = false := by
  constructor
  · intro h ch
    simp only [membersEmpty, Bool.not_eq_true', Bool.or_eq_false_iff] at h
    obtain ⟨⟨⟨⟨⟨h0, h1⟩, h2⟩, h3⟩, h4⟩, h5⟩ := h
    cases ch <;> assumption
  · intro h
    by_contra hne
    obtain ⟨ch, hch⟩ := membersEmpty_eq_false (Bool.eq_false_iff.2 hne)
    rw [h ch] at hch
    cases hch

theorem groupElsewhere_iff {groups : List GroupEntry} {i g : Nat} : groupElsewhere groups i g = true ↔
    ∃ j, j ≠ i ∧ j < groups.length ∧ (groups.getD j {}).number = g := by
  unfold groupElsewhere
  rw [List.any_eq_true]
  constructor
  · rintro ⟨j, hj, h⟩
    obtain ⟨hne, hn⟩ := (Bool.and_eq_true _ _).mp h
    exact ⟨j, bne_iff_ne.1 hne, List.mem_range.1 hj, beq_iff_eq.1 hn⟩
  · rintro ⟨j, hne, hj, hn⟩
    exact ⟨j, List.mem_range.2 hj, (Bool.and_eq_true _ _).mpr ⟨bne_iff_ne.2 hne, beq_iff_eq.2 hn⟩⟩

section group
variable (hlen : r.length = 4)

theorem performGroupWrite_of_length (h : r.length ≠ 4) : performGroupWrite (sel :: r) t = refuse t .format := if_pos h

include hlen

theorem performGroupWrite_of_zero (h : (groupOf r).number = 0) : performGroupWrite (sel :: r) t =
    { state := { t with groups := t.groups.set (sel.toNat % 64) {} }, result := .done } :=
  (if_neg (not_not_intro hlen)).trans (if_pos h)

theorem performGroupWrite_of_range (h : 1023 < (groupOf r).number ∨ (groupOf r).number ≠ 0 ∧ ∀ ch, (groupOf r).members.get ch = false) :
    performGroupWrite (sel :: r) t = refuse t .range := by
  refine (if_neg (not_not_intro hlen)).trans ((if_neg ?_).trans (if_pos ?_))
  · omega
  · rcases h with h | ⟨-, h⟩
    · simp [h]
    · rw [membersEmpty_iff.2 h, Bool.or_true]

section number
variable (hne : (groupOf r).number ≠ 0) (hle : (groupOf r).number ≤ 1023) (hmember : ∃ ch, (groupOf r).members.get ch = true)
include hne hle hmember

theorem performGroupWrite_of_number : performGroupWrite (sel :: r) t =
    if groupElsewhere t.groups (sel.toNat % 64) (groupOf r).number then refuse t .duplicate
    else { state := { t with groups := t.groups.set (sel.toNat % 64) (groupOf r) }, result := .done } := by
  have hmembers : membersEmpty (groupOf r).members = false := Bool.eq_false_iff.2 fun h => by
    obtain ⟨ch, hch⟩ := hmember
    rw [membersEmpty_iff.1 h ch] at hch
    cases hch
  refine (if_neg (not_not_intro hlen)).trans ((if_neg hne).trans (if_neg ?_))
  rw [hmembers, Bool.or_false, decide_eq_true_eq]
  omega

end number

end group

section settings

theorem performSettingsWrite_of_length (h : r.length ≠ 32) : performSettingsWrite (sel :: r) t = refuse t .format := if_pos h

variable (hlen : r.length = 32)
include hlen

theorem performSettingsWrite_of_index (h : sel.toNat % 64 ≠ 0) : performSettingsWrite (sel :: r) t = refuse t .noSuch :=
  (if_neg (not_not_intro hlen)).trans (if_pos h)

variable (hi : sel.toNat % 64 = 0)
include hi

theorem performSettingsWrite_of_range (h : settingsOf r = none ∨ ∃ x, settingsOf r = some x ∧ settingsInRange x = false) :
    performSettingsWrite (sel :: r) t = refuse t .range := by
  refine (if_neg (not_not_intro hlen)).trans ((if_neg (not_not_intro hi)).trans ?_)
  rcases h with h | ⟨x, h, hx⟩
  · rw [h]
  · rw [h]
    exact if_neg (by rw [hx]; nofun)

theorem performSettingsWrite_of_good {x : Settings} (h : settingsOf r = some x) (hx : settingsInRange x = true) :
    performSettingsWrite (sel :: r) t = { state := t.writeSettings x, result := .done } := by
  refine (if_neg (not_not_intro hlen)).trans ((if_neg (not_not_intro hi)).trans ?_)
  rw [h]
  exact if_pos hx

end settings

/-- The settings `x` in place, with the latch that goes out as latching is switched off (R96). -/
def State.rewritten (s : State) (x : Settings) : State :=
  { s with settings := x, supply := { s.supply with latch := s.supply.latch && !(s.settings.latched && !x.latched) } }

theorem latchAfter_eq (latch old new : Bool) : (latch && !(old && !new)) = if old = true ∧ new = false then false else latch := by
  cases latch <;> cases old <;> cases new <;> rfl

theorem State.writeSettings_of_same {x : Settings}
    (h : x.normalBudget = s.settings.normalBudget ∧ x.lowBudget = s.settings.lowBudget) : s.writeSettings x = s.rewritten x := if_pos h

theorem State.writeSettings_of_other {x : Settings}
    (h : ¬ (x.normalBudget = s.settings.normalBudget ∧ x.lowBudget = s.settings.lowBudget)) :
    s.writeSettings x = (s.rewritten x).rebudget .shed := if_neg h

/-- What does not read the line may come before the reply as well as after it. -/
theorem answers_of_line {g : State → State} (h : ∀ (s : State) (l : Line), g { s with line := l } = { g s with line := l })
    (t : State) (result : ReplyResult) (data : List Byte) (tag : Word16) :
    ({ state := g t, result, data } : Performed).answers tag =
      g { t with line := t.line.replying t.line.station tag result data } := by
  have hself : g t = { g t with line := t.line } := h t t.line
  have hline : (g t).line = t.line := by rw [hself]
  refine Eq.trans ?_ (h t (t.line.replying t.line.station tag result data)).symm
  unfold Performed.answers
  dsimp only
  rw [hline]
  rfl

theorem line_of_aside {g : State → State} (h : ∀ s l r, g (s.aside l r) = (g s).aside l r) (s : State) (l : Line) :
    g { s with line := l } = { g s with line := l } := by
  have hself : g s = (g s).aside s.line s.reports := h s s.line s.reports
  have hreports : (g s).reports = s.reports := (congrArg State.reports hself :)
  refine (h s l s.reports).trans ?_
  rw [← hreports]
  rfl

theorem answers_of_aside {g : State → State} (h : ∀ s l r, g (s.aside l r) = (g s).aside l r) (t : State) (result : ReplyResult)
    (data : List Byte) (tag : Word16) : ({ state := g t, result, data } : Performed).answers tag =
      g { t with line := t.line.replying t.line.station tag result data } :=
  answers_of_line (line_of_aside h) t result data tag

/-- Settles O54: the tests of each write in their order, and each field of the records from its place. -/
theorem groupAndSettingsWrites : Obligations.GroupAndSettingsWrites := by
  unfold Obligations.GroupAndSettingsWrites
  refine ⟨fun s station tag sel r h => ?_, fun s station tag h c hc => ?_, fun a b m k => ⟨rfl, fun ch => by cases ch <;> rfl, rfl⟩,
    fun e he => ⟨groupOf_groupBytes he, rfl, ?_, ?_⟩, fun r t ht => ?_, fun r => settingsOf_eq_none, fun t ht => ?_⟩
  · intro i e elsewhere replies
    refine ⟨fun hlen => next_refused h (performGroupWrite_of_length hlen),
      fun hlen hn => next_answered h (performGroupWrite_of_zero hlen hn) rfl rfl,
      fun hlen hrange => next_refused h (performGroupWrite_of_range hlen hrange), fun hlen hne hle hmember => ?_,
      fun hlen => next_refused h (performSettingsWrite_of_length hlen),
      fun hlen hi => next_refused h (performSettingsWrite_of_index hlen hi),
      fun hlen hi hrange => next_refused h (performSettingsWrite_of_range hlen hi hrange), fun t hlen hi ht hrange => ?_⟩
    · refine ⟨fun helse => next_refused h ((performGroupWrite_of_number hlen hne hle hmember).trans (if_pos (groupElsewhere_iff.2 helse))),
        fun helse => next_answered h ((performGroupWrite_of_number hlen hne hle hmember).trans
          (if_neg fun hfound => helse (groupElsewhere_iff.1 hfound))) rfl rfl⟩
    · intro latch u₀
      let w : State := { s with line := heard s }
      have hwritten : w.rewritten t = { w with settings := t, supply := { w.supply with latch } } := by
        unfold State.rewritten
        rw [latchAfter_eq]
      have hperform := performSettingsWrite_of_good (t := w) hlen hi ht hrange
      refine ⟨fun hnormal hlow => ?_, fun hbudget => ⟨State.rebudget u₀ .shed, ?_, State.budgetFollows_rebudget .., ?_⟩⟩
      · rw [State.writeSettings_of_same (s := w) ⟨hnormal, hlow⟩, hwritten] at hperform
        exact next_answered h hperform rfl rfl
      · rw [State.writeSettings_of_other (s := w) (fun hsame => hbudget.elim (absurd hsame.1) (absurd hsame.2)), hwritten] at hperform
        have hanswers := answers_of_aside (g := (·.rebudget .shed)) (fun s l r => s.rebudget_aside l r .shed)
          { w with settings := t, supply := { w.supply with latch } } .done [] tag
        refine (next_performed h 0x10 (performSettingsWrite (sel :: r))).trans ?_
        rw [hperform, hanswers]
        rfl
      · rw [(State.rebudget_sheds u₀ _).1.onlyHolders]
  · simp only [List.mem_cons, List.not_mem_nil, or_false] at hc
    rcases hc with rfl | rfl | rfl | rfl
    · exact next_refused (result := .format) h (perform := performGroupWrite []) rfl
    · exact next_refused (result := .format) h (perform := performProfileWrite []) rfl
    · exact next_refused (result := .format) h (perform := performInputWrite []) rfl
    · exact next_refused (result := .format) h (perform := performSettingsWrite []) rfl
  · show (membersByte e.members).toNat < 64
    rw [membersByte_eq]
    exact toNat_byteOf_flags_lt
  · show (classSetByte e.admitted).toNat < 32
    rw [classSetByte_eq]
    exact toNat_byteOf_flags_lt
  · obtain ⟨freq, hfreq, rfl⟩ := settingsOf_eq_some ht
    refine ⟨fun x hx => ?_, fun x hx => ?_, fun i => ?_, rfl, ?_, rfl, rfl, rfl, rfl, rfl⟩
    · fin_cases hx <;> rfl
    · fin_cases hx <;> rfl
    · show (BitVec.ofNat 13 (wordAt r 28)).getLsbD i = _
      rw [BitVec.getLsbD_ofNat, testBit_wordAt]
      by_cases hi : i < 8
      · rw [if_pos hi, if_pos hi, decide_eq_true (by omega), Bool.true_and]
      · rw [if_neg hi, if_neg hi]
    · rw [freqCode_of_freqOfCode hfreq]
      cases freq <;> rfl
  · obtain ⟨h28, h30, h31⟩ := byteAt_settingsBytes t
    obtain ⟨-, -, -, hflags⟩ := settingsFlags_eq t.latched t.faultHigh t.freq
    have hmask := t.reportMask.isLt
    refine ⟨settingsOf_settingsBytes ht, length_settingsBytes t, ?_, h30 ▸ hflags, ?_⟩
    · rw [h28, byteOf_toNat_of_lt (by omega)]
      omega
    · rw [h31, faultFlags_eq]
      exact toNat_byteOf_flags_lt

end Sys2Proof.Machine
end

section
/-! SUPPORT. The bytes of the profile and the input records. -/

namespace Sys2Proof.Machine

variable {r : List Byte}

/-! ### The profile record (Table 9.10) -/

theorem profileFlags_eq (a b c d : Bool) {n : Nat} (hn : n ≤ 3) :
    let x := byteOf (bitOf a + 2 * bitOf b + 4 * bitOf c + 8 * bitOf d + 16 * n)
    x.getLsbD 0 = a ∧ x.getLsbD 1 = b ∧ x.getLsbD 2 = c ∧ x.getLsbD 3 = d ∧ x.toNat / 16 % 4 = n ∧ x.toNat < 64 := by
  intro x
  have ha := bitOf_le a
  have hb := bitOf_le b
  have hc := bitOf_le c
  have hd := bitOf_le d
  have hx : x = byteOf (bitsOn n [a, b, c, d]) := by
    refine congrArg byteOf ?_
    simp only [bitsOn]
    omega
  have bit (i : Nat) (hi : i < 4) : x.getLsbD i = [a, b, c, d].getD i false := by
    rw [hx, getLsbD_byteOf, testBit_bitsOn, decide_eq_true (by omega), Bool.true_and]
    exact if_pos hi
  have hnat : x.toNat = bitOf a + 2 * bitOf b + 4 * bitOf c + 8 * bitOf d + 16 * n := byteOf_toNat_of_lt (by omega)
  rw [hnat]
  exact ⟨bit 0 (by omega), bit 1 (by omega), bit 2 (by omega), bit 3 (by omega), by omega, by omega⟩

theorem profileBytes_eq (p : Profile) : profileBytes p =
    [byteOf (bitOf p.enable + 2 * bitOf p.brakeMode + 4 * bitOf p.windDependent + 8 * bitOf p.failMoveTo + 16 * p.retryLimit),
      byteOf (p.travel / 256), byteOf p.travel, byteOf (p.fullTravelTime / 256), byteOf p.fullTravelTime, byteOf p.deadband,
      byteOf (p.approachDist / 256), byteOf p.approachDist, byteOf (p.startLevel / 256), byteOf p.startLevel,
      byteOf (p.runLevel / 256), byteOf p.runLevel, byteOf (p.approachLevel / 256), byteOf p.approachLevel,
      byteOf (p.rampRate / 256), byteOf p.rampRate, byteOf p.weight, byteOf p.stallUnits, byteOf p.settleUnits,
      byteOf p.startLimit, byteOf p.runLimit, byteOf p.endLimit, byteOf p.shortLimit, byteOf p.blanking, byteOf p.filter,
      byteOf (p.endZone / 256), byteOf p.endZone, byteOf (p.backoffDist / 256), byteOf p.backoffDist, byteOf p.reverseUnits,
      byteOf p.driftLimit, byteOf p.initOpen, byteOf p.initClose, byteOf (p.windward.toNat / 256), byteOf p.windward.toNat,
      byteOf (p.smokeWindward / 256), byteOf p.smokeWindward, byteOf (p.windCeiling / 256), byteOf p.windCeiling,
      byteOf (p.rainPosition / 256), byteOf p.rainPosition, byteOf (p.stormPosition / 256), byteOf p.stormPosition,
      byteOf (p.unknownCeiling / 256), byteOf p.unknownCeiling, byteOf (p.moveToLevel / 256), byteOf p.moveToLevel] := by
  unfold profileBytes be16
  simp only [List.cons_append, List.nil_append]

/-- A profile record written back reads as it was. -/
theorem profileOf_profileBytes {p : Profile} (h : profileInRange p = true) : profileOf (profileBytes p) = p := by
  have hwindward := p.windward.isLt
  simp only [profileInRange, Bool.and_eq_true, inRange_iff] at h
  obtain ⟨henable, hbrake, hwind, hfail, hretry, -⟩ :=
    profileFlags_eq p.enable p.brakeMode p.windDependent p.failMoveTo (n := p.retryLimit) (by omega)
  rw [profileBytes_eq]
  simp only [profileOf, wordAt, byteAt, List.getD_cons_succ, List.getD_cons_zero, Nat.reduceAdd, henable, hbrake, hwind, hfail,
    hretry]
  simp (disch := omega) only [ofBe16_be16, byteOf_toNat_of_lt]
  rw [BitVec.ofNat_toNat, BitVec.setWidth_eq]

theorem length_profileBytes (p : Profile) : (profileBytes p).length = 47 := by
  rw [profileBytes_eq]
  rfl

theorem byteAt_profileBytes (p : Profile) : byteAt (profileBytes p) 0 =
    byteOf (bitOf p.enable + 2 * bitOf p.brakeMode + 4 * bitOf p.windDependent + 8 * bitOf p.failMoveTo + 16 * p.retryLimit) := by
  rw [profileBytes_eq]
  simp only [byteAt, List.getD_cons_zero]

/-! ### The input record (Table 9.11) -/

theorem functionByte_eq (f : InputFunction) (activeHigh : Bool) :
    let x := byteOf (functionCode f + 128 * bitOf activeHigh)
    functionOfCode (x.toNat % 8) = some f ∧ x.getLsbD 7 = activeHigh
      ∧ x.getLsbD 3 = false ∧ x.getLsbD 4 = false ∧ x.getLsbD 5 = false ∧ x.getLsbD 6 = false := by
  cases f <;> cases activeHigh <;> decide

theorem functionOfCode_eq_none {n : Nat} : functionOfCode n = none ↔ 5 < n := by
  rcases n with _ | _ | _ | _ | _ | _ | n
  · exact iff_of_false nofun (by omega)
  · exact iff_of_false nofun (by omega)
  · exact iff_of_false nofun (by omega)
  · exact iff_of_false nofun (by omega)
  · exact iff_of_false nofun (by omega)
  · exact iff_of_false nofun (by omega)
  · exact iff_of_true rfl (by omega)

theorem functionCode_of_functionOfCode {n : Nat} {f : InputFunction} (h : functionOfCode n = some f) : functionCode f = n := by
  unfold functionOfCode at h
  split at h <;> cases h <;> rfl

theorem inputOf_eq_none {old : InputEntry} : inputOf r old = none ↔ 5 < (byteAt r 0).toNat % 8 := by
  rw [← functionOfCode_eq_none]
  unfold inputOf
  cases functionOfCode ((byteAt r 0).toNat % 8) <;> simp

/-- The record read at its places, when its function has a code. -/
theorem inputOf_eq_some {old e : InputEntry} (h : inputOf r old = some e) :
    ∃ f, functionOfCode ((byteAt r 0).toNat % 8) = some f ∧ e =
      { old with function := f, activeHigh := (byteAt r 0).getLsbD 7, debounce := (byteAt r 1).toNat,
                 group := wordAt r 2, level := wordAt r 4, hold := wordAt r 6 } := by
  unfold inputOf at h
  cases hf : functionOfCode ((byteAt r 0).toNat % 8) with
  | none =>
    rw [hf] at h
    cases h
  | some f =>
    rw [hf] at h
    exact ⟨f, rfl, (Option.some.inj h).symm⟩

theorem inputBytes_eq (e : InputEntry) : inputBytes e =
    [byteOf (functionCode e.function + 128 * bitOf e.activeHigh), byteOf e.debounce, byteOf (e.group / 256), byteOf e.group,
      byteOf (e.level / 256), byteOf e.level, byteOf (e.hold / 256), byteOf e.hold] := by
  simp only [inputBytes, be16, List.cons_append, List.nil_append]

/-- An input record written back reads as it was. -/
theorem inputOf_inputBytes {e : InputEntry} (h : inputInRange e = true) : inputOf (inputBytes e) e = some e := by
  obtain ⟨hfunction, hactive, -⟩ := functionByte_eq e.function e.activeHigh
  simp only [inputInRange, Bool.and_eq_true, inRange_iff] at h
  rw [inputBytes_eq]
  simp only [inputOf, wordAt, byteAt, List.getD_cons_succ, List.getD_cons_zero, Nat.reduceAdd, hfunction, hactive]
  simp (disch := omega) only [ofBe16_be16, byteOf_toNat_of_lt]

end Sys2Proof.Machine
end

section
/-! SUPPORT. The writes of the profile and the input tables. -/

namespace Sys2Proof.Machine

variable {s t w : State} {ch : Chan} {n : InputNo} {e : InputEntry} {station : Byte} {tag : Word16} {sel : Byte} {r : List Byte}

/-! ### A profile write (R48, R162) -/

theorem performProfileWrite_of_length (h : r.length ≠ 47) : performProfileWrite (sel :: r) t = refuse t .format := if_pos h

section profile
variable (hlen : r.length = 47)
include hlen

theorem performProfileWrite_of_index (h : 6 ≤ sel.toNat % 64) : performProfileWrite (sel :: r) t = refuse t .noSuch := by
  refine (if_neg (not_not_intro hlen)).trans ?_
  rw [chanOfIndex_of_ge h]

variable (hi : sel.toNat % 64 = chanIndex ch)
include hi

theorem performProfileWrite_of_chan : performProfileWrite (sel :: r) t =
    if isBusy (t.chan ch).motion.state then refuse t .busy
    else if profileInRange (profileOf r) then
      { state := (t.modChan ch (fun c => c.writeProfile (profileOf r))).retarget ch, result := .done }
    else refuse t .range := by
  refine (if_neg (not_not_intro hlen)).trans ?_
  rw [hi, chanOfIndex_chanIndex]

end profile

/-- A re-target of a channel at rest whose retry count is 0: the evaluation, the hand and the state are all that it sets. -/
theorem State.retarget_of_rest (hrest : (s.chan ch).motion.state = .disabled ∨ (s.chan ch).motion.state = .idle
    ∨ (s.chan ch).motion.state = .faulted) (hretry : (s.chan ch).motion.retry = 0) :
    (s.retarget ch).chan ch = { s.chan ch with
        selected := evaluate s.weather (s.chan ch)
        motion := { (s.chan ch).motion with
          hand := ((s.retarget ch).chan ch).motion.hand, state := ((s.retarget ch).chan ch).motion.state } }
      ∧ ((s.chan ch).motion.state = .idle → TestsTarget ch s.admission.queue (s.retarget ch))
      ∧ ((s.chan ch).motion.state ≠ .idle → (s.retarget ch).admission.queue = s.admission.queue) := by
  have hmoving : (s.chan ch).motion.state ≠ .moving := by rcases hrest with h | h | h <;> rw [h] <;> nofun
  have hkeep (p : Prop) [Decidable p] : (if p then (s.chan ch).motion.retry else 0) = (s.chan ch).motion.retry := by
    rw [hretry, ite_self]
  obtain ⟨-, -, hspec⟩ := retargetOutsideMoving
  obtain ⟨-, -, -, -, -, hdisabled, hidle, -, -, hstored, -⟩ := hspec s ch hmoving
  rcases hrest with h | h | h
  · obtain ⟨hat, hadm⟩ := hdisabled h
    refine ⟨?_, fun hne => absurd (h.symm.trans hne) nofun, fun _ => by rw [hadm]⟩
    rw [hat]
  · obtain ⟨hat, htests⟩ := hidle h
    refine ⟨?_, fun _ => htests, fun hne => absurd h hne⟩
    conv_lhs => rw [hat]
    conv_rhs => rw [hat]
    dsimp only
    rw [hkeep]
  · obtain ⟨hat, hqueue⟩ := hstored (.inr (.inr (.inr h)))
    refine ⟨?_, fun hne => absurd (h.symm.trans hne) nofun, fun _ => hqueue⟩
    rw [hat]
    dsimp only
    rw [hkeep]

/-- Outside MOVING a re-target leaves the share holders when the channel is none of them. -/
theorem State.retarget_holders (hmoving : (s.chan ch).motion.state ≠ .moving) (h : ∀ e ∈ s.admission.holders, e.chan ≠ ch) :
    (s.retarget ch).admission.holders = s.admission.holders := by
  by_cases hdisabled : (s.chan ch).motion.state = .disabled
  · rw [State.retarget_of_disabled hdisabled]
    rfl
  · have hstate : ((s.modChan ch (·.takeInHand s.weather)).chan ch).motion.state ≠ .moving := by
      rw [State.chan_modChan_self]
      exact hmoving
    have hholders := State.actOnTarget_holders hstate ((s.chan ch).motion.hand.target != (evaluate s.weather (s.chan ch)).target)
    rw [State.retarget_eq hdisabled, State.passRank_of_not_holder (by rw [hholders]; exact h), hholders]
    rfl

/-- The claims of a channel after a profile write: a position held is clamped to a new travel (R48). -/
theorem Channel.writeProfile_slots (c : Channel) (p : Profile) (k : ClaimClass) :
    (c.writeProfile p).slots.get k = (c.slots.get k).map (fun x => { x with demand := match x.demand with
      | .stay (some q) => .stay (some (if p.travel = c.profile.travel then q else min q p.travel))
      | d => d }) := by
  have hmap (f : Claim → Claim) : (c.slots.map f).get k = (c.slots.get k).map f := by cases k <;> rfl
  show (if p.travel = c.profile.travel then c.slots else c.slots.map (Claim.reclamp p.travel)).get k = _
  by_cases h : p.travel = c.profile.travel
  · rw [if_pos h]
    rcases c.slots.get k with _ | ⟨_, _, demand, _, _⟩
    · rfl
    · rcases demand with _ | _ | _ <;> simp [h]
  · rw [if_neg h, hmap]
    rcases c.slots.get k with _ | ⟨_, _, demand, _, _⟩
    · rfl
    · rcases demand with _ | _ | _ <;> simp [h, Claim.reclamp]

/-! ### A re-target and the input entries -/

section inputs
variable (s : State) (i : PerInput InputEntry) (ch : Chan)

/-- The station with other input entries. -/
def State.withInputs (s : State) (i : PerInput InputEntry) : State := { s with inputs := i }

@[simp] theorem State.chan_withInputs : (s.withInputs i).chan ch = s.chan ch := rfl

theorem State.resortQueue_withInputs (n : Nat) : (s.withInputs i).resortQueue ch n = (s.resortQueue ch n).withInputs i := by
  unfold State.resortQueue
  show (match findChan ch s.admission.queue with | none => _ | some _ => _) = _
  cases findChan ch s.admission.queue <;> rfl

theorem State.retargetMoving_withInputs (b : Bool) :
    (s.withInputs i).retargetMoving ch b = (s.retargetMoving ch b).withInputs i := by
  unfold State.retargetMoving
  rw [State.chan_withInputs]
  dsimp only
  repeat' split
  all_goals rfl

theorem State.actOnTarget_withInputs (b : Bool) : (s.withInputs i).actOnTarget ch b = (s.actOnTarget ch b).withInputs i := by
  unfold State.actOnTarget
  rw [State.chan_withInputs]
  split
  · split <;> rfl
  · split
    · exact State.resortQueue_withInputs ..
    · rfl
  · exact State.retargetMoving_withInputs ..
  · rfl

theorem State.passRank_withInputs (k : Option Nat) : (s.withInputs i).passRank ch k = (s.passRank ch k).withInputs i := by
  unfold State.passRank
  rw [show (s.withInputs i).isHolder ch = s.isHolder ch from rfl]
  split
  · split <;> rfl
  · rfl

/-- A re-target does not read the inputs. -/
theorem State.retarget_withInputs : (s.withInputs i).retarget ch = (s.retarget ch).withInputs i := by
  by_cases h : (s.chan ch).motion.state = .disabled
  · rw [State.retarget_of_disabled h, State.retarget_of_disabled (s := s.withInputs i) h]
    rfl
  · rw [State.retarget_eq h, State.retarget_eq (s := s.withInputs i) h, ← State.passRank_withInputs, ← State.actOnTarget_withInputs]
    rfl

theorem State.retargetAll_withInputs (chs : List Chan) : (s.withInputs i).retargetAll chs = (s.retargetAll chs).withInputs i := by
  unfold State.retargetAll
  induction chs generalizing s with
  | nil => rfl
  | cons x xs ih => rw [List.foldl_cons, List.foldl_cons, State.retarget_withInputs, ih]

end inputs

theorem TakeTargets.withInputs {u : State} {P : Chan → Prop} (h : TakeTargets s u P) (i : PerInput InputEntry) :
    TakeTargets s (u.withInputs i) P := by
  obtain ⟨chs, hnodup, hmem, hu⟩ := h
  have hclaims : withClaimsOf s (u.withInputs i) = (withClaimsOf s u).withInputs i := rfl
  refine ⟨chs, hnodup, hmem, ?_⟩
  rw [hclaims, State.retargetAll_withInputs]
  conv_lhs => rw [hu]
  rfl

/-! ### An input write (R134, R163) -/

theorem performInputWrite_of_length (h : r.length ≠ 8) : performInputWrite (sel :: r) t = refuse t .format := if_pos h

section input
variable (hlen : r.length = 8)
include hlen

theorem performInputWrite_of_index (h : sel.toNat % 64 = 0 ∨ 5 ≤ sel.toNat % 64) :
    performInputWrite (sel :: r) t = refuse t .noSuch := by
  refine (if_neg (not_not_intro hlen)).trans ?_
  rw [inputOfIndex_of_none h]

variable (hi : sel.toNat % 64 = inputIndex n)
include hi

theorem performInputWrite_of_range (h : inputOf r (t.input n) = none ∨ ∃ e, inputOf r (t.input n) = some e ∧ inputInRange e = false) :
    performInputWrite (sel :: r) t = refuse t .range := by
  refine (if_neg (not_not_intro hlen)).trans ?_
  rw [hi, inputOfIndex_inputIndex]
  dsimp only
  rcases h with h | ⟨e, h, he⟩
  · rw [h]
  · rw [h]
    exact if_neg (by rw [he]; nofun)

theorem performInputWrite_of_good (h : inputOf r (t.input n) = some e) (he : inputInRange e = true) :
    performInputWrite (sel :: r) t = { state := t.writeInput n e, result := .done } := by
  refine (if_neg (not_not_intro hlen)).trans ?_
  rw [hi, inputOfIndex_inputIndex]
  dsimp only
  rw [h]
  exact if_pos he

end input

/-- The entry `e` put in place afresh (R134). -/
def InputEntry.afresh (e : InputEntry) : InputEntry := { e with active := false, timer := none }

theorem State.writeInput_of_same (h : (s.input n).function = e.function) (ha : (s.input n).activeHigh = e.activeHigh) :
    s.writeInput n e = s.setInput n e := if_pos ⟨h, ha⟩

theorem State.writeInput_of_change (h : (s.input n).function ≠ e.function ∨ (s.input n).activeHigh ≠ e.activeHigh) :
    s.writeInput n e = (if (s.input n).active then s.deactivate n else s).weatherEvent (fun s => s.setInput n e.afresh) :=
  if_neg fun hsame => h.elim (absurd hsame.1) (absurd hsame.2)

/-- An entry that is no active rain contact gives way to one that is not active: the rain contacts say what they said. -/
theorem wetCondition_setInput (h : (s.input n).function ≠ .rainContact ∨ (s.input n).active = false) (e : InputEntry) :
    wetCondition (s.setInput n e.afresh) = wetCondition s := by
  have hrain : localRain (s.setInput n e.afresh) = localRain s := by
    refine localRain_congr fun m => ?_
    by_cases hm : m = n
    · subst hm
      rw [State.input_setInput_self]
      refine iff_of_false (fun hx => nomatch hx.2) fun hx => ?_
      rcases h with h | h
      · exact h hx.1
      · rw [hx.2] at h
        cases h
    · rw [State.input, State.setInput, PerInput.get_set_ne _ _ hm]
      rfl
  show (_ || localRain _) = _
  rw [hrain]
  rfl

/-- Where the old entry ends nothing else, only the entry changes. -/
theorem State.writeInput_of_quiet (hchange : (s.input n).function ≠ e.function ∨ (s.input n).activeHigh ≠ e.activeHigh)
    (h : ((s.input n).function ≠ .rainContact ∧ (s.input n).function ≠ .serviceSwitch) ∨ (s.input n).active = false) :
    s.writeInput n e = s.setInput n e.afresh := by
  have hdeactivate : (if (s.input n).active then s.deactivate n else s) = s := by
    rcases h with ⟨-, h⟩ | h
    · exact (if_congr .rfl (if_neg h) rfl).trans (ite_self _)
    · exact if_neg (by rw [h]; nofun)
  rw [State.writeInput_of_change hchange, hdeactivate]
  refine State.weatherEvent_of_same rfl (wetCondition_setInput ?_ e)
  exact h.imp_left And.left

/-- An active service switch ends with the removal of its claims. -/
theorem State.writeInput_of_service (hchange : (s.input n).function ≠ e.function ∨ (s.input n).activeHigh ≠ e.activeHigh)
    (h : (s.input n).function = .serviceSwitch) (ha : (s.input n).active = true) :
    s.writeInput n e = (s.removeLocal n).setInput n e.afresh := by
  have hdeactivate : (if (s.input n).active then s.deactivate n else s) = s.removeLocal n := (if_pos ha).trans (if_pos h)
  have hinput : (s.removeLocal n).input n = s.input n := by
    unfold State.removeLocal
    rw [(s.removeWhere_spec .service fun c => c.origin == .input n).1.1]
    rfl
  rw [State.writeInput_of_change hchange, hdeactivate]
  exact State.weatherEvent_of_same rfl (wetCondition_setInput (.inl (by rw [hinput, h]; nofun)) e)

/-- Any other entry that changes is a weather event of its own. -/
theorem State.writeInput_of_rain (hchange : (s.input n).function ≠ e.function ∨ (s.input n).activeHigh ≠ e.activeHigh)
    (h : (s.input n).function ≠ .serviceSwitch ∨ (s.input n).active = false) :
    s.writeInput n e = s.weatherEvent (fun s => s.setInput n e.afresh) := by
  have hdeactivate : (if (s.input n).active then s.deactivate n else s) = s := by
    rcases h with h | h
    · exact (if_congr .rfl (if_neg h) rfl).trans (ite_self _)
    · exact if_neg (by rw [h]; nofun)
  rw [State.writeInput_of_change hchange, hdeactivate]

theorem FollowsWet.of_same {u : State} (hwet : wetCondition u = wetCondition s) (hweather : u.weather = s.weather) : FollowsWet s u := by
  have hiff := wetCondition_iff s
  have hiff' := wetCondition_iff u
  rw [hwet, hiff] at hiff'
  refine ⟨fun _ => by rw [hweather]; exact ⟨rfl, rfl⟩, fun h h' => absurd (hiff'.2 h') h, fun h h' => absurd (hiff'.1 h) h',
    fun h h' => absurd (hiff'.1 h) h'⟩

/-- What an input write does when the old entry is no active service switch. -/
theorem State.writeInput_rain_spec (hchange : (s.input n).function ≠ e.function ∨ (s.input n).activeHigh ≠ e.activeHigh)
    (h : (s.input n).function ≠ .serviceSwitch ∨ (s.input n).active = false) :
    let u := s.writeInput n e
    u.inputs = s.inputs.set n e.afresh ∧ OnlyClaims { s with inputs := s.inputs.set n e.afresh, weather := u.weather } u
      ∧ u.line = s.line ∧ FollowsWet s u
      ∧ u.weather = { s.weather with rainWet := u.weather.rainWet, rainTimer := u.weather.rainTimer } ∧ HandsOn s u
      ∧ KeepsClaims s u := by
  obtain ⟨honly, hclaims, hline, hhands, hweather, -, hfollows⟩ := s.weatherEvent_spec (fun s => s.setInput n e.afresh) rfl
  rw [State.writeInput_of_rain hchange h]
  exact ⟨congrArg State.inputs honly.1, honly, hline, hfollows rfl rfl, hweather, hhands, hclaims⟩

/-- What an input write does when the old entry is an active service switch. -/
theorem State.writeInput_service_spec (hchange : (s.input n).function ≠ e.function ∨ (s.input n).activeHigh ≠ e.activeHigh)
    (h : (s.input n).function = .serviceSwitch) (ha : (s.input n).active = true) :
    let u := s.writeInput n e
    let placed := fun ch => ∃ c, (s.chan ch).slots.service = some c ∧ c.origin = .input n
    u.inputs = s.inputs.set n e.afresh ∧ OnlyClaims { s with inputs := s.inputs.set n e.afresh } u ∧ u.line = s.line
      ∧ FollowsWet s u ∧ u.weather = s.weather ∧ u.reports = s.reports ∧ TakeTargets s u placed
      ∧ (∀ ch, placed ch → (u.chan ch).slots = { (s.chan ch).slots with service := none }
          ∧ (u.chan ch).airing = (s.chan ch).airing ∧ Evaluated u.weather (u.chan ch))
      ∧ ∀ ch, ¬ placed ch → u.chan ch = s.chan ch := by
  obtain ⟨honly, hreports, hline, ⟨chs, hnodup, hmem, htaken⟩, hdropped, hrest, -⟩ :=
    s.removeWhere_spec .service (fun c => c.origin == .input n)
  have hits (ch : Chan) : (∃ c, (s.chan ch).slots.get .service = some c ∧ (c.origin == .input n) = true) ↔
      ∃ c, (s.chan ch).slots.service = some c ∧ c.origin = .input n :=
    exists_congr fun c => and_congr_right fun _ => beq_iff_eq
  obtain ⟨x, hx⟩ : ∃ x, x = (s.removeWhere .service (fun c => c.origin == .input n)).1 := ⟨_, rfl⟩
  have hwritten := State.writeInput_of_service hchange h ha
  unfold State.removeLocal at hwritten
  rw [← hx] at honly hreports hline htaken hdropped hrest hwritten
  obtain ⟨hrecord, hkept⟩ := honly
  have hinputs : x.inputs = s.inputs := by rw [hrecord]
  have hweather : x.weather = s.weather := by rw [hrecord]
  have hentry : x.input n = s.input n := congrArg (fun i : PerInput InputEntry => i.get n) hinputs
  have hset : x.setInput n e.afresh = x.withInputs (s.inputs.set n e.afresh) := by
    unfold State.setInput
    rw [hinputs]
    rfl
  have hwet : wetCondition (x.setInput n e.afresh) = wetCondition s :=
    (wetCondition_setInput (.inl (by rw [hentry, h]; nofun)) e).trans (by rw [hrecord]; rfl)
  have htargets : TakeTargets s x _ := ⟨chs, hnodup, fun ch => (hmem ch).trans (hits ch), htaken⟩
  have hfollows : FollowsWet s (x.setInput n e.afresh) := FollowsWet.of_same hwet hweather
  dsimp only
  rw [hwritten]
  rw [hset] at hfollows ⊢
  refine ⟨rfl, ⟨congrArg (fun y => y.withInputs (s.inputs.set n e.afresh)) hrecord, hkept⟩, hline, hfollows, hweather, hreports,
    htargets.withInputs _, fun ch hch => ?_, fun ch hch => hrest ch fun hit => hch ((hits ch).1 hit)⟩
  obtain ⟨hevaluated, hslots, hairing⟩ := hdropped ch ((hits ch).2 hch)
  exact ⟨hslots, hairing, hevaluated⟩

theorem toNat_windward (r : List Byte) : (profileOf r).windward.toNat = wordAt r 33 := by
  have hhi := (byteAt r 33).isLt
  have hlo := (byteAt r 34).isLt
  refine (BitVec.toNat_ofNat ..).trans (Nat.mod_eq_of_lt ?_)
  rw [wordAt_eq]
  omega

/-- Settles O55: the record of a written profile with its re-target, the end of an old input function, and the fields by place. -/
theorem profileAndInputWrites : Obligations.ProfileAndInputWrites := by
  unfold Obligations.ProfileAndInputWrites
  refine ⟨fun s station tag sel r h => ?_, fun r => ⟨fun x hx => ?_, fun x hx => ?_, fun x hx => ?_, rfl⟩, fun p hp => ?_,
    fun r old e he => ?_, fun r old => inputOf_eq_none, fun e he => ⟨inputOf_inputBytes he, rfl, fun i h3 h6 => ?_⟩⟩
  · intro i replies
    let w : State := { s with line := heard s }
    refine ⟨fun hlen => next_refused h (performProfileWrite_of_length hlen),
      fun hlen hi => next_refused h (performProfileWrite_of_index hlen hi), fun ch hlen hi => ?_,
      fun hlen => next_refused h (performInputWrite_of_length hlen),
      fun hlen hi => next_refused h (performInputWrite_of_index hlen hi), fun n hlen hi => ⟨fun hrange => ?_, fun e he hrange => ?_⟩⟩
    · intro m rest p
      have hperform := performProfileWrite_of_chan (t := w) hlen hi
      have hbusy : isBusy m.state = false ↔ rest := isBusy_eq_false
      refine ⟨fun hnot => next_refused h (hperform.trans (if_pos ?_)), fun hrest hrange => next_refused h
        (hperform.trans ((if_neg ?_).trans (if_neg ?_))), fun hrest hrange => ?_⟩
      · exact Bool.not_eq_false _ ▸ fun hb => hnot (hbusy.1 hb)
      · exact Bool.eq_false_iff.1 (hbusy.2 hrest)
      · exact Bool.eq_false_iff.1 hrange
      · have hgood := hperform.trans ((if_neg (Bool.eq_false_iff.1 (hbusy.2 hrest))).trans (if_pos hrange))
        let v : State := (replies 0).modChan ch (fun c => c.writeProfile p)
        have hv : v.chan ch = (s.chan ch).writeProfile p := State.chan_modChan_self ..
        have hothers (d : Chan) (hd : d ≠ ch) : v.chan d = s.chan d := State.chan_modChan_ne _ _ hd
        obtain ⟨hdisabled, hfaulted, hstate⟩ := stateAfterWrite_cases p.enable hrest
        have hvstate : (v.chan ch).motion.state = stateAfterWrite p.enable m.state := by rw [hv]; rfl
        have hr := State.Retargets.retarget ch v
        obtain ⟨hat, htests, hqueue⟩ := State.retarget_of_rest (s := v) (by rw [hvstate]; exact hstate) (by rw [hv]; rfl)
        rw [hv] at hat
        have hanswers := answers_of_aside (g := fun s => (s.modChan ch (fun c => c.writeProfile p)).retarget ch)
          (fun s l r => (s.modChan ch (fun c => c.writeProfile p)).retarget_aside l r ch) w .done [] tag
        refine ⟨v.retarget ch, ?_, ?_, fun d hd => (hr.others d hd).trans (hothers d hd), ?_, hr.evaluated, hr.gate.1, hr.gate.2,
          fun hn => State.retarget_holders ?_ hn, fun hp => hqueue ?_, fun k => ?_, ?_⟩
        · refine (next_performed h 0x10 (performProfileWrite (sel :: r))).trans ?_
          rw [hgood]
          exact congrArg (fun x => Host.Outcome.next (s.finish x)) hanswers
        · have hrest : v.retarget ch = { v with chans := _, admission := _, reports := _, freeCount := _ } := hr.rest
          rw [hr.reports] at hrest
          exact hrest
        · rw [hat]
          rfl
        · rcases hstate with hs | hs | hs <;> rw [hvstate, hs] <;> nofun
        · rw [hvstate]
          rcases hp with hp | hp
          · rw [hdisabled.2 hp]
            nofun
          · rw [show m.state = .faulted from hp]
            cases p.enable <;> nofun
        · rw [hat]
          exact (s.chan ch).writeProfile_slots p k
        · have hsame (henable : p.enable = true) (hne : m.state ≠ .faulted) : (v.chan ch).motion.state = .idle := by
            have h1 : stateAfterWrite p.enable m.state ≠ .disabled := fun hd => by rw [hdisabled.1 hd] at henable; cases henable
            have h2 : stateAfterWrite p.enable m.state ≠ .faulted := fun hf => hne (hfaulted.1 hf).2
            exact hvstate.trans (hstate.resolve_left h1 |>.resolve_right h2)
          have hfault : ((v.retarget ch).chan ch).motion.fault = if p.enable then m.fault else none := by rw [hat]; rfl
          have hrestTimer : ((v.retarget ch).chan ch).motion.restTimer = if p.enable then m.restTimer else none := by rw [hat]; rfl
          refine ⟨by rw [hat]; rfl, by rw [hat]; rfl, by rw [hat]; rfl, by rw [hat]; rfl, by rw [hat]; rfl, by rw [hat]; rfl,
            by rw [hat]; rfl, by rw [hat]; rfl, by rw [hat]; rfl, ?_, fun henable => ⟨hr.disabled.2 ?_, ?_, ?_⟩,
            fun henable => ⟨hfault.trans (if_pos henable), hrestTimer.trans (if_pos henable), fun hf => hr.faulted.2 ?_,
              fun hne => htests (hsame henable hne)⟩⟩
          · conv_lhs => rw [hat]
            rw [hfault, hrestTimer]
            rfl
          · rw [hvstate, hdisabled.2 henable]
          · exact hfault.trans (if_neg (by rw [henable]; nofun))
          · exact hrestTimer.trans (if_neg (by rw [henable]; nofun))
          · rw [hvstate, hfaulted.2 ⟨henable, hf⟩]
    · exact next_refused h (performInputWrite_of_range (t := w) hlen hi hrange)
    · have hperform := performInputWrite_of_good (t := w) hlen hi he hrange
      intro old
      refine ⟨fun hf ha => ?_, fun hchange => ?_⟩
      · rw [State.writeInput_of_same (s := w) hf ha] at hperform
        exact next_answered h hperform rfl rfl
      · have hexec := next_performed (tag := tag) h 0x10 (performInputWrite (sel :: r))
        rw [hperform] at hexec
        have hquiet := State.writeInput_of_quiet (s := w) (n := n) hchange
        by_cases hservice : old.function = .serviceSwitch ∧ old.active = true
        · obtain ⟨hfunction, hactive⟩ := hservice
          have hspec := State.writeInput_service_spec (s := w) hchange hfunction hactive
          generalize w.writeInput n e = v at hexec hspec
          obtain ⟨hin, honly, hline, hfollows, hweather, hreports, htargets, hdropped, hrest⟩ := hspec
          have hanswer : v.line.replying v.line.station tag .done [] = answered s tag 0 [] := by rw [hline]; rfl
          have hset : ({ s with inputs := v.inputs, weather := v.weather } : State) = { s with inputs := s.inputs.set n e.afresh } := by
            rw [hin, hweather]
          refine ⟨_, hexec, hin, ?_, hanswer, hfollows, ?_, fun hq => absurd hq ?_, fun hrain => absurd (hfunction.symm.trans hrain) nofun,
            fun _ _ => ⟨hreports, hweather, htargets.reline, hdropped, hrest⟩⟩
          · show OnlyClaims { s with inputs := v.inputs, weather := v.weather } _
            rw [hset]
            exact honly.reline
          · show v.weather = { s.weather with rainWet := v.weather.rainWet, rainTimer := v.weather.rainTimer }
            rw [hweather]
          · rintro (⟨-, hne⟩ | hoff)
            · exact hne hfunction
            · rw [hactive] at hoff
              cases hoff
        · have hns : old.function ≠ .serviceSwitch ∨ old.active = false := (not_and_or.1 hservice).imp_right Bool.eq_false_iff.2
          have hspec := State.writeInput_rain_spec (s := w) hchange hns
          generalize w.writeInput n e = v at hexec hspec hquiet
          obtain ⟨hin, honly, hline, hfollows, hweather, hhands, hclaims⟩ := hspec
          have hanswer : v.line.replying v.line.station tag .done [] = answered s tag 0 [] := by rw [hline]; rfl
          have hset : ({ s with inputs := v.inputs, weather := v.weather } : State) =
              { s with inputs := s.inputs.set n e.afresh, weather := v.weather } := by rw [hin]
          refine ⟨_, hexec, hin, ?_, hanswer, hfollows, hweather, fun hq => ?_, fun _ => ⟨hhands.reline, hclaims⟩,
            fun hf ha => absurd ⟨hf, ha⟩ hservice⟩
          · show OnlyClaims { s with inputs := v.inputs, weather := v.weather } _
            rw [hset]
            exact OnlyClaims.reline (s := { s with inputs := s.inputs.set n e.afresh, weather := v.weather }) honly
          · rw [hquiet hq]
            rfl
  · fin_cases hx
    pick_goal 10
    · exact toNat_windward r
    all_goals rfl
  · fin_cases hx <;> rfl
  · fin_cases hx <;> rfl
  · obtain ⟨-, -, -, -, -, hflags⟩ := profileFlags_eq p.enable p.brakeMode p.windDependent p.failMoveTo (n := p.retryLimit) (by
      simp only [profileInRange, Bool.and_eq_true, inRange_iff] at hp
      omega)
    exact ⟨profileOf_profileBytes hp, length_profileBytes p, by rw [byteAt_profileBytes]; exact hflags⟩
  · obtain ⟨f, hf, rfl⟩ := inputOf_eq_some he
    refine ⟨?_, rfl, rfl, fun x hx => ?_, rfl, rfl, rfl⟩
    · rw [← functionCode_of_functionOfCode hf]
      cases f <;> rfl
    · fin_cases hx <;> rfl
  · obtain ⟨-, -, hb3, hb4, hb5, hb6⟩ := functionByte_eq e.function e.activeHigh
    have hi : i = 3 ∨ i = 4 ∨ i = 5 ∨ i = 6 := by omega
    rcases hi with rfl | rfl | rfl | rfl
    · exact hb3
    · exact hb4
    · exact hb5
    · exact hb6

end Sys2Proof.Machine
end

section
/-! SUPPORT. The clears of a fault and of the supply's latch. -/

namespace Sys2Proof.Machine

variable {s t w : State} {ch : Chan} {station : Byte} {tag : Word16} {p : List Byte} {f : FaultCode}

/-! ### CLEAR_FAULT (R72, R169) -/

theorem performClearFault_of_chan (ch : Chan) (t : State) : performClearFault [byteOf (chanIndex ch)] t = t.clearChannel ch := by
  have hcode : byteOf (chanIndex ch) ≠ 0x80 := by cases ch <;> decide
  have hi := chanIndex_lt ch
  refine (if_neg hcode).trans ?_
  rw [byteOf_toNat_of_lt (by omega), chanOfIndex_chanIndex]

theorem performClearFault_of_code {b : Byte} (h : 6 ≤ b.toNat) (hb : b ≠ 0x80) : performClearFault [b] t = refuse t .noSuch := by
  refine (if_neg hb).trans ?_
  rw [chanOfIndex_of_ge h]

theorem performClearFault_of_length (h : p.length ≠ 1) : performClearFault p t = refuse t .format := by
  unfold performClearFault
  split
  · exact absurd rfl h
  · rfl

/-- The fault cleared and its CLEARED report posted (R72). -/
def State.clearsFault (s : State) (ch : Chan) (f : FaultCode) : State :=
  let t := s.modChan ch Channel.clearFault
  t.postChan ch .cleared (t.chan ch).reported (faultByte f)

theorem State.clearChannel_of_other (h : (s.chan ch).motion.state ≠ .faulted) : s.clearChannel ch = { state := s, result := .done } :=
  if_pos h

section faulted
variable (h : (s.chan ch).motion.state = .faulted)
include h

theorem State.clearChannel_of_cause (hcause : ¬ causeGone s ch = true) : s.clearChannel ch = refuse s .notCleared :=
  (if_neg (not_not_intro h)).trans (if_neg hcause)

theorem State.clearChannel_of_gone (hgone : causeGone s ch = true) (hf : (s.chan ch).motion.fault = some f) :
    s.clearChannel ch = { state := (s.clearsFault ch f).retarget ch, result := .done } := by
  refine (if_neg (not_not_intro h)).trans ((if_pos hgone).trans ?_)
  rw [hf]
  rfl

end faulted

theorem causeGone_iff : causeGone s ch = true ↔
    ((s.chan ch).motion.fault = some .short
        ∧ (if s.clock.firstRun then (s.chan ch).current.sample else 0) < (s.chan ch).profile.runLimit)
      ∨ ((s.chan ch).motion.fault ≠ some .short ∧ (s.chan ch).motion.restTimer = none) := by
  unfold causeGone
  dsimp only
  by_cases h : (s.chan ch).motion.fault = some .short
  · simp only [h, if_true, decide_eq_true_eq, ne_eq, not_true_eq_false, false_and, or_false, true_and]
    rfl
  · simp [h]

theorem State.post_withLine (s : State) (l : Line) (r : Report) : State.post { s with line := l } r = { s.post r with line := l } := by
  unfold State.post
  show (if reportEnabled s.settings.reportMask r.kind then _ else _) = _
  split <;> rfl

theorem State.clearsFault_line (ch : Chan) (f : FaultCode) (s : State) (l : Line) :
    State.clearsFault { s with line := l } ch f = { s.clearsFault ch f with line := l } :=
  State.post_withLine (s.modChan ch Channel.clearFault) l _

theorem State.clearsFault_chan (s : State) (ch : Chan) (f : FaultCode) (d : Chan) :
    (s.clearsFault ch f).chan d = (s.modChan ch Channel.clearFault).chan d := State.post_chan ..

/-- The CLEARED report of the channel `c` (Table 11.1). -/
def Channel.clearedReport (c : Channel) (ch : Chan) (f : FaultCode) : Report :=
  { kind := .cleared, chan := some ch, rank := c.motion.hand.winRank, position := c.clearFault.reported,
    detail := { b5 := faultByte f } }

/-- What an accepted clear does (R72): the channel tests its target again from IDLE. -/
theorem State.clearsFault_spec (hf : (s.chan ch).motion.fault = some f) :
    let u := (s.clearsFault ch f).retarget ch
    u = { s with chans := u.chans, admission := u.admission, reports := u.reports, freeCount := u.freeCount }
      ∧ KeepsOthers ch s u ∧ KeepsClaims s u ∧ Evaluated u.weather (u.chan ch) ∧ TestsTarget ch s.admission.queue u
      ∧ (u.chan ch = { (s.chan ch).clearFault with
          selected := (u.chan ch).selected
          motion := { (s.chan ch).clearFault.motion with hand := (u.chan ch).motion.hand, state := (u.chan ch).motion.state } })
      ∧ u.admission.budget = s.admission.budget ∧ u.admission.stagger = s.admission.stagger
      ∧ ((∀ e ∈ s.admission.holders, e.chan ≠ ch) → u.admission.holders = s.admission.holders)
      ∧ u.reports = (s.post ((s.chan ch).clearedReport ch f)).reports := by
  obtain ⟨v, hv⟩ : ∃ v, v = s.clearsFault ch f := ⟨_, rfl⟩
  have hself : v.chan ch = (s.chan ch).clearFault := by rw [hv, State.clearsFault_chan, State.chan_modChan_self]
  have hothers : KeepsOthers ch s v := fun d hd => by rw [hv, State.clearsFault_chan, State.chan_modChan_ne _ _ hd]
  have hrest : v = { s with chans := v.chans, reports := v.reports } := by
    have hpost : v = { s.modChan ch Channel.clearFault with reports := v.reports } := by rw [hv]; exact State.post_eq ..
    rw [hpost]
    rfl
  have hreports : v.reports = (s.post ((s.chan ch).clearedReport ch f)).reports := by
    rw [hv]
    unfold State.clearsFault
    dsimp only
    rw [State.chan_modChan_self]
    exact State.postChan_reports _ _ _ rfl rfl (by rw [State.chan_modChan_self]; rfl)
  have hadmission : v.admission = s.admission := by rw [hrest]
  have hweather : v.weather = s.weather := by rw [hrest]
  have hidle : (v.chan ch).motion.state = .idle := by rw [hself]; rfl
  have hr := State.Retargets.retarget ch v
  obtain ⟨hat, htests, -⟩ := State.retarget_of_rest (s := v) (.inr (.inl hidle)) (by rw [hself]; rfl)
  have hholders := State.retarget_holders (s := v) (ch := ch) (by rw [hidle]; nofun)
  have htested := htests hidle
  rw [hadmission] at htested hholders
  rw [← hv]
  refine ⟨?_, fun d hd => (hr.others d hd).trans (hothers d hd), fun d => ?_, hr.evaluated, htested, ?_, hr.gate.1.trans (by rw [hadmission]),
    hr.gate.2.trans (by rw [hadmission]), hholders, hr.reports.trans hreports⟩
  · have hkept : v.retarget ch = { v with chans := _, admission := _, reports := _, freeCount := _ } := hr.rest
    refine hkept.trans ?_
    rw [hrest]
  · by_cases hd : d = ch
    · subst hd
      obtain ⟨hprofile, hslots, hairing⟩ := hr.claims
      rw [hprofile, hslots, hairing, hself]
      exact ⟨rfl, rfl, rfl⟩
    · rw [hr.others d hd, hothers d hd]
      exact ⟨rfl, rfl, rfl⟩
  · conv_lhs => rw [hat]
    rw [hr.selected, hself]

theorem Channel.reported_clearFault {c : Channel} (hf : c.motion.fault = some f) :
    c.clearFault.reported = if f = .obstructed then c.reported else none := by
  unfold Channel.reported Channel.clearFault
  rw [hf]
  cases f <;> cases c.motion.referenced <;> rfl

/-- An admission unit with the budget and the stagger timer of another differs from it in its queue and its holders. -/
theorem Admission.eq_of_gate {a b : Admission} (hbudget : a.budget = b.budget) (hstagger : a.stagger = b.stagger) :
    a = { b with queue := a.queue, holders := a.holders } := by
  rw [← hbudget, ← hstagger]

/-! ### CLEAR_SUPPLY (R90, R169) -/

theorem performClearSupply_of_unlatched (h : t.supply.state ≠ .cut ∨ t.supply.latch = false) :
    performClearSupply t = { state := t, result := .done } := by
  have hclear : t.clearSupply = (t, true) := if_neg fun hlatched => by
    rcases h with h | h
    · exact h hlatched.1
    · exact Bool.eq_false_iff.1 h hlatched.2
  unfold performClearSupply
  rw [hclear]
  rfl

section latched
variable (hcut : t.supply.state = .cut) (hlatch : t.supply.latch = true)
include hcut hlatch

theorem performClearSupply_of_below (h : t.supply.measured < t.supply.cutInForce + 5) :
    performClearSupply t = refuse t .notCleared := by
  have hclear : t.clearSupply = (t, false) :=
    (if_pos ⟨hcut, hlatch⟩).trans (if_neg fun hrec => absurd (of_decide_eq_true hrec) (by omega))
  unfold performClearSupply
  rw [hclear]
  rfl

theorem performClearSupply_of_recovered (h : t.supply.cutInForce + 5 ≤ t.supply.measured) :
    performClearSupply t = { state := State.startHoldOff { t with supply := { t.supply with latch := false } }, result := .done } := by
  have hclear : t.clearSupply = (State.startHoldOff { t with supply := { t.supply with latch := false } }, true) :=
    (if_pos ⟨hcut, hlatch⟩).trans (if_pos (decide_eq_true h))
  unfold performClearSupply
  rw [hclear]
  rfl

end latched

theorem State.changeSupply_line (state : SupplyState) (s : State) (l : Line) :
    State.changeSupply { s with line := l } state = { s.changeSupply state with line := l } := by
  unfold State.changeSupply
  dsimp only
  rw [← line_of_aside (g := fun s => s.rebudget (supplyCause state)) fun s l r => s.rebudget_aside l r _]
  exact congrArg (fun s => State.rebudget s (supplyCause state)) (State.post_withLine
    { s with supply := { s.supply with state, holdOff := none, latch := if state = .cut then s.settings.latched else s.supply.latch } }
    l _)

/-- Settles O56: the tests of each clear in their order, and the record of the channel cleared. -/
theorem faultsAndLatchAreCleared : Obligations.FaultsAndLatchAreCleared := by
  unfold Obligations.FaultsAndLatchAreCleared
  intro s station tag p h replies
  let w : State := { s with line := heard s }
  refine ⟨fun ch hp => ?_, fun b hp hb hne => ?_, fun hlen => next_refused h (performClearFault_of_length hlen), fun hp => ?_⟩
  · subst hp
    have hperform : performClearFault [byteOf (chanIndex ch)] w = w.clearChannel ch := performClearFault_of_chan ch w
    intro c gone
    have hgone : causeGone w ch = true ↔ gone := causeGone_iff
    refine ⟨fun hstate => ?_, fun hstate hnot => ?_, fun hstate hyes f hf => ?_⟩
    · exact next_answered h (hperform.trans (State.clearChannel_of_other (s := w) hstate)) rfl rfl
    · exact next_refused h (hperform.trans (State.clearChannel_of_cause (s := w) hstate fun hc => hnot (hgone.1 hc)))
    · have hclear := hperform.trans (State.clearChannel_of_gone (s := w) hstate (hgone.2 hyes) hf)
      have hline (x : State) (l : Line) : (State.clearsFault { x with line := l } ch f).retarget ch =
          { (x.clearsFault ch f).retarget ch with line := l } := by
        rw [State.clearsFault_line]
        exact line_of_aside (g := (·.retarget ch)) (fun s l r => s.retarget_aside l r ch) _ l
      have hanswers := answers_of_line (g := fun x => (x.clearsFault ch f).retarget ch) hline w .done [] tag
      obtain ⟨hu, hothers, hclaims, hevaluated, htests, hat, hbudget, hstagger, hholders, hreports⟩ :=
        State.clearsFault_spec (s := replies 0) (ch := ch) (f := f) hf
      generalize hv : ((replies 0).clearsFault ch f).retarget ch = v at hu hothers hclaims hevaluated htests hat hbudget hstagger hholders hreports
      have hkept : (c.motion.fault == some .obstructed) = decide (f = .obstructed) := by
        rw [show c.motion.fault = some f from hf]
        cases f <;> rfl
      refine ⟨v, ?_, hu, hothers, hclaims, hevaluated, htests, by rw [hat]; rfl, by rw [hat]; rfl, by rw [hat]; rfl, ?_, ?_,
        by rw [hat]; rfl, by rw [hat]; rfl, by rw [hat]; rfl, by rw [hat]; rfl, by rw [hat]; rfl, Admission.eq_of_gate hbudget hstagger,
        hholders, hreports.trans ?_⟩
      · refine (next_performed h 0x13 (performClearFault [byteOf (chanIndex ch)])).trans ?_
        rw [hclear, ← hv]
        exact congrArg (fun x => Host.Outcome.next (s.finish x)) hanswers
      · rw [hat]
        show (c.motion.referenced && (c.motion.fault == some .obstructed)) = _
        rw [hkept]
        cases f <;> simp
      · rw [hat]
        show (if (c.motion.fault == some .obstructed) = true then c.motion.timedEst else 0) = _
        rw [hkept]
        exact if_congr decide_eq_true_iff rfl rfl
      · refine (State.post_reports_congr (s := s) (t := replies 0) _ rfl rfl).trans ?_
        show (s.post (c.clearedReport ch f)).reports = _
        unfold Channel.clearedReport
        rw [Channel.reported_clearFault hf]
        cases f <;> rfl
  · subst hp
    exact next_refused h (performClearFault_of_code hb hne)
  · subst hp
    refine ⟨fun hunlatched => next_answered h (performClearSupply_of_unlatched (t := w) hunlatched) rfl rfl,
      fun hcut hlatch => ⟨fun hbelow => next_refused h (performClearSupply_of_below (t := w) hcut hlatch hbelow),
        fun habove hpos => ?_, fun habove hzero => ?_⟩⟩
    · have hperform := performClearSupply_of_recovered (t := w) hcut hlatch habove
      rw [State.startHoldOff_of_pos (s := { w with supply := { w.supply with latch := false } }) hpos] at hperform
      exact next_answered h hperform rfl rfl
    · have hperform := performClearSupply_of_recovered (t := w) hcut hlatch habove
      rw [State.startHoldOff_of_zero (s := { w with supply := { w.supply with latch := false } }) hzero] at hperform
      let next := supplyAfterHoldOff s.supply
      have hanswers := answers_of_line (g := (·.changeSupply next)) (State.changeSupply_line next)
        { w with supply := { w.supply with latch := false } } .done [] tag
      refine ⟨_, ?_, State.supplyBecomes { replies 0 with supply := { s.supply with latch := false } } _⟩
      refine (next_performed h 0x13 performClearSupply).trans ?_
      rw [hperform]
      exact congrArg (fun x => Host.Outcome.next (s.finish x)) hanswers

end Sys2Proof.Machine
end

section
/-! SUPPORT. STATION RESET (O57): the queue entries of one channel, what a reset keeps, and its two orders state by state. -/

namespace Sys2Proof.Machine

variable {s u v w : State} {ch d : Chan} {changed : Bool}

/-! ### The queue entries of one channel -/

/-- The entries that a channel has in a queue. -/
def entriesOf (ch : Chan) (q : List QueueEntry) : List QueueEntry := q.filter (fun e => e.chan == ch)

theorem findChan_eq_head? (ch : Chan) (q : List QueueEntry) : findChan ch q = (entriesOf ch q).head? :=
  List.head?_filter.symm

theorem entriesOf_eq_nil {q : List QueueEntry} : entriesOf ch q = [] ↔ ∀ e ∈ q, e.chan ≠ ch := by
  simp [entriesOf]

theorem entriesOf_dropChan_self (ch : Chan) (q : List QueueEntry) : entriesOf ch (dropChan ch q) = [] :=
  entriesOf_eq_nil.2 fun _ he => (mem_dropChan.1 he).2

theorem entriesOf_dropChan (h : d ≠ ch) (q : List QueueEntry) : entriesOf ch (dropChan d q) = entriesOf ch q := by
  unfold entriesOf dropChan
  rw [List.filter_filter]
  refine List.filter_congr fun e _ => ?_
  by_cases he : e.chan = ch
  · simp [he, h.symm]
  · simp [he]

theorem entriesOf_insertEntry {e : QueueEntry} (h : e.chan ≠ ch) (q : List QueueEntry) :
    entriesOf ch (insertEntry e q) = entriesOf ch q := by
  unfold entriesOf
  induction q with
  | nil => simp [insertEntry, h]
  | cons x xs ih =>
    unfold insertEntry
    split
    · rw [List.filter_cons_of_neg (by simpa using h)]
    · rw [List.filter_cons, List.filter_cons, ih]

/-- The first entry of a channel, once it alone has joined. -/
theorem findChan_insertEntry {e : QueueEntry} {q : List QueueEntry} (h : ∀ x ∈ q, x.chan ≠ e.chan) :
    findChan e.chan (insertEntry e q) = some e := by
  unfold findChan
  induction q with
  | nil => simp [insertEntry]
  | cons x xs ih =>
    have hx : (x.chan == e.chan) = false := by simpa using h x (List.mem_cons_self ..)
    unfold insertEntry
    split
    · simp
    · rw [List.find?_cons, hx]
      exact ih fun y hy => h y (List.mem_cons_of_mem _ hy)

/-- What leaves a channel's entries in the start queue. -/
def KeepsEntries (ch : Chan) (s u : State) : Prop := entriesOf ch u.admission.queue = entriesOf ch s.admission.queue

namespace KeepsEntries

theorem of_queue (h : u.admission.queue = s.admission.queue) : KeepsEntries ch s u := congrArg (entriesOf ch) h

theorem trans (h : KeepsEntries ch s u) (k : KeepsEntries ch u v) : KeepsEntries ch s v := Eq.trans k h

variable (hne : d ≠ ch)
include hne

theorem joinQueue (s : State) : KeepsEntries ch s (s.joinQueue d) :=
  (entriesOf_insertEntry (by exact hne) _).trans (entriesOf_dropChan hne _)

theorem leaveQueue (s : State) : KeepsEntries ch s (s.leaveQueue d) := entriesOf_dropChan hne _

theorem resortQueue (s : State) (r : Nat) : KeepsEntries ch s (s.resortQueue d r) := by
  cases hf : findChan d s.admission.queue with
  | none => exact of_queue (by unfold State.resortQueue; rw [hf])
  | some e =>
    show entriesOf ch _ = _
    rw [State.resortQueue_of_entry hf, entriesOf_insertEntry (by show e.chan ≠ ch; rw [(findChan_eq_some hf).2]; exact hne),
      entriesOf_dropChan hne]

theorem settleAtRest (s : State) : KeepsEntries ch s (s.settleAtRest d) := by
  unfold State.settleAtRest
  split
  · exact joinQueue hne _
  · exact of_queue rfl

end KeepsEntries

theorem State.brake_queue (s : State) (ch : Chan) (reason : BrakingReason) (cause : Option HaltCause) (b : Bool) :
    (s.brake ch reason cause b).admission.queue = s.admission.queue := by
  unfold State.brake
  dsimp only
  split <;> rfl

/-- A timed move that has already lasted as long as its level needs (R59). -/
def TimedReached (c : Channel) : Prop :=
  c.motion.moveKind = some .timed ∧ ∃ l, c.motion.hand.target = .level l ∧ c.motion.hand.winRank = some 1
    ∧ c.motion.timedEst < l ∧ (l - c.motion.timedEst) * c.profile.fullTravelTime ≤ c.motion.moveTimer.getD 0

/-- How a re-target in MOVING goes on with the move, stops it, or ends it with ARRIVE (R57 to R59). -/
inductive State.MoveMeets (w : State) (ch : Chan) : State → Prop where
  | goesOn (f : Channel → Channel) (h : ∀ c, (f c).motion.state = c.motion.state ∧ (f c).profile = c.profile) :
    MoveMeets w ch (w.modChan ch f)
  | stops : MoveMeets w ch (w.brake ch .stop none false)
  | arrives (f : Channel → Channel) (h : ∀ c, (f c).motion.state = c.motion.state ∧ (f c).profile = c.profile)
    (reached : TimedReached (w.chan ch)) : MoveMeets w ch ((w.modChan ch f).brake ch .arrive none false)

theorem State.MoveMeets.unchanged (w : State) (ch : Chan) : w.MoveMeets ch w := by
  have h := MoveMeets.goesOn (w := w) (ch := ch) id fun _ => ⟨rfl, rfl⟩
  rwa [show w.modChan ch id = w from w.modChan_id ch] at h

/-- A re-target in MOVING, move kind by move kind. -/
theorem State.MoveMeets.retargetMoving (w : State) (ch : Chan) (changed : Bool) :
    w.MoveMeets ch (w.retargetMoving ch changed) := by
  unfold State.retargetMoving
  dsimp only
  split
  · split
    · split
      · split
        · exact .goesOn _ fun _ => ⟨rfl, rfl⟩
        · exact .stops
      · exact .stops
    · exact .unchanged w ch
  · next hkind =>
    split
    · next l hl =>
      split
      · next hup =>
        split
        · next hlasted => exact .arrives _ (fun _ => ⟨rfl, rfl⟩) ⟨hkind, l, hl, hup.1, hup.2, hlasted⟩
        · exact .goesOn _ fun _ => ⟨rfl, rfl⟩
      · exact .stops
    · exact .stops
  · split
    · exact .stops
    · split
      · exact .stops
      · exact .unchanged w ch
    · exact .unchanged w ch

theorem State.MoveMeets.queue (h : w.MoveMeets ch u) : u.admission.queue = w.admission.queue := by
  cases h with
  | goesOn => rfl
  | stops => exact State.brake_queue ..
  | arrives => exact State.brake_queue ..

namespace KeepsEntries

variable (hne : d ≠ ch)
include hne

theorem actOnTarget (s : State) (b : Bool) : KeepsEntries ch s (s.actOnTarget d b) := by
  unfold State.actOnTarget
  split
  · split
    · exact joinQueue hne _
    · exact of_queue rfl
  · split
    · exact resortQueue hne ..
    · exact leaveQueue hne _
  · exact of_queue (State.MoveMeets.retargetMoving ..).queue
  · exact of_queue rfl

theorem retarget (s : State) : KeepsEntries ch s (s.retarget d) := by
  by_cases h : (s.chan d).motion.state = .disabled
  · rw [State.retarget_of_disabled h]
    exact of_queue rfl
  · rw [State.retarget_eq h]
    exact (actOnTarget hne (s.modChan d _) _).trans (of_queue (State.passRank_queue ..))

theorem resetMotion (s : State) : KeepsEntries ch s (s.resetMotion d) := by
  obtain ⟨u, hu, hcase⟩ := s.resetMotion_cases d
  rw [hu]
  refine trans (u := u) ?_ (of_queue rfl)
  cases hs : (s.chan d).motion.state with
  | moving | backoff => rw [hs] at hcase; rw [hcase]; exact of_queue (State.brake_queue ..)
  | waiting => rw [hs] at hcase; rw [hcase]; exact (leaveQueue hne (s.modChan d _)).trans (settleAtRest hne _)
  | dwell => rw [hs] at hcase; rw [hcase]; exact settleAtRest hne (s.modChan d _)
  | braking =>
    rw [hs] at hcase
    rw [hcase]
    split <;> exact of_queue rfl
  | disabled | idle | faulted => rw [hs] at hcase; rw [hcase]; exact of_queue rfl

end KeepsEntries

/-! ### The two orders of a channel's reset (log 6) -/

/-- How a channel meets a STATION RESET: its motion's response and, when its slots were emptied, its re-target after or before. -/
inductive State.ResetOrder (s : State) (ch : Chan) : Bool → State → Prop where
  | alone : ResetOrder s ch false (s.resetMotion ch)
  | before : ResetOrder s ch true ((s.resetMotion ch).retarget ch)
  | after : ResetOrder s ch true ((s.retarget ch).resetMotion ch)

/-- The mark of a channel that a reset found driven (log 41). -/
def Channel.markReset (driven : Bool) (c : Channel) : Channel :=
  { c with motion := { c.motion with byReset := c.motion.byReset || driven } }

theorem State.resetChannel_order (s : State) (ch : Chan) (changed : Bool) : ∃ u, s.freeOrder.2.ResetOrder ch changed u
    ∧ s.resetChannel ch changed = u.modChan ch (Channel.markReset (isDriven (s.chan ch).motion.state)) := by
  refine ⟨_, ?_, rfl⟩
  cases changed with
  | false =>
    cases s.freeOrder.1
    · exact .alone
    · exact .alone
  | true =>
    cases s.freeOrder.1
    · exact .after
    · exact .before

theorem State.ResetOrder.keepsEntries (h : s.ResetOrder d changed u) (hne : d ≠ ch) : KeepsEntries ch s u := by
  cases h with
  | alone => exact .resetMotion hne s
  | before => exact (KeepsEntries.resetMotion hne s).trans (.retarget hne _)
  | after => exact (KeepsEntries.retarget hne s).trans (.resetMotion hne _)

theorem KeepsEntries.resetChannel (hne : d ≠ ch) (s : State) (changed : Bool) : KeepsEntries ch s (s.resetChannel d changed) := by
  obtain ⟨u, horder, hu⟩ := s.resetChannel_order d changed
  rw [hu]
  exact (show KeepsEntries ch s.freeOrder.2 u from horder.keepsEntries hne).trans (of_queue rfl)

/-! ### What a reset keeps -/

/-- What a channel's turn in a STATION RESET keeps: all but its move, its target in hand and the selector's result. -/
structure State.Resets (ch : Chan) (s u : State) : Prop where
  claims : (u.chan ch).profile = (s.chan ch).profile ∧ (u.chan ch).slots = (s.chan ch).slots
    ∧ (u.chan ch).airing = (s.chan ch).airing
  referenced : (u.chan ch).motion.referenced = (s.chan ch).motion.referenced
  fault : (u.chan ch).motion.fault = (s.chan ch).motion.fault
  estimates : (u.chan ch).motion.eOpen = (s.chan ch).motion.eOpen ∧ (u.chan ch).motion.eClose = (s.chan ch).motion.eClose
    ∧ (u.chan ch).motion.timedEst = (s.chan ch).motion.timedEst
  sensed : (u.chan ch).travel.position = (s.chan ch).travel.position ∧ (u.chan ch).travel.period = (s.chan ch).travel.period
    ∧ (u.chan ch).travel.lastPulse = (s.chan ch).travel.lastPulse ∧ (u.chan ch).current.sample = (s.chan ch).current.sample
  counts : (u.chan ch).travel.runCount = (s.chan ch).travel.runCount ∧ (u.chan ch).travel.drift = (s.chan ch).travel.drift
  disabled : (u.chan ch).motion.state = .disabled ↔ (s.chan ch).motion.state = .disabled
  faulted : (u.chan ch).motion.state = .faulted ↔ (s.chan ch).motion.state = .faulted
  others : KeepsOthers ch s u
  rest : KeepsRest s u
  reports : u.reports = s.reports
  gate : u.admission.budget = s.admission.budget ∧ u.admission.stagger = s.admission.stagger

namespace State.Resets

theorem trans (h : Resets ch s u) (k : Resets ch u v) : Resets ch s v where
  claims := ⟨k.claims.1.trans h.claims.1, k.claims.2.1.trans h.claims.2.1, k.claims.2.2.trans h.claims.2.2⟩
  referenced := k.referenced.trans h.referenced
  fault := k.fault.trans h.fault
  estimates := ⟨k.estimates.1.trans h.estimates.1, k.estimates.2.1.trans h.estimates.2.1,
    k.estimates.2.2.trans h.estimates.2.2⟩
  sensed := ⟨k.sensed.1.trans h.sensed.1, k.sensed.2.1.trans h.sensed.2.1, k.sensed.2.2.1.trans h.sensed.2.2.1,
    k.sensed.2.2.2.trans h.sensed.2.2.2⟩
  counts := ⟨k.counts.1.trans h.counts.1, k.counts.2.trans h.counts.2⟩
  disabled := k.disabled.trans h.disabled
  faulted := k.faulted.trans h.faulted
  others := h.others.trans k.others
  rest := h.rest.trans k.rest
  reports := k.reports.trans h.reports
  gate := ⟨k.gate.1.trans h.gate.1, k.gate.2.trans h.gate.2⟩

theorem of_retargets (h : Retargets ch s u) : Resets ch s u := { h with }

theorem of_movesOnly (h : MovesOnly ch s u) : Resets ch s u :=
  { h.chan, h with claims := ⟨h.chan.profile, h.chan.slots, h.chan.airing⟩ }

/-- What a reset changes beside what it keeps is not among what an evaluation reads. -/
theorem evaluate_eq (h : Resets ch s u) : evaluate u.weather (u.chan ch) = evaluate s.weather (s.chan ch) := by
  let aimed := u.modChan ch (fun c => { c with
    selected := evaluate s.weather (s.chan ch)
    motion := { c.motion with hand := if (s.chan ch).motion.state = .disabled then {} else evaluate s.weather (s.chan ch) } })
  have hat : aimed.chan ch = _ := State.chan_modChan_self ..
  have haimed : Retargets ch s aimed :=
    { h with
      claims := by rw [hat]; exact h.claims
      selected := by rw [hat]
      hand := by rw [hat]
      referenced := by rw [hat]; exact h.referenced
      fault := by rw [hat]; exact h.fault
      estimates := by rw [hat]; exact h.estimates
      sensed := by rw [hat]; exact h.sensed
      counts := by rw [hat]; exact h.counts
      disabled := by rw [hat]; exact h.disabled
      faulted := by rw [hat]; exact h.faulted
      others := fun d hd => (State.chan_modChan_ne _ _ hd).trans (h.others d hd)
      rest := h.rest.trans rfl }
  have heq := haimed.evaluate_eq
  rw [hat] at heq
  exact heq

theorem weather (h : Resets ch s u) : u.weather = s.weather := h.rest.fields.2.2.2.2.2.1

theorem clock (h : Resets ch s u) : u.clock = s.clock := h.rest.fields.2.2.2.2.2.2.2.2.2

theorem evaluated (h : Resets ch s u) (hselected : (u.chan ch).selected = (s.chan ch).selected)
    (hhand : (u.chan ch).motion.hand = (s.chan ch).motion.hand) (hs : Evaluated s.weather (s.chan ch)) :
    Evaluated u.weather (u.chan ch) := by
  refine ⟨hselected.trans (hs.1.trans h.evaluate_eq.symm), hhand.trans (hs.2.trans ?_)⟩
  rw [hselected]
  simp only [h.disabled]

end State.Resets

/-! ### A channel that is not driven -/

/-- The record `c` with the evaluation, the target in hand and the course of the motion of `d`. -/
def Channel.withCourseOf (c d : Channel) : Channel := { c with
  selected := d.selected
  motion := { c.motion with
    state := d.motion.state, hand := d.motion.hand, retry := d.motion.retry, afterBackoff := d.motion.afterBackoff
    dwellTimer := d.motion.dwellTimer, reason := d.motion.reason, haltCause := d.motion.haltCause } }

theorem Channel.withCourseOf_trans {c d e : Channel} (h : d = c.withCourseOf d) (k : e = d.withCourseOf e) :
    e = c.withCourseOf e :=
  show e = (c.withCourseOf d).withCourseOf e from k.trans (congrArg (Channel.withCourseOf · e) h)

/-- Outside MOVING a re-target changes the course alone, and no retry comes of it. -/
theorem State.retarget_course (h : (s.chan ch).motion.state ≠ .moving) :
    (s.retarget ch).chan ch = (s.chan ch).withCourseOf ((s.retarget ch).chan ch)
      ∧ ((s.retarget ch).chan ch).motion.afterBackoff = (s.chan ch).motion.afterBackoff
      ∧ ((s.chan ch).motion.retry = 0 → ((s.retarget ch).chan ch).motion.retry = 0) := by
  obtain ⟨-, -, hspec⟩ := retargetOutsideMoving
  obtain ⟨-, -, -, -, -, hdisabled, hidle, hwaiting, hleaves, hstored, -⟩ := hspec s ch h
  have stored {x : Channel} {st : MotionState} (hx : x = { s.chan ch with
      selected := evaluate s.weather (s.chan ch)
      motion := { (s.chan ch).motion with
        hand := evaluate s.weather (s.chan ch)
        retry := if (s.chan ch).motion.hand.target = (evaluate s.weather (s.chan ch)).target then (s.chan ch).motion.retry else 0
        state := st } }) :
      x = (s.chan ch).withCourseOf x ∧ x.motion.afterBackoff = (s.chan ch).motion.afterBackoff
        ∧ ((s.chan ch).motion.retry = 0 → x.motion.retry = 0) := by
    subst hx
    exact ⟨rfl, rfl, fun hr => by show (if _ then _ else _) = 0; rw [hr, ite_self]⟩
  cases hs : (s.chan ch).motion.state with
  | moving => exact absurd hs h
  | disabled =>
    rw [(hdisabled hs).1]
    exact ⟨rfl, rfl, id⟩
  | idle => exact stored (hidle hs).1
  | waiting =>
    cases hm : moveNeeded { s.chan ch with
        selected := evaluate s.weather (s.chan ch)
        motion := { (s.chan ch).motion with
          hand := evaluate s.weather (s.chan ch)
          retry := if (s.chan ch).motion.hand.target = (evaluate s.weather (s.chan ch)).target
            then (s.chan ch).motion.retry else 0 } } with
    | none => exact stored (hleaves hs hm).1
    | some => exact stored (hwaiting hs (by rw [hm]; rfl)).1
  | braking => exact stored (hstored (.inl hs)).1
  | dwell => exact stored (hstored (.inr (.inl hs))).1
  | backoff => exact stored (hstored (.inr (.inr (.inl hs)))).1
  | faulted => exact stored (hstored (.inr (.inr (.inr hs)))).1

theorem State.MovesOnly.settleAtRest (h : (s.chan ch).motion.state = .idle) : MovesOnly ch s (s.settleAtRest ch) := by
  have inState (m : MotionState) (hd : m ≠ .disabled) (hf : m ≠ .faulted) : MovesOnly ch s (s.modChan ch (·.inState m)) :=
    .modChan _ _ _ (.withState _ _ (iff_of_false hd (by rw [h]; nofun)) (iff_of_false hf (by rw [h]; nofun)))
  cases hm : moveNeeded (s.chan ch) with
  | none => rw [State.settleAtRest_of_not_needed hm]; exact inState .idle nofun nofun
  | some move => rw [State.settleAtRest_of_needed hm]; exact (inState .waiting nofun nofun).trans (.setQueue ..)

/-- What ends a dwell at a STATION RESET (R74). -/
def Channel.leaveDwell (c : Channel) : Channel := { c with motion := { c.motion with state := .idle, dwellTimer := none } }

/-- The response to a STATION RESET moves the channel, and then ends its retries. -/
theorem State.resetMotion_moves (s : State) (ch : Chan) :
    ∃ u, s.resetMotion ch = u.modChan ch Channel.endRetries ∧ MovesOnly ch s u
      ∧ (isDriven (s.chan ch).motion.state = false → u.chan ch = (s.chan ch).withCourseOf (u.chan ch)) := by
  obtain ⟨u, hu, hcase⟩ := s.resetMotion_cases ch
  have settles (f : Channel → Channel) (v : State) (hv : v.chan ch = f (s.chan ch)) (hmoves : MovesOnly ch s v)
      (hf : f (s.chan ch) = (s.chan ch).withCourseOf (f (s.chan ch))) (hidle : (f (s.chan ch)).motion.state = .idle) :
      MovesOnly ch s (v.settleAtRest ch) ∧ (v.settleAtRest ch).chan ch = (s.chan ch).withCourseOf ((v.settleAtRest ch).chan ch) := by
    refine ⟨hmoves.trans (.settleAtRest (by rw [hv]; exact hidle)), ?_⟩
    obtain ⟨m, hm⟩ : ∃ m, (v.settleAtRest ch).chan ch = (v.chan ch).inState m := ⟨_, (v.settleAtRest_keeps ch).1⟩
    rw [hm, hv]
    exact Channel.withCourseOf_trans hf rfl
  refine ⟨u, hu, ?_⟩
  cases hs : (s.chan ch).motion.state with
  | moving | backoff =>
    rw [hs] at hcase
    rw [hcase]
    exact ⟨.brake _ _ _ _ _ (by rw [hs]; nofun) (by rw [hs]; nofun), nofun⟩
  | waiting =>
    rw [hs] at hcase
    rw [hcase]
    have hrests : MovesOnly ch s (s.modChan ch (·.inState .idle)) :=
      .modChan _ _ _ (.withState _ _ (by rw [hs]; exact ⟨nofun, nofun⟩) (by rw [hs]; exact ⟨nofun, nofun⟩))
    obtain ⟨hmoves, hcourse⟩ := settles (·.inState .idle) ((s.modChan ch (·.inState .idle)).leaveQueue ch)
      (by rw [State.chan_leaveQueue, State.chan_modChan_self]) (hrests.trans (.setQueue ..)) rfl rfl
    exact ⟨hmoves, fun _ => hcourse⟩
  | dwell =>
    rw [hs] at hcase
    rw [hcase]
    obtain ⟨hmoves, hcourse⟩ := settles Channel.leaveDwell (s.modChan ch Channel.leaveDwell) (State.chan_modChan_self ..)
      (.modChan _ _ _ ⟨rfl, rfl, rfl, rfl, rfl, rfl, rfl, rfl, ⟨rfl, rfl, rfl⟩, ⟨rfl, rfl, rfl, rfl⟩, ⟨rfl, rfl⟩,
        by rw [hs]; exact ⟨nofun, nofun⟩, by rw [hs]; exact ⟨nofun, nofun⟩⟩) rfl rfl
    exact ⟨hmoves, fun _ => hcourse⟩
  | braking =>
    rw [hs] at hcase
    rw [hcase]
    split
    · refine ⟨.trans (.modChan _ _ _ ⟨rfl, rfl, rfl, rfl, rfl, rfl, rfl, rfl, ⟨rfl, rfl, rfl⟩, ⟨rfl, rfl, rfl, rfl⟩, ⟨rfl, rfl⟩,
        .rfl, .rfl⟩) (.setHolders ..), fun _ => ?_⟩
      rw [State.chan_releaseShare, State.chan_modChan_self]
      rfl
    · exact ⟨.refl _ _, fun _ => rfl⟩
  | disabled | idle | faulted => rw [hs] at hcase; rw [hcase]; exact ⟨.refl _ _, fun _ => rfl⟩

theorem State.Resets.endRetries (s : State) (ch : Chan) : Resets ch s (s.modChan ch Channel.endRetries) := by
  constructor
  case others => exact fun _ hd => State.chan_modChan_ne _ _ hd
  case rest => rfl
  all_goals simp [Channel.endRetries]

theorem State.Resets.resetMotion (ch : Chan) (s : State) : Resets ch s (s.resetMotion ch) := by
  obtain ⟨u, hu, hmoves, -⟩ := s.resetMotion_moves ch
  rw [hu]
  exact (of_movesOnly hmoves).trans (.endRetries u ch)

theorem State.resetMotion_aim (s : State) (ch : Chan) :
    ((s.resetMotion ch).chan ch).selected = (s.chan ch).selected
      ∧ ((s.resetMotion ch).chan ch).motion.hand = (s.chan ch).motion.hand
      ∧ ((s.resetMotion ch).chan ch).motion.retry = 0 ∧ ((s.resetMotion ch).chan ch).motion.afterBackoff = false := by
  obtain ⟨u, hu, hmoves, -⟩ := s.resetMotion_moves ch
  rw [hu, State.chan_modChan_self]
  exact ⟨hmoves.chan.selected, hmoves.chan.hand, rfl, rfl⟩

theorem State.resetMotion_course (h : isDriven (s.chan ch).motion.state = false) :
    (s.resetMotion ch).chan ch = (s.chan ch).withCourseOf ((s.resetMotion ch).chan ch) := by
  obtain ⟨u, hu, -, hcourse⟩ := s.resetMotion_moves ch
  rw [hu, State.chan_modChan_self]
  exact Channel.withCourseOf_trans (hcourse h) rfl

/-- After a channel's response it is not driven. -/
theorem State.resetMotion_undriven (s : State) (ch : Chan) : isDriven ((s.resetMotion ch).chan ch).motion.state = false := by
  cases h : isDriven ((s.resetMotion ch).chan ch).motion.state with
  | false => rfl
  | true =>
    have hshare := s.resetMotion_unshared ch
    unfold holdsShare at hshare
    rcases isDriven_iff.1 h with hs | hs <;> rw [hs] at hshare <;> cases hshare

/-! ### A channel at rest -/

/-- A channel stands in the start queue with its present rank and weight, from the present moment on. -/
def JoinedNow (ch : Chan) (u : State) : Prop := findChan ch u.admission.queue = some {
  chan := ch, rank := (u.chan ch).motion.hand.queueRank.getD 6, time := u.clock.now, weight := (u.chan ch).profile.weight }

/-- A channel at rest has tested its target, and stands in the start queue as of now if it waits. -/
structure State.Tested (ch : Chan) (u : State) : Prop where
  state : (u.chan ch).motion.state = if (moveNeeded (u.chan ch)).isSome then .waiting else .idle
  joined : (u.chan ch).motion.state = .waiting → JoinedNow ch u

/-- A channel that is IDLE has no entry in the start queue. -/
def LeftQueue (ch : Chan) (u : State) : Prop := (u.chan ch).motion.state = .idle → ∀ e ∈ u.admission.queue, e.chan ≠ ch

theorem TestsTarget.tested {q : List QueueEntry} (h : TestsTarget ch q u) : u.Tested ch := by
  unfold TestsTarget at h
  split at h
  · next hm =>
    refine ⟨by rw [h.1, if_pos hm], fun _ => ?_⟩
    unfold JoinedNow
    rw [h.2]
    exact findChan_insertEntry (e := ⟨ch, _, _, _⟩) fun _ he => (mem_dropChan.1 he).2
  · next hm => exact ⟨by rw [h.1, if_neg hm], fun hw => by rw [h.1] at hw; cases hw⟩

theorem TestsTarget.leftQueue {q : List QueueEntry} (h : TestsTarget ch q u) (hq : ∀ e ∈ q, e.chan ≠ ch) : LeftQueue ch u := by
  unfold TestsTarget at h
  intro hidle
  split at h
  · rw [h.1] at hidle; cases hidle
  · rw [h.2]; exact hq

/-- How a waiting channel meets its re-target: it stays, under its new rank, or leaves (R49). -/
theorem State.retarget_of_waiting (h : (s.chan ch).motion.state = .waiting) :
    (((s.retarget ch).chan ch).motion.state = .waiting ∧ (moveNeeded ((s.retarget ch).chan ch)).isSome = true
        ∧ (JoinedNow ch s → JoinedNow ch (s.retarget ch)))
      ∨ (((s.retarget ch).chan ch).motion.state = .idle ∧ moveNeeded ((s.retarget ch).chan ch) = none
        ∧ ∀ e ∈ (s.retarget ch).admission.queue, e.chan ≠ ch) := by
  obtain ⟨-, -, hspec⟩ := retargetOutsideMoving
  obtain ⟨-, -, -, -, -, -, -, hwaiting, hleaves, -⟩ := hspec s ch (by rw [h]; nofun)
  let c : Channel := { s.chan ch with
    selected := evaluate s.weather (s.chan ch)
    motion := { (s.chan ch).motion with
      hand := evaluate s.weather (s.chan ch)
      retry := if (s.chan ch).motion.hand.target = (evaluate s.weather (s.chan ch)).target
        then (s.chan ch).motion.retry else 0 } }
  cases hm : moveNeeded c with
  | none =>
    obtain ⟨hat, hqueue⟩ := hleaves h hm
    refine .inr ⟨by rw [hat], by rw [hat]; exact hm, fun e he => ?_⟩
    rw [hqueue] at he
    exact (mem_dropChan.1 he).2
  | some move =>
    have hneeded : (moveNeeded c).isSome = true := by rw [hm]; rfl
    obtain ⟨hat, hqueue⟩ := hwaiting h hneeded
    refine .inl ⟨by rw [hat]; exact h, by rw [hat]; exact hneeded, fun hjoined => ?_⟩
    unfold JoinedNow
    rw [hqueue _ hjoined, hat, State.retarget_clock]
    exact findChan_insertEntry (e := ⟨ch, _, _, _⟩) fun _ he => (mem_dropChan.1 he).2

namespace State.Tested

theorem settleAtRest (s : State) (ch : Chan) : (s.settleAtRest ch).Tested ch := (s.settleAtRest_tests ch).tested

/-- A channel that waits as of now, or is IDLE, has tested its target after a re-target. -/
theorem retarget (h : (s.chan ch).motion.state = .idle ∨ (s.chan ch).motion.state = .waiting ∧ JoinedNow ch s) :
    (s.retarget ch).Tested ch := by
  rcases h with h | ⟨h, hjoined⟩
  · obtain ⟨-, -, hspec⟩ := retargetOutsideMoving
    obtain ⟨-, -, -, -, -, -, hidle, -⟩ := hspec s ch (by rw [h]; nofun)
    exact (hidle h).2.tested
  · rcases State.retarget_of_waiting h with ⟨hstate, hneeded, hkeeps⟩ | ⟨hstate, hdone, -⟩
    · exact ⟨by rw [hstate, if_pos hneeded], fun _ => hkeeps hjoined⟩
    · exact ⟨by rw [hstate, hdone]; rfl, fun hw => by rw [hstate] at hw; cases hw⟩

theorem endRetries (h : u.Tested ch) : (u.modChan ch Channel.endRetries).Tested ch := by
  refine ⟨?_, fun hw => ?_⟩
  · rw [State.chan_modChan_self]; exact h.state
  · unfold JoinedNow
    rw [State.chan_modChan_self] at hw ⊢
    exact h.joined hw

/-- The response of a channel at rest whose movement is still to be tested, or that needs none, leaves it tested. -/
theorem resetMotion (h : (s.chan ch).motion.state = .waiting ∨ (s.chan ch).motion.state = .dwell
    ∨ (s.chan ch).motion.state = .idle ∧ moveNeeded (s.chan ch) = none) : (s.resetMotion ch).Tested ch := by
  obtain ⟨u, hu, hcase⟩ := s.resetMotion_cases ch
  rw [hu]
  refine endRetries ?_
  rcases h with h | h | ⟨h, hdone⟩
  · rw [h] at hcase; rw [hcase]; exact settleAtRest ..
  · rw [h] at hcase; rw [hcase]; exact settleAtRest ..
  · rw [h] at hcase
    rw [hcase]
    exact ⟨by rw [h, hdone]; rfl, fun hw => by rw [h] at hw; cases hw⟩

/-- What a tested channel still meets its re-target from. -/
theorem idle_or_joined (h : u.Tested ch) :
    (u.chan ch).motion.state = .idle ∨ (u.chan ch).motion.state = .waiting ∧ JoinedNow ch u := by
  have hstate := h.state
  split at hstate
  · exact .inr ⟨hstate, h.joined hstate⟩
  · exact .inl hstate

end State.Tested

theorem LeftQueue.endRetries (h : LeftQueue ch u) : LeftQueue ch (u.modChan ch Channel.endRetries) := fun hidle => by
  rw [State.chan_modChan_self] at hidle
  exact h hidle

theorem LeftQueue.resetMotion (h : (s.chan ch).motion.state = .waiting
    ∨ (s.chan ch).motion.state = .idle ∧ ∀ e ∈ s.admission.queue, e.chan ≠ ch) : LeftQueue ch (s.resetMotion ch) := by
  obtain ⟨u, hu, hcase⟩ := s.resetMotion_cases ch
  rw [hu]
  refine endRetries ?_
  rcases h with h | ⟨h, habsent⟩
  · rw [h] at hcase
    rw [hcase]
    exact (State.settleAtRest_tests ..).leftQueue fun _ he => (mem_dropChan.1 he).2
  · rw [h] at hcase
    rw [hcase]
    exact fun _ => habsent

theorem LeftQueue.retarget (h : LeftQueue ch s) (hrest : (s.chan ch).motion.state = .waiting ∨ (s.chan ch).motion.state = .idle) :
    LeftQueue ch (s.retarget ch) := by
  rcases hrest with hw | hidle
  · rcases State.retarget_of_waiting hw with ⟨hstate, -⟩ | ⟨-, -, habsent⟩
    · exact fun hidle => by rw [hstate] at hidle; cases hidle
    · exact fun _ => habsent
  · obtain ⟨-, -, hspec⟩ := retargetOutsideMoving
    obtain ⟨-, -, -, -, -, -, hspec, -⟩ := hspec s ch (by rw [hidle]; nofun)
    exact (hspec hidle).2.leftQueue (h hidle)

/-- BRAKING, DWELL, BACKOFF and FAULTED only store the target of a re-target (R49). -/
theorem State.retarget_of_stored (h : (s.chan ch).motion.state = .braking ∨ (s.chan ch).motion.state = .dwell
    ∨ (s.chan ch).motion.state = .backoff ∨ (s.chan ch).motion.state = .faulted) :
    (s.retarget ch).chan ch = (s.chan ch).takeInHand s.weather := by
  obtain ⟨-, -, hspec⟩ := retargetOutsideMoving
  obtain ⟨-, -, -, -, -, -, -, -, -, hstored, -⟩ := hspec s ch (by rcases h with h | h | h | h <;> rw [h] <;> nofun)
  exact (hstored h).1.trans (Channel.takeInHand_eq ..).symm

theorem State.resetMotion_of_idle (h : (s.chan ch).motion.state = .idle) :
    ((s.resetMotion ch).chan ch).motion.state = .idle := by
  obtain ⟨u, hu, hcase⟩ := s.resetMotion_cases ch
  rw [h] at hcase
  rw [hu, hcase, State.chan_modChan_self]
  exact h

/-- A re-target of a channel that is not driven leaves its state, or is a test of a channel at rest. -/
theorem State.retarget_state (h : isDriven (s.chan ch).motion.state = false) :
    ((s.retarget ch).chan ch).motion.state = (s.chan ch).motion.state
      ∨ ((s.retarget ch).chan ch).motion.state = .idle ∨ ((s.retarget ch).chan ch).motion.state = .waiting := by
  have stored (hs : (s.chan ch).motion.state = .braking ∨ (s.chan ch).motion.state = .dwell
      ∨ (s.chan ch).motion.state = .backoff ∨ (s.chan ch).motion.state = .faulted) :
      ((s.retarget ch).chan ch).motion.state = (s.chan ch).motion.state := by rw [State.retarget_of_stored hs]; rfl
  cases hs : (s.chan ch).motion.state with
  | moving | backoff => rw [hs] at h; cases h
  | disabled => exact .inl ((State.Retargets.retarget ch s).disabled.2 hs)
  | idle => exact .inr ((State.Tested.retarget (.inl hs)).idle_or_joined.imp_right And.left)
  | waiting => exact .inr ((State.retarget_of_waiting hs).symm.imp And.left And.left)
  | braking => exact .inl ((stored (.inl hs)).trans hs)
  | dwell => exact .inl ((stored (.inr (.inl hs))).trans hs)
  | faulted => exact .inl ((stored (.inr (.inr (.inr hs)))).trans hs)

/-- A re-target drives no channel. -/
theorem State.retarget_undriven (h : isDriven (s.chan ch).motion.state = false) :
    isDriven ((s.retarget ch).chan ch).motion.state = false := by
  rcases State.retarget_state h with hstate | hstate | hstate <;> rw [hstate]
  · exact h
  · rfl
  · rfl

/-! ### A channel in BRAKING, and one that is driven -/

/-- The braking reason and the halt cause after a response to STATION RESET (R74). -/
def Channel.stopObstruct (c : Channel) : Channel :=
  if c.motion.reason = some .obstruct then { c with motion := { c.motion with reason := some .stop, haltCause := none } } else c

theorem State.resetMotion_of_braking (h : (s.chan ch).motion.state = .braking) :
    (s.resetMotion ch).chan ch = (s.chan ch).stopObstruct.endRetries := by
  obtain ⟨u, hu, hcase⟩ := s.resetMotion_cases ch
  rw [h] at hcase
  rw [hu, hcase, State.chan_modChan_self]
  refine congrArg Channel.endRetries ?_
  unfold Channel.stopObstruct
  split
  · rw [State.chan_releaseShare, State.chan_modChan_self]
  · rfl

/-- A channel that brakes for `reason` from the moment its drive was removed, with the brake settle time of `p`. -/
structure Channel.Halted (p : Profile) (reason : BrakingReason) (c : Channel) : Prop where
  state : c.motion.state = .braking
  reason : c.motion.reason = some reason
  cause : c.motion.haltCause = none
  settles : c.motion.settleTimer = some (10 * p.settleUnits)
  coast : c.motion.coast = 0
  off : DriveIsOff c

theorem Channel.Halted.brake (s : State) (ch : Chan) (reason : BrakingReason) (b : Bool) :
    ((s.brake ch reason none b).chan ch).Halted (s.chan ch).profile reason := by
  obtain ⟨hmotion, hoff, -⟩ := s.haltsMove_brake ch reason b
  exact ⟨by rw [hmotion], by rw [hmotion], by rw [hmotion], by rw [hmotion], by rw [hmotion], hoff⟩

theorem Channel.Halted.retarget {p : Profile} {reason : BrakingReason} (h : (s.chan ch).Halted p reason) :
    ((s.retarget ch).chan ch).Halted p reason := by
  rw [State.retarget_of_braking h.state]
  exact ⟨h.state, h.reason, h.cause, h.settles, h.coast, h.off⟩

theorem Channel.Halted.resetMotion {p : Profile} {reason : BrakingReason} (h : (s.chan ch).Halted p reason)
    (hne : reason ≠ .obstruct) : ((s.resetMotion ch).chan ch).Halted p reason := by
  rw [State.resetMotion_of_braking h.state, Channel.stopObstruct,
    if_neg (by rw [h.reason]; exact fun he => hne (Option.some.inj he))]
  exact ⟨h.state, h.reason, h.cause, h.settles, h.coast, h.off⟩

theorem Channel.Halted.resetMotion_of_driven (h : isDriven (s.chan ch).motion.state = true) :
    ((s.resetMotion ch).chan ch).Halted (s.chan ch).profile .stop := by
  obtain ⟨u, hu, hcase⟩ := s.resetMotion_cases ch
  have hbrake : u = s.brake ch .stop none false := by
    rcases isDriven_iff.1 h with hs | hs <;> rw [hs] at hcase <;> exact hcase
  obtain ⟨hstate, hreason, hcause, hsettles, hcoast, hoff⟩ := Channel.Halted.brake s ch .stop false
  rw [hu, hbrake, State.chan_modChan_self]
  exact ⟨hstate, hreason, hcause, hsettles, hcoast, hoff⟩

/-- A re-target of a driven channel leaves it driven, or brakes it for STOP, or for ARRIVE at the end of a timed move. -/
theorem State.retarget_of_driven (h : isDriven (s.chan ch).motion.state = true) :
    isDriven ((s.retarget ch).chan ch).motion.state = true
      ∨ ((s.retarget ch).chan ch).Halted (s.chan ch).profile .stop
      ∨ ((s.retarget ch).chan ch).Halted (s.chan ch).profile .arrive ∧ (s.chan ch).motion.state = .moving
          ∧ TimedReached ((s.chan ch).takeInHand s.weather) := by
  rcases isDriven_iff.1 h with hs | hs
  · let w := s.modChan ch (·.takeInHand s.weather)
    have hw : w.chan ch = (s.chan ch).takeInHand s.weather := State.chan_modChan_self ..
    have hwstate : (w.chan ch).motion.state = .moving := by rw [hw]; exact hs
    obtain ⟨v, hmeets, hat⟩ : ∃ v, w.MoveMeets ch v ∧ (s.retarget ch).chan ch = v.chan ch := by
      refine ⟨_, .retargetMoving w ch ((s.chan ch).motion.hand.target != (evaluate s.weather (s.chan ch)).target), ?_⟩
      rw [State.retarget_eq (by rw [hs]; nofun), State.passRank_chan, State.actOnTarget, hwstate]
    rw [hat]
    cases hmeets with
    | goesOn f hf =>
      refine .inl ?_
      rw [State.chan_modChan_self, (hf _).1, hwstate]
      rfl
    | stops =>
      have hhalted := Channel.Halted.brake w ch .stop false
      rw [hw] at hhalted
      exact .inr (.inl hhalted)
    | arrives f hf hreached =>
      have hhalted := Channel.Halted.brake (w.modChan ch f) ch .arrive false
      rw [State.chan_modChan_self, (hf _).2, hw] at hhalted
      rw [hw] at hreached
      exact .inr (.inr ⟨hhalted, hs, hreached⟩)
  · exact .inl (by rw [State.retarget_of_stored (.inr (.inr (.inl hs)))]; exact h)

namespace State.ResetOrder

theorem tested (h : s.ResetOrder ch changed u) (hrest : (s.chan ch).motion.state = .waiting ∨ (s.chan ch).motion.state = .dwell) :
    u.Tested ch := by
  cases h with
  | alone => exact .resetMotion (hrest.imp_right .inl)
  | before => exact .retarget (State.Tested.resetMotion (hrest.imp_right .inl)).idle_or_joined
  | after =>
    refine .resetMotion ?_
    rcases hrest with hw | hd
    · rcases State.retarget_of_waiting hw with ⟨hstate, -⟩ | ⟨hstate, hdone, -⟩
      · exact .inl hstate
      · exact .inr (.inr ⟨hstate, hdone⟩)
    · exact .inr (.inl (by rw [State.retarget_of_stored (.inr (.inl hd))]; exact hd))

theorem tested_of_idle (h : s.ResetOrder ch true u) (hidle : (s.chan ch).motion.state = .idle) : u.Tested ch := by
  cases h with
  | before => exact .retarget (.inl (State.resetMotion_of_idle hidle))
  | after =>
    have htested := State.Tested.retarget (.inl hidle)
    refine .resetMotion ?_
    have hstate := htested.state
    split at hstate
    · exact .inl hstate
    · next hm => exact .inr (.inr ⟨hstate, by simpa using hm⟩)

theorem idle_of_alone (h : s.ResetOrder ch false u) (hidle : (s.chan ch).motion.state = .idle) :
    (u.chan ch).motion.state = .idle := by
  cases h with
  | alone => exact State.resetMotion_of_idle hidle

/-- A channel at rest that waits after its turn has joined the queue in it. -/
theorem joined (h : s.ResetOrder ch changed u) (hrest : (s.chan ch).motion.state = .waiting ∨ (s.chan ch).motion.state = .dwell
    ∨ (s.chan ch).motion.state = .idle) (hw : (u.chan ch).motion.state = .waiting) : JoinedNow ch u := by
  rcases or_assoc.2 hrest with hrest | hidle
  · exact (h.tested hrest).joined hw
  · cases changed with
    | true => exact (h.tested_of_idle hidle).joined hw
    | false => rw [h.idle_of_alone hidle] at hw; cases hw

theorem leftQueue (h : s.ResetOrder ch changed u) (hw : (s.chan ch).motion.state = .waiting) : LeftQueue ch u := by
  cases h with
  | alone => exact .resetMotion (.inl hw)
  | before =>
    have hrest := (State.Tested.resetMotion (.inl hw)).idle_or_joined
    exact .retarget (.resetMotion (.inl hw)) (hrest.symm.imp_left And.left)
  | after =>
    refine .resetMotion ?_
    rcases State.retarget_of_waiting hw with ⟨hstate, -⟩ | ⟨hstate, -, habsent⟩
    · exact .inl hstate
    · exact .inr ⟨hstate, habsent⟩

/-- What a channel's turn keeps, in either order. -/
theorem resets (h : s.ResetOrder ch changed u) : Resets ch s u := by
  cases h with
  | alone => exact .resetMotion ch s
  | before => exact (Resets.resetMotion ch s).trans (.of_retargets (.retarget ch _))
  | after => exact (Resets.of_retargets (.retarget ch s)).trans (.resetMotion ch _)

/-- A channel whose slots were emptied ends under its own evaluation. -/
theorem evaluated (h : s.ResetOrder ch true u) : Evaluated u.weather (u.chan ch) := by
  cases h with
  | before => exact (Retargets.retarget ch _).evaluated
  | after =>
    obtain ⟨hselected, hhand, -⟩ := (s.retarget ch).resetMotion_aim ch
    exact (Resets.resetMotion ch _).evaluated hselected hhand (Retargets.retarget ch s).evaluated

theorem aim_of_alone (h : s.ResetOrder ch false u) :
    (u.chan ch).selected = (s.chan ch).selected ∧ (u.chan ch).motion.hand = (s.chan ch).motion.hand := by
  cases h with
  | alone =>
    obtain ⟨hselected, hhand, -⟩ := s.resetMotion_aim ch
    exact ⟨hselected, hhand⟩

theorem retries (h : s.ResetOrder ch changed u) :
    (u.chan ch).motion.retry = 0 ∧ (u.chan ch).motion.afterBackoff = false := by
  cases h with
  | alone => exact (s.resetMotion_aim ch).2.2
  | before =>
    obtain ⟨-, -, hretry, hafter⟩ := s.resetMotion_aim ch
    have hundriven := s.resetMotion_undriven ch
    obtain ⟨-, hsame, hkeeps⟩ := State.retarget_course (s := s.resetMotion ch) (ch := ch)
      fun hm => by rw [hm] at hundriven; cases hundriven
    exact ⟨hkeeps hretry, hsame.trans hafter⟩
  | after => exact ((s.retarget ch).resetMotion_aim ch).2.2

/-- A channel that is not driven meets a reset with its course alone. -/
theorem course (h : s.ResetOrder ch changed u) (hs : isDriven (s.chan ch).motion.state = false) :
    u.chan ch = (s.chan ch).withCourseOf (u.chan ch) := by
  have hmoving : (s.chan ch).motion.state ≠ .moving := fun hm => by rw [hm] at hs; cases hs
  cases h with
  | alone => exact State.resetMotion_course hs
  | before =>
    have hundriven := s.resetMotion_undriven ch
    exact Channel.withCourseOf_trans (State.resetMotion_course hs)
      (State.retarget_course fun hm => by rw [hm] at hundriven; cases hundriven).1
  | after =>
    exact Channel.withCourseOf_trans (State.retarget_course hmoving).1 (State.resetMotion_course (State.retarget_undriven hs))

/-- A driven channel brakes to a stop, or ends its timed move. -/
theorem halted (h : s.ResetOrder ch changed u) (hs : isDriven (s.chan ch).motion.state = true) :
    (u.chan ch).Halted (s.chan ch).profile .stop
      ∨ (u.chan ch).Halted (s.chan ch).profile .arrive ∧ changed = true ∧ (s.chan ch).motion.state = .moving
          ∧ (u.chan ch).selected = evaluate s.weather (s.chan ch) ∧ TimedReached ((s.chan ch).takeInHand s.weather) := by
  cases h with
  | alone => exact .inl (.resetMotion_of_driven hs)
  | before => exact .inl (Channel.Halted.resetMotion_of_driven hs).retarget
  | after =>
    have hretargets := Retargets.retarget ch s
    rcases State.retarget_of_driven hs with hdriven | hstop | ⟨harrive, hmoving, hreached⟩
    · have hhalted := Channel.Halted.resetMotion_of_driven hdriven
      rw [hretargets.claims.1] at hhalted
      exact .inl hhalted
    · exact .inl (hstop.resetMotion nofun)
    · exact .inr ⟨harrive.resetMotion nofun, rfl, hmoving, ((s.retarget ch).resetMotion_aim ch).1.trans hretargets.selected, hreached⟩

/-- A channel in BRAKING goes on with it, for STOP where it was for OBSTRUCT. -/
theorem braking (h : s.ResetOrder ch changed u) (hs : (s.chan ch).motion.state = .braking) :
    (u.chan ch).motion.state = .braking ∧ (u.chan ch).motion.reason = (s.chan ch).stopObstruct.motion.reason
      ∧ (u.chan ch).motion.haltCause = (s.chan ch).stopObstruct.motion.haltCause := by
  have hstate : (s.chan ch).stopObstruct.motion.state = .braking := by
    unfold Channel.stopObstruct
    split <;> exact hs
  have hreset := State.resetMotion_of_braking hs
  cases h with
  | alone =>
    rw [hreset]
    exact ⟨hstate, rfl, rfl⟩
  | before =>
    rw [State.retarget_of_braking (by rw [hreset]; exact hstate), hreset]
    exact ⟨hstate, rfl, rfl⟩
  | after =>
    have hat := State.retarget_of_braking hs
    have hsame : ((s.chan ch).takeInHand s.weather).stopObstruct = (s.chan ch).stopObstruct.takeInHand s.weather := by
      unfold Channel.stopObstruct
      by_cases hr : (s.chan ch).motion.reason = some .obstruct
      · rw [if_pos (show ((s.chan ch).takeInHand s.weather).motion.reason = _ from hr), if_pos hr]
        rfl
      · rw [if_neg (show ¬ ((s.chan ch).takeInHand s.weather).motion.reason = _ from hr), if_neg hr]
    rw [State.resetMotion_of_braking (by rw [hat]; exact hs), hat, hsame]
    exact ⟨hstate, rfl, rfl⟩

/-- A channel holds no share after its turn (R74). -/
theorem unshared (h : s.ResetOrder ch changed u) : holdsShare (u.chan ch) = false := by
  cases h with
  | alone => exact s.resetMotion_unshared ch
  | before =>
    have hunshared := s.resetMotion_unshared ch
    have hundriven := s.resetMotion_undriven ch
    generalize s.resetMotion ch = v at hunshared hundriven
    by_cases hbraking : (v.chan ch).motion.state = .braking
    · rw [State.retarget_of_braking hbraking]
      exact hunshared
    · unfold holdsShare at hunshared ⊢
      rcases State.retarget_state hundriven with hstate | hstate | hstate <;> rw [hstate]
      cases hs : (v.chan ch).motion.state with
      | moving | backoff => rw [hs] at hundriven; cases hundriven
      | braking => exact absurd hs hbraking
      | disabled | idle | waiting | dwell | faulted => rfl
  | after => exact (s.retarget ch).resetMotion_unshared ch

end State.ResetOrder

/-! ### The turns of all channels -/

/-- What the turn of another channel leaves to channel `ch`. -/
def Spares (ch : Chan) (s u : State) : Prop :=
  u.chan ch = s.chan ch ∧ KeepsEntries ch s u ∧ u.clock = s.clock ∧ u.weather = s.weather

theorem Spares.trans (h : Spares ch s u) (k : Spares ch u v) : Spares ch s v := by
  obtain ⟨hchan, hentries, hclock, hweather⟩ := h
  obtain ⟨kchan, kentries, kclock, kweather⟩ := k
  exact ⟨kchan.trans hchan, hentries.trans kentries, kclock.trans hclock, kweather.trans hweather⟩

theorem Spares.resetChannel (hne : d ≠ ch) (s : State) (changed : Bool) : Spares ch s (s.resetChannel d changed) := by
  obtain ⟨hrest, hothers, -⟩ := ActsOn.resetChannel d s changed
  obtain ⟨-, -, -, -, -, hweather, -, -, -, hclock⟩ := hrest.fields
  exact ⟨hothers ch hne.symm, .resetChannel hne s changed, hclock, hweather⟩

theorem Spares.foldl {l : List Chan} (h : ch ∉ l) (f : Chan → Bool) (s : State) :
    Spares ch s (l.foldl (fun u d => u.resetChannel d (f d)) s) :=
  List.foldlRecOn l _ (motive := Spares ch s) ⟨rfl, rfl, rfl, rfl⟩ fun _ hu d hd =>
    hu.trans (.resetChannel (fun he => h (by rw [← he]; exact hd)) ..)

/-- Each channel has its own turn, between turns that spare it. -/
theorem foldl_resetChannel (f : Chan → Bool) (s : State) (ch : Chan) :
    ∃ v, Spares ch s v ∧ Spares ch (v.resetChannel ch (f ch)) (allChans.foldl (fun u d => u.resetChannel d (f d)) s) := by
  obtain ⟨before, after, hsplit⟩ := List.append_of_mem (show ch ∈ allChans by cases ch <;> decide)
  have hnodup : (before ++ ch :: after).Nodup := hsplit ▸ (by decide)
  obtain ⟨hfresh, -⟩ := List.nodup_cons.1 (List.nodup_middle.1 hnodup)
  rw [hsplit, List.foldl_append, List.foldl_cons]
  exact ⟨_, .foldl (fun h => hfresh (List.mem_append_left _ h)) .., .foldl (fun h => hfresh (List.mem_append_right _ h)) ..⟩

/-- What the turns of a STATION RESET change in all: the claims and the motion, with the reports as they were. -/
def OnlyTurns (s u : State) : Prop := OnlyClaims s u ∧ u.line = s.line ∧ u.reports = s.reports

theorem OnlyClaims.trans (h : OnlyClaims s u) (k : OnlyClaims u v) : OnlyClaims s v := by
  obtain ⟨hrest, hbudget, hstagger, hsensed, hkept⟩ := h
  obtain ⟨krest, kbudget, kstagger, ksensed, kkept⟩ := k
  refine ⟨krest.trans (by rw [hrest]), kbudget.trans hbudget, kstagger.trans hstagger, fun d => ?_, fun d => ?_⟩
  · obtain ⟨h1, h2, h3, h4⟩ := hsensed d
    obtain ⟨k1, k2, k3, k4⟩ := ksensed d
    exact ⟨k1.trans h1, k2.trans h2, k3.trans h3, k4.trans h4⟩
  · obtain ⟨h1, h2, h3, h4, h5⟩ := hkept d
    obtain ⟨k1, k2, k3, k4, k5⟩ := kkept d
    exact ⟨k1.trans h1, k2.trans h2, k3.trans h3, k4.trans h4, k5.trans h5⟩

theorem OnlyTurns.trans (h : OnlyTurns s u) (k : OnlyTurns u v) : OnlyTurns s v := by
  obtain ⟨hclaims, hline, hreports⟩ := h
  obtain ⟨kclaims, kline, kreports⟩ := k
  exact ⟨hclaims.trans kclaims, kline.trans hline, kreports.trans hreports⟩

theorem OnlyClaims.weather (h : OnlyClaims s u) : u.weather = s.weather := by rw [h.1]

theorem State.Resets.onlyTurns (h : s.Resets ch u) : OnlyTurns s u := by
  refine ⟨⟨Eq.trans h.rest (by rw [h.rest]), h.gate.1, h.gate.2, fun d => ?_, fun d => ?_⟩, ?_, h.reports⟩
  · by_cases hd : d = ch
    · subst hd; exact h.sensed
    · rw [h.others d hd]; exact ⟨rfl, rfl, rfl, rfl⟩
  · by_cases hd : d = ch
    · subst hd; exact ⟨h.claims.1, h.referenced, h.fault, h.counts.1, h.counts.2⟩
    · rw [h.others d hd]; exact ⟨rfl, rfl, rfl, rfl, rfl⟩
  · rw [h.rest]

theorem State.Resets.markReset (driven : Bool) (s : State) (ch : Chan) :
    Resets ch s (s.modChan ch (Channel.markReset driven)) := by
  constructor
  case others => exact fun _ hd => State.chan_modChan_ne _ _ hd
  case rest => rfl
  all_goals simp [Channel.markReset]

theorem State.Resets.resetChannel (ch : Chan) (s : State) (changed : Bool) : Resets ch s (s.resetChannel ch changed) := by
  obtain ⟨u, horder, hu⟩ := s.resetChannel_order ch changed
  have hordered : Resets ch s s.freeOrder.2 :=
    ⟨⟨rfl, rfl, rfl⟩, rfl, rfl, ⟨rfl, rfl, rfl⟩, ⟨rfl, rfl, rfl, rfl⟩, ⟨rfl, rfl⟩, .rfl, .rfl, fun _ _ => rfl, rfl, rfl, ⟨rfl, rfl⟩⟩
  rw [hu]
  exact (hordered.trans horder.resets).trans (.markReset _ u ch)

theorem OnlyTurns.foldl (l : List Chan) (f : Chan → Bool) (s : State) :
    OnlyTurns s (l.foldl (fun u d => u.resetChannel d (f d)) s) :=
  List.foldlRecOn l _ (motive := OnlyTurns s)
    ⟨⟨rfl, rfl, rfl, fun _ => ⟨rfl, rfl, rfl, rfl⟩, fun _ => ⟨rfl, rfl, rfl, rfl, rfl⟩⟩, rfl, rfl⟩
    fun u hu d _ => hu.trans (State.Resets.resetChannel d u (f d)).onlyTurns

/-! ### STATION RESET -/

/-- The claims and the reports that a STATION RESET empties before the channels take their turns (R20, R170). -/
def State.emptied (s : State) : State :=
  { s with chans := s.chans.map Channel.resetClaims, reports := { s.reports with records := [] } }

theorem State.chan_emptied (s : State) (ch : Chan) : s.emptied.chan ch = (s.chan ch).resetClaims := PerChan.get_map ..

theorem contains_resetChanged : (resetChanged s).contains ch = true ↔
    (s.chan ch).slots ≠ { smoke := (s.chan ch).slots.smoke } := by
  have hmem : ch ∈ allChans := by cases ch <;> decide
  rw [List.contains_iff_mem, resetChanged, List.mem_filter, bne_iff_ne]
  exact ⟨fun h => Ne.symm h.2, fun h => ⟨hmem, Ne.symm h⟩⟩

/-- A STATION RESET, channel by channel: the state in which each takes its turn, and the order of that turn. -/
theorem State.stationReset_turn (s : State) (ch : Chan) : ∃ v u : State,
    v.chan ch = (s.chan ch).resetClaims ∧ v.clock = s.clock ∧ v.weather = s.weather
      ∧ v.ResetOrder ch ((resetChanged s).contains ch) u
      ∧ s.stationReset.chan ch = (u.chan ch).markReset (isDriven (s.chan ch).motion.state)
      ∧ entriesOf ch s.stationReset.admission.queue = entriesOf ch u.admission.queue := by
  obtain ⟨v, ⟨hchan, -, hclock, hweather⟩, ⟨hafter, hentries, -⟩⟩ := foldl_resetChannel (resetChanged s).contains s.emptied ch
  obtain ⟨u, horder, hu⟩ := v.resetChannel_order ch ((resetChanged s).contains ch)
  rw [State.chan_emptied] at hchan
  refine ⟨v.freeOrder.2, u, hchan, hclock, hweather, horder, ?_, ?_⟩
  · refine hafter.trans ?_
    rw [hu, State.chan_modChan_self, hchan]
    rfl
  · refine Eq.trans hentries ?_
    rw [hu]
    rfl

theorem State.stationReset_onlyTurns (s : State) : OnlyClaims s s.stationReset ∧ s.stationReset.line = s.line
    ∧ s.stationReset.reports = { s.reports with records := [] } := by
  have hempties : OnlyClaims s s.emptied := by
    refine ⟨rfl, rfl, rfl, fun d => ?_, fun d => ?_⟩
    · rw [State.chan_emptied]; exact ⟨rfl, rfl, rfl, rfl⟩
    · rw [State.chan_emptied]; exact ⟨rfl, rfl, rfl, rfl, rfl⟩
  obtain ⟨hclaims, hline, hreports⟩ := OnlyTurns.foldl allChans (resetChanged s).contains s.emptied
  exact ⟨hempties.trans hclaims, hline, hreports⟩

theorem OnlyClaims.withLine (s : State) (l : Line) : OnlyClaims s { s with line := l } :=
  ⟨rfl, rfl, rfl, fun _ => ⟨rfl, rfl, rfl, rfl⟩, fun _ => ⟨rfl, rfl, rfl, rfl, rfl⟩⟩

/-- After a STATION RESET no channel holds a share (R94). -/
theorem State.stationReset_holders (h : MotionOk s) : s.stationReset.admission.holders = [] := by
  have hmotion : MotionOk s.stationReset := keptInside_motionOk.performStationReset (p := []) h
  refine List.eq_nil_iff_forall_not_mem.2 fun e he => ?_
  have hshare := ((motionOk_iff.1 hmotion).seat e.chan).sharing.2 ⟨e, he, rfl⟩
  obtain ⟨v, u, -, -, -, horder, hchan, -⟩ := s.stationReset_turn e.chan
  have hunshared : holdsShare (s.stationReset.chan e.chan) = false := by
    rw [hchan]
    exact horder.unshared
  rw [hunshared] at hshare
  cases hshare

/-- Settles O57: the turns leave the rest of the station, and each channel's turn is read state by state. -/
theorem stationResetStopsTheMotion : Obligations.StationResetStopsTheMotion := by
  unfold Obligations.StationResetStopsTheMotion
  intro s station tag p h
  let w : State := { s with line := heard s }
  refine ⟨fun hp => ?_, fun hp => ?_⟩
  · obtain ⟨b, rest, rfl⟩ := List.exists_cons_of_ne_nil hp
    exact next_refused h (k := 0x14) (perform := performStationReset (b :: rest)) rfl
  · subst hp
    obtain ⟨hclaims, hline, hreports⟩ := w.stationReset_onlyTurns
    let u : State := (performStationReset [] w).answers tag
    refine ⟨u, next_performed h 0x14 (performStationReset []), ?_, ?_, hreports, fun hmotion => ?_, fun ch => ?_⟩
    · exact ((OnlyClaims.withLine s _).trans hclaims).trans (.withLine _ _)
    · show ({ w.stationReset.line with reply := some (replyFrame w.stationReset.line.station tag _) } : Line) = _
      rw [hline]
      rfl
    · exact State.stationReset_holders (s := w) hmotion
    · intro m d target emptied
      obtain ⟨v, x, hv, hclock, hweather, horder, hat, hentries⟩ := w.stationReset_turn ch
      have hchanged : (resetChanged w).contains ch = true ↔ emptied := contains_resetChanged
      generalize (resetChanged w).contains ch = changed at horder hchanged
      have hkept := horder.resets
      have hu : u.chan ch = (x.chan ch).markReset (isDriven m.state) := hat
      have hm : (v.chan ch).motion = m := by rw [hv]; rfl
      have hd : d = ((x.chan ch).markReset (isDriven m.state)).motion := congrArg Channel.motion hu
      have hneeded : moveNeeded (u.chan ch) = moveNeeded (x.chan ch) := by rw [hu]; rfl
      obtain ⟨hretry, hafter⟩ := horder.retries
      obtain ⟨hopen, hclose, hest⟩ := hkept.estimates
      rw [hm] at hopen hclose hest
      have hprofile : (x.chan ch).profile = (s.chan ch).profile := by rw [hkept.claims.1, hv]; rfl
      refine ⟨?_, ?_, fun he => ?_, fun he => ?_, ?_, ?_, ?_, ?_, ?_, fun hs => ?_, ?_, fun hs => ?_, fun hs => ?_, fun hs => ?_,
        fun hs hw => ?_, fun hs hidle => ?_, fun hs => ?_, fun hs => ?_, fun hs => ?_⟩
      · rw [hu]; exact hkept.claims.2.1.trans (by rw [hv]; rfl)
      · rw [hu]; exact hkept.claims.2.2.trans (by rw [hv]; rfl)
      · rw [hchanged.2 he] at horder
        have heval := horder.evaluated
        rw [hkept.weather, hweather] at heval
        rw [hu, show u.weather = w.weather by exact hclaims.weather]
        exact heval
      · have hfalse : changed = false := Bool.eq_false_iff.2 fun hc => he (hchanged.1 hc)
        subst hfalse
        obtain ⟨hselected, hhand⟩ := horder.aim_of_alone
        rw [hd, hu]
        exact ⟨hselected.trans (by rw [hv]; rfl), hhand.trans (by rw [hm])⟩
      · rw [hd]; exact hretry
      · rw [hd]; exact hafter
      · rw [hd]; exact hopen
      · rw [hd]; exact hclose
      · rw [hd]; exact hest
      · have hdriven : isDriven (v.chan ch).motion.state = true := by rw [hm]; exact isDriven_iff.2 hs
        rcases horder.halted hdriven with hstop | ⟨harrive, hc, hmoving, hselected, hreached⟩
        · obtain ⟨hstate, hreason, hcause, hsettles, hcoast, hoff⟩ := hstop
          rw [hd, hu]
          exact ⟨hstate, hcause, hsettles.trans (by rw [hv]; rfl), hcoast, hoff, .inl hreason⟩
        · obtain ⟨hstate, hreason, hcause, hsettles, hcoast, hoff⟩ := harrive
          rw [hv] at hreached hselected
          obtain ⟨hkind, l, hl, hrank, hless, hlasted⟩ := hreached
          have htarget : target = evaluate v.weather (w.chan ch).resetClaims := (congrArg Channel.selected hu).trans hselected
          rw [htarget, hd, hu]
          exact ⟨hstate, hcause, hsettles.trans (by rw [hv]; rfl), hcoast, hoff,
            .inr ⟨hreason, hchanged.1 hc, by rw [← hm]; exact hmoving, hkind, l, hl, hrank, hless, hlasted⟩⟩
      · rw [hd]
        show ((x.chan ch).motion.byReset || isDriven m.state) = _
        cases hdriven : isDriven m.state with
        | true => rw [Bool.or_true, Bool.or_true]
        | false => rw [horder.course (by rw [hm]; exact hdriven), ← hm]; rfl
      · obtain ⟨hstate, hreason, hcause⟩ := horder.braking (by rw [hm]; exact hs)
        rw [Channel.stopObstruct, hm] at hreason hcause
        rw [hd]
        refine ⟨hstate, fun ho => ?_, fun ho => ?_⟩
        · rw [if_pos ho] at hreason hcause
          exact ⟨hreason, hcause⟩
        · rw [if_neg ho, hv] at hreason hcause
          exact ⟨hreason, hcause⟩
      · have htested := horder.tested (by rw [hm]; exact hs)
        rw [hneeded, hd]
        exact htested.state
      · rw [hneeded, hd]
        cases changed with
        | true =>
          have htested := horder.tested_of_idle (by rw [hm]; exact hs)
          simp only [hchanged.1 rfl, true_and]
          exact htested.state
        | false =>
          rw [if_neg fun hc => absurd (hchanged.2 hc.1) nofun]
          exact horder.idle_of_alone (by rw [hm]; exact hs)
      · have hjoined : JoinedNow ch x := by
          rw [hd] at hw
          exact horder.joined (by rw [hm]; exact hs) hw
        rw [findChan_eq_head?, show entriesOf ch u.admission.queue = _ from hentries, ← findChan_eq_head?, hd, ← hprofile]
        refine Eq.trans hjoined ?_
        rw [hkept.clock, hclock]
        rfl
      · have hleft := horder.leftQueue (by rw [hm]; exact hs)
        rw [hd] at hidle
        exact entriesOf_eq_nil.1 (Eq.trans hentries (entriesOf_eq_nil.2 (hleft hidle)))
      · have hcourse := horder.course (by rw [hm]; exact hs)
        rw [hu]
        show (x.chan ch).travel = _ ∧ (x.chan ch).current = _ ∧ (x.chan ch).drive = _
        rw [hcourse, hv]
        exact ⟨rfl, rfl, rfl⟩
      · rw [hd]; exact hkept.faulted.2 (by rw [hm]; exact hs)
      · rw [hd]; exact hkept.disabled.2 (by rw [hm]; exact hs)

end Sys2Proof.Machine
end
